-- ==== Sys2Proof/Word.lean ====
section
/-! DEFINITION. The word types of the VT3 and the plain containers the state is built from:
one value per lane, one per ring port, and sparse tables in one canonical form. -/
namespace Sys2Proof

abbrev Byte := BitVec 8
abbrev W16 := BitVec 16
abbrev W32 := BitVec 32
abbrev W64 := BitVec 64

/-- The three lanes (R18). -/
inductive Lane where
  | a | b | c
deriving DecidableEq, Repr

/-- One value for each lane. -/
structure Tri (α : Type) where
  a : α
  b : α
  c : α
deriving DecidableEq, Repr

/-- One value for each ring port 0 to 3. -/
structure Quad (α : Type) where
  p0 : α
  p1 : α
  p2 : α
  p3 : α
deriving DecidableEq, Repr

/-- A ring port number. -/
abbrev Ring := Fin 4

/-- A host: the chip select it uses (R407), which is also its event router target. -/
abbrev HostId := Fin 4

/-- A sparse table: strictly rising keys, no entry equal to what an unlisted key reads as. -/
abbrev Tab (α : Type) := List (Nat × α)

end Sys2Proof
end

