-- ==== Sys2Proof/Syntax.lean ====
section
/-! DEFINITION. The commands of the VT3: one constructor of Instr per row of spec/opcode_table.json, with the operands
its rule reads from outside the module. An engine verb carries the lane and the whole 64-bit instruction word (R60);
every other command carries its time t in ns (log entry 1). An operand with a default is the ordinary case where none is given. -/
namespace Sys2Proof

/-- What a comb cell outside SOURCE 0x06 records; its TYPE and payload bytes are the event catalogue's (R352). -/
inductive Note where
  | dupAddr   -- R190 ring, address
  | ringWrap   -- R202 ring, wrap addresses, cycle, into
  | ringBudget   -- R208 ring, prediction
  | relock   -- R227 ring, deviation, line
  | claimEnd   -- R234 ring, outcome, seq, T_rt, seen epoch, seen rank
  | claimClone   -- R231 ring
  | claimTimeout   -- R233 ring
  | timeMaster   -- R213 old, new
  | doorTrip   -- R275 unit, causes
  | doorClear   -- R281 unit, kind
  | doorDegraded   -- R288 unit
  | doorIsolated   -- R288 unit, cause
  | crownState   -- R321 old, new
  | crownRefused   -- R44 WCET, budget
  | followMismatch   -- R308 cycle
  | partnerEvent   -- R382
  | exchange   -- R329 old, new, cycle, h, reason
  | laneSkip   -- R120 lanes skipped, whole
  | voteDisagree   -- R142
  | excluded   -- R143 lane
  | reflexFired   -- R162 code, lane
  | rejoinFail   -- R151
  | degExpired   -- R156
  | vinLatched   -- R172
  | vinCleared   -- R172
  | engineDisagree   -- R91
  | appFault   -- R84 fault word
  | restartCold   -- R126 reason
  | serviceMove   -- R25
  | combClearRefused   -- R368 a bad or expired signature
  | stateRefused   -- R417 type, host, state, unrecorded
  | checkRepaired   -- R395
  | checkBad   -- R395
  | katFailed   -- R393
  | taskLate   -- R516 the task
  | moduleReset   -- R455
  | laneReset   -- R455
  | laneStaysOff   -- R442 lane
  | optionCopyBad   -- R445 copy mask
  | fwSettings   -- R485
  | fwPartner   -- R490
  | testStart   -- R495 reason
  | testResult   -- R496 result, entries
  | scanFail   -- R505
  | authGo   -- R507 purpose, operator, accepted
  | injected   -- R510 point, lane, arg, count, operator, cycle
  | workerLate   -- R516 task
  | telemetry   -- R519
  | marginRaised   -- R521 item, value
  | stepApplied   -- R522 step
  | ageForecast   -- R523
  | eyeWarn   -- R520 link
  | lifeGap   -- R526 checkpoint
  | supplySwitch   -- R535 feed
  | vkeepLow   -- R538
  | holdupLow   -- R540
  | tempHigh   -- R552
deriving DecidableEq, Repr

/-- The SOURCE code of the block that records it (R352). -/
def Note.source : Note → Nat
  | .dupAddr => 0x03
  | .ringWrap => 0x03
  | .ringBudget => 0x03
  | .relock => 0x04
  | .claimEnd => 0x03
  | .claimClone => 0x03
  | .claimTimeout => 0x03
  | .timeMaster => 0x04
  | .doorTrip => 0x0E
  | .doorClear => 0x0E
  | .doorDegraded => 0x0E
  | .doorIsolated => 0x0E
  | .crownState => 0x05
  | .crownRefused => 0x05
  | .followMismatch => 0x05
  | .partnerEvent => 0x10
  | .exchange => 0x02
  | .laneSkip => 0x01
  | .voteDisagree => 0x01
  | .excluded => 0x01
  | .reflexFired => 0x01
  | .rejoinFail => 0x01
  | .degExpired => 0x01
  | .vinLatched => 0x01
  | .vinCleared => 0x01
  | .engineDisagree => 0x02
  | .appFault => 0x0F
  | .restartCold => 0x02
  | .serviceMove => 0x02
  | .combClearRefused => 0x06
  | .stateRefused => 0x08
  | .checkRepaired => 0x07
  | .checkBad => 0x07
  | .katFailed => 0x07
  | .taskLate => 0x0C
  | .moduleReset => 0x09
  | .laneReset => 0x09
  | .laneStaysOff => 0x09
  | .optionCopyBad => 0x09
  | .fwSettings => 0x0A
  | .fwPartner => 0x0A
  | .testStart => 0x0B
  | .testResult => 0x0B
  | .scanFail => 0x0B
  | .authGo => 0x0B
  | .injected => 0x0B
  | .workerLate => 0x0C
  | .telemetry => 0x0C
  | .marginRaised => 0x0C
  | .stepApplied => 0x0C
  | .ageForecast => 0x0C
  | .eyeWarn => 0x0C
  | .lifeGap => 0x0D
  | .supplySwitch => 0x0D
  | .vkeepLow => 0x0D
  | .holdupLow => 0x0D
  | .tempHigh => 0x0D

/-- What one lane samples in one ring cycle (R169): the steady sample and the four pulse samples of all 16 contacts,
contact 1 of inputs A to H in bits 0 to 7, contact 2 in bits 8 to 15. -/
structure VinSample where
  steady : BitVec 16
  p0 : BitVec 16
  p1 : BitVec 16
  p2 : BitVec 16
  p3 : BitVec 16
deriving DecidableEq, Repr

/-- The pair a frame travels on (R176). -/
inductive Pair where
  | fwd | bwd
deriving DecidableEq, Repr

/-- A frame header (R182). -/
structure Hdr where
  ftype : Byte
  flags : Byte
  secCount : W16
  cycle : W32
  epoch : W32
  ringTime : W64
  masterId : W32
  tmRank : Byte
  tmFlags : Byte
  beaconSeq : W16
  check : W32
deriving DecidableEq, Repr

/-- A section (R183). -/
structure Sec where
  addr : Byte
  olen : Byte
  ilen : Byte
  state : Byte
  out : List Byte
  oseq : W32
  seals : Tri W32
  fresh : W16
  iseq : W16
  inp : List Byte
  chk1 : W32
  chk2 : W32
deriving DecidableEq, Repr

/-- The claim body of a CLAIM frame (R229). -/
structure ClaimBody where
  seq : W16
  mask : Byte
  seenEpoch : W32
  seenRank : W32
deriving DecidableEq, Repr

/-- A trailer (R185). -/
structure Trailer where
  hops : W16
  wrap : Byte
  flags : Byte
  check : W32
deriving DecidableEq, Repr

/-- A frame on a ring: header, sections or a claim body, trailer. -/
structure Frame where
  hdr : Hdr
  secs : List Sec
  claim : Option ClaimBody
  trl : Trailer
deriving DecidableEq, Repr

/-- Exchange states of an exchange word (R330 XSTATE). -/
inductive XState where
  | none | staged | propose | agreed | go | cancel
deriving DecidableEq, Repr

/-- The exchange word (R330); from the standby `propose` reads READY. -/
structure Xw where
  img : W32 := 0
  cycle : W32 := 0
  rejoin : Bool := false
  reason : Nat := 0
  state : XState := .none
deriving DecidableEq, Repr

/-- A record that is sent once: the sender's serial rank and whether its check verifies (R295). -/
structure Rcv where
  rank : W32
  sound : Bool
deriving DecidableEq, Repr

/-- A record that is sent twice (R296): the sender's rank, each copy as its check lets it be read, and the ns between
their arrivals. -/
structure Twin (α : Type) where
  rank : W32
  c0 : Option α
  c1 : Option α
  gap : Nat
deriving DecidableEq, Repr

/-- LEASE (R295): epoch, t_s, lease setting, flags; with the sender's profile and settings identity (log entry 30). -/
structure LeaseBody where
  epoch : W32
  ts : Nat
  leaseMs : Nat
  renew : Bool
  halted : Bool
  profile : Nat
  setId : W64
  fromId : W64
  rolling : Bool
deriving DecidableEq, Repr

/-- PART (R295): a part accepted by any holder lane, with the ring time of its frame. -/
structure PartBody where
  ring : Ring
  addr : Nat
  beacon : W16
  ringTime : Nat
  lanes : Tri Bool
  iseq : W16
  part : List Byte
deriving DecidableEq, Repr

/-- COMMAND (R295). -/
structure CommandBody where
  slot : Nat
  value : W64
  src : W32
  tseq : Nat
  accepted : Nat
deriving DecidableEq, Repr

/-- What a LATCH record carries for one lane (R295): parts considered, word 0x1211, the cycle flags, the door words. -/
structure LatchLane where
  count : Nat
  vin : W16
  flags : W64
  door : List W64
deriving DecidableEq, Repr

/-- LATCH (R295), with its latch instant B(n). -/
structure LatchBody where
  cycle : W32
  b : Nat
  lanes : Tri LatchLane
  took : Tri Bool
deriving DecidableEq, Repr

/-- The kind of a commit in its COMMIT record (R308). -/
inductive CommitKind where
  | normal | safe | halted | skipped
deriving DecidableEq, Repr

/-- COMMIT (R295, R330). -/
structure CommitBody where
  cycle : W32
  kind : CommitKind
  digest : W32
  fault : W64
  voting : Tri Bool
  combSeq : Nat
  xw : Xw
deriving DecidableEq, Repr

/-- A door unit's state as a GUARD record carries it (R292): the unit, STATE, PROOF, failed marks, cause, degraded
time used in ns, isolation, and its latest readings. -/
structure GuardUnit where
  unit : Nat
  state : Nat
  proof : Nat
  failX : Bool
  failY : Bool
  cause : Nat
  used : Nat
  isolated : Bool
  posX : W16
  posY : W16
  spdX : W16
  spdY : W16
  statX : Byte
  statY : Byte
  sample : W16
  seen : Bool
deriving DecidableEq, Repr

/-- A COPY pass (R310): its number, snapshot cycle and the ring time of that END, the state words in the order sent,
the donor's CRC-32C, the comb sequence number, and the holder's active and staged PROGRAM_ID. -/
structure CopyBody where
  pass : Nat
  cycle : W32
  snapAt : Nat
  words : List W64
  check : W32
  combSeq : Nat
  activeId : W64
  stagedId : W64
deriving DecidableEq, Repr

/-- STATUS (R295, R330). -/
structure StatusBody where
  cycle : W32
  state : Nat
  matched : W32
  voting : Tri Bool
  refuse : W32
  degraded : Bool
  degLeft : Nat
  testing : Bool
  xw : Xw
deriving DecidableEq, Repr

/-- A CLAIM record (R295): the claim body with its epoch. -/
structure ClaimRec where
  epoch : W32
  body : ClaimBody
deriving DecidableEq, Repr

/-- What the VT3 sends over the partner link (R295, R475). -/
inductive PlOut where
  | lease (b : LeaseBody)
  | leaseAck (ts : Nat) (epoch : W32)
  | time (sent : Nat)
  | part (b : PartBody)
  | command (b : CommandBody)
  | latch (b : LatchBody)
  | commit (b : CommitBody)
  | guard (units : List GuardUnit)
  | copy (b : CopyBody)
  | status (b : StatusBody)
  | offer (h epoch : W32)
  | accept (h : W32)
  | refuse (h : W32) (reason : W32)
  | handover (h : W32) (digest : W32)
  | cancel (h : W32)
  | release
  | claim (b : ClaimRec)
  | image (bytes : List Byte)
deriving DecidableEq, Repr

/-- How far the cell writer has come with its cell (R355, R359): both operations ended well, the data operation alone has
ended well, it failed (or its ENDURE comparison), or the cap failed and later reads as the word given. -/
inductive ProgramEnd where
  | good | dataGood | dataFailed | capFailed (cap : W32)
deriving DecidableEq, Repr

/-- Who sends an update message (R475, R477). -/
inductive UpdSrc where
  | eth | partner
deriving DecidableEq, Repr


/-- A source of a scan request (R390). -/
inductive ScanSrc where
  | noun | timer | output | committed | insn | dram | copyBuf | plBuf
deriving DecidableEq, Repr

/-- A scan request (R390): its requester, source, first word, length, fold, CONT and CLASS. -/
structure ScanReq where
  who : Nat
  src : ScanSrc
  start : Nat
  len : Nat
  tag : W32
  a : W32
  b : W32
  cont : Bool
  cls : Fin 3
deriving DecidableEq, Repr

/-- What one lane found when it read a failed structure again (R395): the data sound, and the value recomputed. -/
structure Reread where
  sound : Bool
  value : W32
deriving DecidableEq, Repr

/-- Which service a TCP connection is for (R414). -/
inductive TcpService where
  | comb (conn : Fin 2)
  | update
deriving DecidableEq, Repr

/-- An instruction of the test access port (R504). -/
inductive Jtag where
  | bypass | idcode | sample | extest | clamp | highz | scan
deriving DecidableEq, Repr

/-- A word of an on-chip store, as an uncorrectable error marks it (R52). -/
inductive StoreLoc where
  | noun (w : Nat)
  | timer (c : Nat)
  | out (w : Nat)
  | inp (w : Nat)
  | insn (bank : Bool) (i : Nat)
deriving DecidableEq, Repr, Inhabited

/-- What a scrub pass found (R515, R517). -/
inductive ScrubFind where
  | clean (dram : Bool) (words : Nat) (l : Lane)
  | onchip (l : Lane) (x : StoreLoc)
  | dram (l : Lane)
  | retentive (l : Lane) (slot : Bool)
  | brood (num : Nat)
  | codeBits (bits : Nat) (fail : Bool)
  | combBits (comb : Fin 3) (idx : Nat) (bits : Nat) (fail : Bool)
  | combCell (comb : Fin 3) (idx : Nat) (ecc : Bool)
deriving DecidableEq, Repr

/-- What calibration and the monitors measure: per lane core supply in mV, temperature in °C and frequency deviation;
the inputs in mV, the input power in 0.1 W, and the hold-up prediction in µs of each section of the bank. -/
structure Measured where
  core : Tri Nat
  temp : Tri Int
  dev : Tri W16
  mainMv : Nat
  backMv : Nat
  power : Nat
  holdUs : Tri Nat
  holdCommon : Nat
deriving DecidableEq, Repr

/-- What the workers measure once a day (R520, R523): the eye opening of the seven links in 0.001 UI, the slowdown of each
lane's ring oscillators in 0.1 %, per lane the slope of the fitted line in 0.001 ps per day, and the NAND blocks of which
over 1 % of the reads needed a retry, each with the level its read threshold is planned to. -/
structure Ageing where
  eyes : List Nat
  ro : Tri Nat
  slope : Tri Int
  replan : List (Nat × Nat)
deriving DecidableEq, Repr

/-- How an input supply stands (R534, R535): outside its window, above it, usable, or settled. -/
inductive Window where
  | low | above | usable | settled
deriving DecidableEq, Repr

/-- VMAIN and VBACK as the monitors of one supply path find them (R535). -/
structure Inputs where
  main : Window := .low
  back : Window := .low
deriving DecidableEq, Repr


/-- The commands. -/
inductive Instr where
  /-- LD (R64) -/
  | verbLd (l : Lane) (w : W64)
  /-- LDN (R64) -/
  | verbLdn (l : Lane) (w : W64)
  /-- AND (R64) -/
  | verbAnd (l : Lane) (w : W64)
  /-- ANDN (R64) -/
  | verbAndn (l : Lane) (w : W64)
  /-- OR (R64) -/
  | verbOr (l : Lane) (w : W64)
  /-- ORN (R64) -/
  | verbOrn (l : Lane) (w : W64)
  /-- XOR (R64) -/
  | verbXor (l : Lane) (w : W64)
  /-- XORN (R64) -/
  | verbXorn (l : Lane) (w : W64)
  /-- NOT (R64) -/
  | verbNot (l : Lane) (w : W64)
  /-- LDK (R64) -/
  | verbLdk (l : Lane) (w : W64)
  /-- ST (R65) -/
  | verbSt (l : Lane) (w : W64)
  /-- STN (R65) -/
  | verbStn (l : Lane) (w : W64)
  /-- SET (R65) -/
  | verbSet (l : Lane) (w : W64)
  /-- RST (R65) -/
  | verbRst (l : Lane) (w : W64)
  /-- OPEN (R66) -/
  | verbOpen (l : Lane) (w : W64)
  /-- OPENN (R66) -/
  | verbOpenn (l : Lane) (w : W64)
  /-- CLOSE_AND (R66) -/
  | verbCloseAnd (l : Lane) (w : W64)
  /-- CLOSE_OR (R66) -/
  | verbCloseOr (l : Lane) (w : W64)
  /-- TON (R71) -/
  | verbTon (l : Lane) (w : W64)
  /-- TOF (R71) -/
  | verbTof (l : Lane) (w : W64)
  /-- TP (R71) -/
  | verbTp (l : Lane) (w : W64)
  /-- TRST (R71) -/
  | verbTrst (l : Lane) (w : W64)
  /-- TRD (R74) -/
  | verbTrd (l : Lane) (w : W64)
  /-- EDGR (R75) -/
  | verbEdgr (l : Lane) (w : W64)
  /-- EDGF (R75) -/
  | verbEdgf (l : Lane) (w : W64)
  /-- WLD (R76) -/
  | verbWld (l : Lane) (w : W64)
  /-- WST (R76) -/
  | verbWst (l : Lane) (w : W64)
  /-- WLDI (R76) -/
  | verbWldi (l : Lane) (w : W64)
  /-- WADD (R76) -/
  | verbWadd (l : Lane) (w : W64)
  /-- WSUB (R76) -/
  | verbWsub (l : Lane) (w : W64)
  /-- WADDI (R76) -/
  | verbWaddi (l : Lane) (w : W64)
  /-- WAND (R76) -/
  | verbWand (l : Lane) (w : W64)
  /-- WOR (R76) -/
  | verbWor (l : Lane) (w : W64)
  /-- WEQ (R76) -/
  | verbWeq (l : Lane) (w : W64)
  /-- WLT (R76) -/
  | verbWlt (l : Lane) (w : W64)
  /-- WEQI (R76) -/
  | verbWeqi (l : Lane) (w : W64)
  /-- WLTI (R76) -/
  | verbWlti (l : Lane) (w : W64)
  /-- WLDA (R76) -/
  | verbWlda (l : Lane) (w : W64)
  /-- ALDW (R76) -/
  | verbAldw (l : Lane) (w : W64)
  /-- WCNT (R76) -/
  | verbWcnt (l : Lane) (w : W64)
  /-- JMP (R77) -/
  | verbJmp (l : Lane) (w : W64)
  /-- JC (R77) -/
  | verbJc (l : Lane) (w : W64)
  /-- JNC (R77) -/
  | verbJnc (l : Lane) (w : W64)
  /-- CALL (R79) -/
  | verbCall (l : Lane) (w : W64)
  /-- RET (R80) -/
  | verbRet (l : Lane) (w : W64)
  /-- ENTRY (R80) -/
  | verbEntry (l : Lane) (w : W64)
  /-- END (R81) -/
  | verbEnd (l : Lane) (w : W64)
  /-- NOP (R83) -/
  | verbNop (l : Lane) (w : W64)
  /-- CMALL (R83) -/
  | verbCmall (l : Lane) (w : W64)
  /-- CMSET (R83) -/
  | verbCmset (l : Lane) (w : W64)
  /-- CMLD (R83) -/
  | verbCmld (l : Lane) (w : W64)
  /-- FAULT (R84) -/
  | verbFault (l : Lane) (w : W64)
  /-- FLOW_GUARD (R82) -/
  | flowGuard (t : Nat) (l : Lane)
  /-- INPUT_LATCH (R96) -/
  | inputLatch (t : Nat)
  /-- LOGIC_PHASE_START (R70) -/
  | logicPhaseStart (t : Nat)
  /-- COMMIT_DEADLINE (R135) -/
  | commitDeadline (t : Nat)
  /-- VOTE_COMPLETE (R137) -/
  | voteComplete (t : Nat) (digErr : Tri W32)
  /-- COMMIT (R33) -/
  | commit (t : Nat)
  /-- RETENTIVE_COPY (R125) -/
  | retentiveCopy (t : Nat) (l : Lane) (whole : Bool := true)
  /-- REFLEX_FIRE (R158) -/
  | reflexFire (t : Nat) (code : Nat) (l : Lane) (r : Ring := 0)
  /-- SERVICE_ROLE_MOVE (R25) -/
  | serviceRoleMove (t : Nat)
  /-- LANE_VOTE_RESET (R144) -/
  | laneVoteReset (t : Nat) (l : Lane)
  /-- LANE_READY (R145) -/
  | laneReady (t : Nat) (l : Lane) (kat : BitVec 2)
  /-- REJOIN_PASS_END (R149) -/
  | rejoinPassEnd (t : Nat) (err : W32 := 0)
  /-- REJOIN_TIMEOUT (R151) -/
  | rejoinTimeout (t : Nat)
  /-- DEGRADED_CLOCK_EXPIRY (R155) -/
  | degradedClockExpiry (t : Nat)
  /-- DEG_EXPIRY_GRACE_END (R155) -/
  | degExpiryGraceEnd (t : Nat)
  /-- VIN_EVALUATE (R170) -/
  | vinEvaluate (t : Nat) (x : Tri VinSample)
  /-- VIN_DISCREPANCY_TIMEOUT (R172) -/
  | vinDiscrepancyTimeout (t : Nat) (l : Lane) (input : Fin 8)
  /-- RING_CYCLE_BOUNDARY (R191) -/
  | ringCycleBoundary (t : Nat)
  /-- RING_FRAME_RECEIVE (R192) -/
  | ringFrameReceive (t : Nat) (r : Ring) (p : Pair) (f : Frame) (arrived : Nat) (ppb : Int) (cut : Bool := false) (invalid : Nat := 0)
  /-- RING_FRAME_RETURN (R194) -/
  | ringFrameReturn (t : Nat) (r : Ring) (p : Pair) (f : Frame) (invalid : Nat := 0)
  /-- RETURN_DEADLINE (R194) -/
  | returnDeadline (t : Nat)
  /-- LINK_SYNC_LOST (R196) -/
  | linkSyncLost (t : Nat) (r : Ring) (p : Pair) (invalid : Nat)
  /-- LINK_SYNC_REGAINED (R179) -/
  | linkSyncRegained (t : Nat) (r : Ring) (p : Pair) (invalid : Nat := 0)
  /-- LINK_FAULT_RECEIVED (R196) -/
  | linkFaultReceived (t : Nat) (r : Ring) (p : Pair)
  /-- HEAL_READY_TIMER (R201) -/
  | healReadyTimer (t : Nat) (r : Ring)
  /-- HEAL_TIMER (R201) -/
  | healTimer (t : Nat) (r : Ring)
  /-- RING_TEST_START (R206) -/
  | ringTestStart (t : Nat) (r : Ring)
  /-- LOCK_SILENCE_TIMEOUT (R223) -/
  | lockSilenceTimeout (t : Nat) (r : Ring)
  /-- RING_CANDIDATE_START (R228) -/
  | ringCandidateStart (t : Nat) (r : Ring)
  /-- CLAIM_FRAME_RECEIVE (R231) -/
  | claimFrameReceive (t : Nat) (r : Ring) (p : Pair) (f : Frame)
  /-- CLAIM_SILENCE_WIN (R232) -/
  | claimSilenceWin (t : Nat) (r : Ring)
  /-- CLAIM_ABANDON (R233) -/
  | claimAbandon (t : Nat) (r : Ring)
  /-- LANE_TIME_MEASURE (R212) -/
  | laneTimeMeasure (t : Nat) (dev : Tri Int)
  /-- QUIET_INTERVAL_COMPLETE (R280) -/
  | quietIntervalComplete (t : Nat) (unit : Nat)
  /-- DOOR_DEG_TIME_EXPIRY (R286) -/
  | doorDegTimeExpiry (t : Nat) (unit : Nat)
  /-- DG_CLR_GUARD (R281) -/
  | dgClrGuard (t : Nat) (h : HostId)
  /-- DG_CLR_ISOLATE (R281) -/
  | dgClrIsolate (t : Nat) (h : HostId)
  /-- LEASE_RECORD (R303) -/
  | leaseRecord (t : Nat) (x : Twin LeaseBody)
  /-- LEASE_ACK_RECORD (R301) -/
  | leaseAckRecord (t : Nat) (x : Rcv) (ts : Nat) (epoch : W32)
  /-- TIME_RECORD (R214) -/
  | timeRecord (t : Nat) (x : Rcv) (t1 t2 t3 t4 : Nat)
  /-- TIME_RECORD_TIMEOUT (R312) -/
  | timeRecordTimeout (t : Nat)
  /-- PART_RECORD (R306) -/
  | partRecord (t : Nat) (x : Rcv) (b : PartBody)
  /-- COMMAND_RECORD (R306) -/
  | commandRecord (t : Nat) (x : Rcv) (b : CommandBody)
  /-- LATCH_RECORD (R306) -/
  | latchRecord (t : Nat) (x : Rcv) (b : LatchBody)
  /-- COMMIT_RECORD (R308) -/
  | commitRecord (t : Nat) (x : Twin CommitBody)
  /-- GUARD_RECORD (R292) -/
  | guardRecord (t : Nat) (x : Rcv) (units : List GuardUnit)
  /-- COPY_RECORD (R310) -/
  | copyRecord (t : Nat) (x : Rcv) (b : CopyBody)
  /-- STATUS_RECORD (R310) -/
  | statusRecord (t : Nat) (x : Rcv) (b : StatusBody)
  /-- HANDOVER_OFFER (R313) -/
  | handoverOffer (t : Nat) (x : Twin (W32 × W32))
  /-- HANDOVER_ACCEPT (R313) -/
  | handoverAccept (t : Nat) (x : Twin W32)
  /-- HANDOVER_REFUSE (R313) -/
  | handoverRefuse (t : Nat) (x : Twin (W32 × W32))
  /-- HANDOVER_COMMIT (R313) -/
  | handoverCommit (t : Nat) (x : Twin (W32 × W32))
  /-- HANDOVER_CANCEL (R313) -/
  | handoverCancel (t : Nat) (x : Twin W32)
  /-- RELEASE_RECORD (R311) -/
  | releaseRecord (t : Nat) (x : Twin Unit)
  /-- CLAIM_RECORD (R311) -/
  | claimRecord (t : Nat) (x : Twin ClaimRec)
  /-- EVENT_RECORD (R382) -/
  | eventRecord (t : Nat) (x : Rcv) (payload : List Byte)
  /-- PL_LANE_SYNC_CHANGE (R297) -/
  | plLaneSyncChange (t : Nat) (l : Fin 2) (up : Bool)
  /-- LEASE_EXPIRY (R301) -/
  | leaseExpiry (t : Nat)
  /-- CROWN_TAKE (R311) -/
  | crownTake (t : Nat)
  /-- OUT_TIMEOUT (R305) -/
  | outTimeout (t : Nat)
  /-- START_WAIT_EXPIRY (R318) -/
  | startWaitExpiry (t : Nat)
  /-- ROTATION_DUE (R316) -/
  | rotationDue (t : Nat)
  /-- ROTATION_RETRY (R316) -/
  | rotationRetry (t : Nat)
  /-- ROTATE_NOW (R316) -/
  | rotateNow (t : Nat) (h : HostId)
  /-- PX_STAGE (R328) -/
  | pxStage (t : Nat) (h : HostId)
  /-- STAGING_DONE (R328) -/
  | stagingDone (t : Nat)
  /-- PX_PROPOSE (R331) -/
  | pxPropose (t : Nat) (h : HostId)
  /-- PX_CANCEL (R334) -/
  | pxCancel (t : Nat) (h : HostId)
  /-- PX_GO_DEADLINE (R335) -/
  | pxGoDeadline (t : Nat)
  /-- BANK_DIRECTORY_UPDATE (R322) -/
  | bankDirectoryUpdate (t : Nat)
  /-- CELL_CREATE (R356) -/
  | cellCreate (t : Nat) (comb : Fin 3) (note : Note) (vals : List Nat)
  /-- CELL_WRITE_DONE (R355) -/
  | cellWriteDone (t : Nat) (how : ProgramEnd)
  /-- QUEUE_ROOM (R357) -/
  | queueRoom (t : Nat)
  /-- COMB_SCAN_DONE (R360) -/
  | combScanDone (t : Nat) (found : Bool)
  /-- COMB_HOLDUP_STOP (R361) -/
  | combHoldupStop (t : Nat)
  /-- NAND_TIMEOUT (R381) -/
  | nandTimeout (t : Nat)
  /-- COMB_FREEZE_REQ (R380) -/
  | combFreezeReq (t : Nat) (h : HostId) (w : W32)
  /-- FREEZE_ACTIVE (R380) -/
  | freezeActive (t : Nat)
  /-- FREEZE_TIMEOUT (R380) -/
  | freezeTimeout (t : Nat)
  /-- COMB_CHAL_REQ (R368) -/
  | combChalReq (t : Nat) (h : HostId) (mask : BitVec 4)
  /-- COMB_CLEAR_GO (R369) -/
  | combClearGo (t : Nat) (h : HostId) (mask : BitVec 4)
  /-- CLEAR_INITIAL_ERASE_DONE (R370) -/
  | clearInitialEraseDone (t : Nat) (arr : Fin 4) (failed : List Nat := [])
  /-- CLEAR_DONE (R370) -/
  | clearDone (t : Nat) (comb : Fin 3) (failed : List Nat := [])
  /-- COMB_SNAP_TRIG (R371) -/
  | combSnapTrig (t : Nat) (h : HostId) (lists : BitVec 4)
  /-- COMB_STREAM_REQUEST (R415) -/
  | combStreamRequest (t : Nat) (conn : Fin 2) (comb : Nat) (first : Nat) (last : Nat)
  /-- PORT_BYTE_WRITE (R387) -/
  | portByteWrite (t : Nat) (l : Lane) (ctx : Fin 32) (x : Byte)
  /-- PORT_HALF_WRITE (R387) -/
  | portHalfWrite (t : Nat) (l : Lane) (ctx : Fin 32) (x : W16)
  /-- PORT_WORD_WRITE (R387) -/
  | portWordWrite (t : Nat) (l : Lane) (ctx : Fin 32) (x : W32)
  /-- PORT_COPY (R387) -/
  | portCopy (t : Nat) (l : Lane) (src : Fin 32) (dst : Fin 32)
  /-- PORT_SPLICE (R387) -/
  | portSplice (t : Nat) (l : Lane) (src : Fin 32) (dst : Fin 32)
  /-- PORT_READ (R387) -/
  | portRead (t : Nat) (l : Lane) (ctx : Fin 32)
  /-- SCAN_REQUEST (R392) -/
  | scanRequest (t : Nat) (l : Lane) (r : ScanReq)
  /-- SCAN_DONE (R390) -/
  | scanDone (t : Nat) (l : Lane) (words : List W64)
  /-- STORED_CHECK_FAIL (R395) -/
  | storedCheckFail (t : Nat) (code : Fin 4) (place : Nat) (stored : W32) (found : Tri (Option Reread)) (abandoned : Bool)
  /-- CHK_TEST_OPEN (R399) -/
  | chkTestOpen (t : Nat) (h : HostId)
  /-- CHK_TEST_WORD (R399) -/
  | chkTestWord (t : Nat) (h : HostId) (x : W32)
  /-- CHK_TEST_HALF (R399) -/
  | chkTestHalf (t : Nat) (h : HostId) (x : W16)
  /-- CHK_TEST_BYTE (R399) -/
  | chkTestByte (t : Nat) (h : HostId) (x : Byte)
  /-- HP_READ (R401) -/
  | hpRead (t : Nat) (h : HostId) (opcode : Byte) (addr : BitVec 24) (check : W32)
  /-- HP_WRITE (R401) -/
  | hpWrite (t : Nat) (h : HostId) (opcode : Byte) (addr : BitVec 24) (data : W32) (check : W32)
  /-- HP_READ16 (R401) -/
  | hpRead16 (t : Nat) (h : HostId) (opcode : Byte) (addr : BitVec 24) (check : W32)
  /-- HP_COMMAND (R411) -/
  | hpCommand (t : Nat) (h : HostId) (opcode : Byte) (slot : BitVec 24) (tele : List Byte) (check : W32)
  /-- HP_CS_ABANDON (R404) -/
  | hpCsAbandon (t : Nat)
  /-- HP_CS_CLASH (R407) -/
  | hpCsClash (t : Nat)
  /-- HP_RESPONSE_TIMEOUT (R405) -/
  | hpResponseTimeout (t : Nat) (h : HostId) (opcode : Byte) (addr : BitVec 24)
  /-- ETH_COMMAND (R411) -/
  | ethCommand (t : Nat) (src : W32) (tele : List Byte)
  /-- CAL_TELEGRAM (R527) -/
  | calTelegram (t : Nat) (src : W32) (tele : List Byte)
  /-- ETH_ARP_REQUEST (R414) -/
  | ethArpRequest (t : Nat) (target : W32)
  /-- ETH_ICMP_ECHO (R414) -/
  | ethIcmpEcho (t : Nat) (target : W32) (data : List Byte)
  /-- ETH_CONNECTION_ATTEMPT (R414) -/
  | ethConnectionAttempt (t : Nat) (port : Nat)
  /-- ETH_FRAME_DROP (R414) -/
  | ethFrameDrop (t : Nat)
  /-- ETH_LINK_CHANGE (R414) -/
  | ethLinkChange (t : Nat) (up : Bool)
  /-- PTP_MESSAGE (R528) -/
  | ptpMessage (t : Nat) (offset : Int) (utc : Int)
  /-- EVENT_SOURCE_FIRE (R419) -/
  | eventSourceFire (t : Nat) (n : Nat)
  /-- EVR_CLAIM (R422) -/
  | evrClaim (t : Nat) (h : HostId) (n : HostId)
  /-- EVR_COMPLETE (R423) -/
  | evrComplete (t : Nat) (h : HostId) (n : HostId) (source : Byte)
  /-- MODERATION_TIMEOUT (R424) -/
  | moderationTimeout (t : Nat) (n : Nat)
  /-- HOST_IDLE_ASSERT (R425) -/
  | hostIdleAssert (t : Nat) (n : HostId)
  /-- POWER_ON (R431) -/
  | powerOn (t : Nat) (keepLost : Bool)
  /-- BROWN_OUT (R433) -/
  | brownOut (t : Nat)
  /-- NRST_PULSE (R439) -/
  | nrstPulse (t : Nat) (periods : Nat)
  /-- NRST_RELEASE (R439) -/
  | nrstRelease (t : Nat)
  /-- LANE_WDOG_EXPIRY (R432) -/
  | laneWdogExpiry (t : Nat) (l : Lane)
  /-- RST_SW_COLD (R438) -/
  | rstSwCold (t : Nat) (h : HostId) (key : W16)
  /-- RST_SW_WARM (R438) -/
  | rstSwWarm (t : Nat) (h : HostId) (key : W16)
  /-- HOLD_END (R440) -/
  | holdEnd (t : Nat)
  /-- CLOCKS_STABLE (R441) -/
  | clocksStable (t : Nat) (refs : Tri Bool)
  /-- CLOCK_STABLE_TIMEOUT (R442) -/
  | clockStableTimeout (t : Nat)
  /-- OPTION_LOAD_DONE (R445) -/
  | optionLoadDone (t : Nat)
  /-- PLL_STABLE (R440) -/
  | pllStable (t : Nat) (plls : Tri Bool)
  /-- FIRMWARE_ACCEPTED (R397) -/
  | firmwareAccepted (t : Nat) (accepted : Tri Bool)
  /-- STARTUP_SELFTEST_DONE (R503) -/
  | startupSelftestDone (t : Nat) (entries : List (W32 × W32))
  /-- SETTINGS_LOAD_DONE (R473) -/
  | settingsLoadDone (t : Nat)
  /-- MODULE_READY (R440) -/
  | moduleReady (t : Nat) (loaded : Tri Bool) (kats : Tri (BitVec 2) := ⟨3, 3, 3⟩)
  /-- UPD_HELLO (R475) -/
  | updHello (t : Nat) (src : UpdSrc) (item : Byte)
  /-- UPD_OPEN (R477) -/
  | updOpen (t : Nat) (src : UpdSrc) (item : Byte) (length : W32) (version : W32) (check : W32) (op : W32) (sig : List Byte)
  /-- UPD_DATA (R478) -/
  | updData (t : Nat) (src : UpdSrc) (offset : W32) (payload : List Byte)
  /-- UPD_CLOSE (R479) -/
  | updClose (t : Nat) (src : UpdSrc)
  /-- UPD_ABORT_MSG (R478) -/
  | updAbortMsg (t : Nat) (src : UpdSrc) (status : Byte)
  /-- UPD_CHECKS_DONE (R479) -/
  | updChecksDone (t : Nat) (lanesEqual : Bool)
  /-- UPD_WRITE_DONE (R480) -/
  | updWriteDone (t : Nat) (good : Bool)
  /-- UPD_SESSION_TIMEOUT (R478) -/
  | updSessionTimeout (t : Nat)
  /-- UPD_CTL_ABORT (R478) -/
  | updCtlAbort (t : Nat) (h : HostId)
  /-- UPD_CTL_RESTART (R484) -/
  | updCtlRestart (t : Nat) (h : HostId) (key : W16)
  /-- UPD_CTL_RECOVER (R488) -/
  | updCtlRecover (t : Nat) (h : HostId) (key : W16)
  /-- RECOVERY_REQ_SEND (R490) -/
  | recoveryReqSend (t : Nat)
  /-- RECOVERY_REQ (R490) -/
  | recoveryReq (t : Nat) (x : Rcv) (item : Byte) (version : W32) (reason : Byte)
  /-- PAIR_INFO_SEND (R475) -/
  | pairInfoSend (t : Nat)
  /-- PAIR_INFO (R482) -/
  | pairInfo (t : Nat) (x : Rcv) (version : W32) (level : W16) (least : W16)
  /-- ST_STOP (R494) -/
  | stStop (t : Nat) (h : HostId) (key : W16) (andThen : Bool)
  /-- SELFTEST_START (R495) -/
  | selftestStart (t : Nat)
  /-- SELFTEST_STEP_DONE (R496) -/
  | selftestStepDone (t : Nat) (entries : List (W32 × W32))
  /-- LOOPBACK_END (R497) -/
  | loopbackEnd (t : Nat)
  /-- SELFTEST_CUT_SHORT (R499) -/
  | selftestCutShort (t : Nat)
  /-- ST_AUTH_CHAL_REQ (R507) -/
  | stAuthChalReq (t : Nat) (h : HostId) (purpose : BitVec 2)
  /-- ST_AUTH_GO (R507) -/
  | stAuthGo (t : Nat) (h : HostId) (purpose : BitVec 2) (cleared : Bool)
  /-- JTAG_INSTRUCTION (R504) -/
  | jtagInstruction (t : Nat) (x : Jtag)
  /-- ST_INJ_FIRE (R510) -/
  | stInjFire (t : Nat) (h : HostId) (count : Byte)
  /-- ST_INJ_END (R508) -/
  | stInjEnd (t : Nat) (h : HostId) (count : Byte)
  /-- INJECT_SESSION_EXPIRY (R508) -/
  | injectSessionExpiry (t : Nat)
  /-- INJECTION_END (R510) -/
  | injectionEnd (t : Nat)
  /-- ST_OVR_ARM (R511) -/
  | stOvrArm (t : Nat) (h : HostId)
  /-- ST_ATB_SELECT (R512) -/
  | stAtbSelect (t : Nat) (h : HostId) (atb0 : Byte) (atb1 : Byte)
  /-- RING_TEST_REQ (R206) -/
  | ringTestReq (t : Nat) (h : HostId) (r : Ring) (w : W32)
  /-- RING_CLR_MAX (R208) -/
  | ringClrMax (t : Nat) (h : HostId) (r : Ring)
  /-- LANE_CLR_MAX (R90) -/
  | laneClrMax (t : Nat) (h : HostId) (l : Lane)
  /-- TK_CAL_SET (R527) -/
  | tkCalSet (t : Nat) (h : HostId)
  /-- TB_TIME_LO_READ (R236) -/
  | tbTimeLoRead (t : Nat) (h : HostId)
  /-- COMB_SEQ_LO_READ (R383) -/
  | combSeqLoRead (t : Nat) (h : HostId)
  /-- PX_ID_LO_READ (R347) -/
  | pxIdLoRead (t : Nat) (h : HostId) (sid : Bool)
  /-- SET_ID_LO_READ (R493) -/
  | setIdLoRead (t : Nat) (h : HostId) (src : Bool)
  /-- TK_LO_READ (R532) -/
  | tkLoRead (t : Nat) (h : HostId) (cal : Bool)
  /-- REGISTER_WRITE (R15) -/
  | registerWrite (t : Nat) (h : HostId) (addr : BitVec 24) (data : W32)
  /-- SCRUB_PASS (R517) -/
  | scrubPass (t : Nat) (f : ScrubFind)
  /-- CALIBRATION (R515) -/
  | calibration (t : Nat) (m : Measured)
  /-- TELEMETRY (R519) -/
  | telemetry (t : Nat)
  /-- SLACK_MEASURE (R520) -/
  | slackMeasure (t : Nat) (ps : Tri Nat)
  /-- AGEING_DAILY (R523) -/
  | ageingDaily (t : Nat) (a : Ageing)
  /-- DRAM_RETENTION_TEST (R520) -/
  | dramRetentionTest (t : Nat) (failing : Tri Bool)
  /-- LIFE_CLOCK_CALIBRATE (R525) -/
  | lifeClockCalibrate (t : Nat) (ppb : Int)
  /-- LIFE_CHECKPOINT (R526) -/
  | lifeCheckpoint (t : Nat)
  /-- LIFETIME_COUNTER_UPDATE (R530) -/
  | lifetimeCounterUpdate (t : Nat)
  /-- VKEEP_MEASURE (R538) -/
  | vkeepMeasure (t : Nat) (mv : Nat)
  /-- TEMP_HIGH_TIMER (R552) -/
  | tempHighTimer (t : Nat)
  /-- SUPPLY_CHANGE (R535) -/
  | supplyChange (t : Nat) (common : Inputs) (islands : Tri Inputs)
  /-- SUPPLY_LOST (R536) -/
  | supplyLost (t : Nat) (islands : Tri Bool)
  /-- LANE_ISLAND_BACK_IN_RANGE (R145) -/
  | laneIslandBackInRange (t : Nat) (l : Lane)
  /-- HOST_IDLE_RELEASE (R424) -/
  | hostIdleRelease (t : Nat) (n : HostId)
  /-- ETH_CONNECTION_CLOSE (R478) -/
  | ethConnectionClose (t : Nat) (service : TcpService)
  /-- CHALLENGE_EXPIRY (R368) -/
  | challengeExpiry (t : Nat)
  /-- PTP_LOCK_LOSS (R528) -/
  | ptpLockLoss (t : Nat)
  /-- CALENDAR_STEP_AT_SECOND (R528) -/
  | calendarStepAtSecond (t : Nat)
deriving DecidableEq, Repr

end Sys2Proof
end

