-- ==== Sys2Proof/Config.lean ====
section
/-! DEFINITION. What the spec leaves open: free values, constants without a body. Nothing can be proved of the value of
one. (Log entries 6, 9 to 20, 154, 180, 181 and 183.) -/
namespace Sys2Proof

/-- The n-th 128-bit challenge drawn (R368, R477, R507). -/
opaque Config.challenge : Nat → BitVec 128

/-- Whether an ECDSA P-256 signature of a message verifies under a fused key (R460). -/
opaque Config.ecdsaVerify : List Byte → List Byte → List Byte → Bool

/-- TYPE of a catalogue cell (R352). -/
opaque Config.cellType : Note → Byte

/-- The event catalogue's version that comes with a firmware version (R352): the spec gives no number. -/
opaque Config.catVersion : W32 → Byte

/-- Payload bytes of a catalogue cell (R352). -/
opaque Config.cellPayload : Note → List Nat → List Byte

/-- LAYOUT of a node's part formats (R238), by PROGRAM_ID, ring and address: Famet's. -/
opaque Config.layout : W64 → Nat → Nat → Byte

/-- The kinds of element (R239). -/
inductive ElementKind where
  | point | signal | detection | door | pti | panel
deriving DecidableEq, Repr

/-- The elements of a node in the order of its records (R237), by ring and address: Famet's. -/
opaque Config.elements : Nat → Nat → List ElementKind

/-- The bits of the output record of an element (R239), by PROGRAM_ID, ring, address and place in the record order, from the
output image: Famet's map. -/
opaque Config.elementBits : W64 → Nat → Nat → Nat → List (Nat × W64) → W64

/-- The n-th drawn value of a seal that no lane computes (R118, R183). -/
opaque Config.absentSeal : Nat → Nat → Nat → Nat → W32

/-- The declared delay in ns of the cable of a ring (R177, R206), which no settings record holds. -/
opaque Config.cableNs : Nat → Nat

/-- The slew in ppb a lane or a module chooses to correct a deviation, before the bound of R212, R214 or R528 holds it. -/
opaque Config.slewPpb : Nat → Int → Int

/-- The input placement table of a program image (R103, R105), from its bytes: (ring, address, source bit, target bit,
safe value). -/
opaque Config.placement : List Byte → List (Nat × Nat × Nat × Nat × Bool)

/-- The n-th drawn SCAN_LOAD and PORT_LOAD of a lane (R399): the share of a program cycle its check units were in use,
which is timing. -/
opaque Config.unitLoad : Nat → Nat → Nat × Nat

/-- The noun word a snapshot reads at an instant while no lane votes (R372). -/
opaque Config.unreadNoun : Nat → Nat → W64

/-- The n-th drawn LOAD of the partner link (R320): the share of a program cycle the link was in use. -/
opaque Config.linkLoad : Nat → Nat

/-- Golden signatures and pattern counts of the self-test entries, from the firmware's test table (R496). -/
opaque Config.golden : W32 → Nat → W32 × W32

/-- The DRAM byte address of a retentive copy slot of a lane (R125, R386): the DRAM map is the firmware's. -/
opaque Config.retentiveAddr : Nat → Bool → Nat

/-- The n-th drawn word of an on-chip store that an injected uncorrectable error hits (R509), which names no word. -/
opaque Config.injectedWord : Nat → StoreLoc

end Sys2Proof
end

