-- ==== Sys2Proof/Machine/State.lean ====
section
/-! DEFINITION. The state of the VT3 as plain data, block by block, the reasons to stop, and the machine after reset. -/
namespace Sys2Proof.Machine

/-- What a ring transmitter sends between frames (R178, R193): idle, link fault, what its receiver brings, or nothing. -/
inductive LineSet where
  | idle | linkFault | repeated | silent
deriving DecidableEq, Repr

/-- An entry of a ring's section table (R203). -/
structure SecEntry where
  addr : Nat
  olen : Nat
  ilen : Nat
deriving DecidableEq, Repr

/-- What the master keeps of one node's section (R189, R190, R209): the echo copy, the pair it was last fresh on
(0 none), its counters, its run of frames with a freshness error,
and the frames since it was last fresh (255 for 255 or more). -/
structure NodeCnt where
  fresh : W16 := 0
  iseq : W16 := 0
  inp : List Byte := []
  chk1 : W32 := 0
  chk2 : W32 := 0
  ever : Bool := false
  line : Nat := 0
  err : Nat := 0
  stale : Nat := 0
  run : Nat := 0
  age : Nat := 255
deriving DecidableEq, Repr

/-- The lock state of a writing station (R223). -/
inductive Lock where
  | unlocked
  | relock (count : Nat)
  | locked
deriving DecidableEq, Repr

/-- RINGn_CLAIM.STATE (R235). -/
inductive ClaimState where
  | idle | claiming | won | withdrawn | abandoned | clone
deriving DecidableEq, Repr

/-- A claim attempt on one ring (R228 to R234). `sent` holds the ring times and module times of the claims sent,
latest first, each with its number; `first` the module time of the first claim; `foreign` the end of the last foreign
frame; `ownBack` the return of the first own claim; `rt` the longest round trip measured. -/
structure Claim where
  state : ClaimState := .idle
  next : Nat := 0
  seq : W16 := 0
  sent : List (Nat × Nat × Nat) := []
  first : Option Nat := none
  foreign : Option Nat := none
  ownBack : Option Nat := none
  rt : Nat := 0
  seenEpoch : W32 := 0
  seenRank : W32 := 0
deriving DecidableEq, Repr

/-- A ring port (R176 to R212, R218 to R236). `toWin` holds while the crown unit has yet to win the ring (R311); `tx` is
what the port transmitted in the latest command that made it transmit. -/
structure RingPort where
  table : List SecEntry := []
  released : Bool := false
  syncF : Bool := false
  syncB : Bool := false
  faultF : Bool := false
  faultB : Bool := false
  sinceF : Nat := 0
  sinceB : Nat := 0
  wrapped : Option Pair := none
  healReady : Bool := false
  dual : Bool := false
  dualPend : Bool := false
  wrapCount : Nat := 0
  wrapF : Byte := 0
  wrapB : Byte := 0
  healSince : Option Nat := none
  heal : Bool := false
  healSent : Bool := false
  cleanRun : Nat := 0
  round : Nat := 0
  roundMax : Nat := 0
  overLimit : Bool := false
  frames : W32 := 0
  late : Nat := 0
  check : Nat := 0
  altered : Nat := 0
  conflict : Nat := 0
  cvF : Nat := 0
  cvB : Nat := 0
  nodeSel : Nat := 0
  nodes : List (Nat × NodeCnt) := []
  testCycle : Nat := 0
  testReq : Bool := false
  testOn : Bool := false
  testLeave : Bool := false
  sent : Option Frame := none
  sentAt : Nat := 0
  sentRing : Nat := 0
  copyF : Option Frame := none
  copyB : Option Frame := none
  heardF : Bool := false
  heardB : Bool := false
  merged : Bool := false
  silent : Bool := false
  lastStart : Option Nat := none
  lastSeen : Option W64 := none
  claimSeen : Option (W32 × W64) := none
  gfault : Bool := false
  lock : Lock := .unlocked
  refF : Option (Nat × W64) := none
  refB : Option (Nat × W64) := none
  devF : Int := 0
  devB : Int := 0
  relocks : Nat := 0
  closed : Nat := 0
  g1 : Bool := false
  g2 : Bool := false
  beaconSeq : W16 := 0
  tmFlags : Byte := 0
  tmRank : Byte := 0
  claim : Claim := {}
  toWin : Bool := false
  sbIseq : W16 := 0
  tx : List (Pair × Frame) := []
deriving DecidableEq, Repr

/-- The time base (R210 to R217, R236). -/
structure Tb where
  timeHi : W32 := 0
  locked : Bool := false
  lockRun : Nat := 0
  stepped : Bool := false
  stepBeacon : Bool := false
  handBeacon : Bool := false
  tm : Option Lane := none
  dev : Tri Int := ⟨0, 0, 0⟩
  far : Tri Nat := ⟨0, 0, 0⟩
  partnerOff : Int := 0
  lastTime : Nat := 0
  handovers : Nat := 0
  established : Bool := false
deriving DecidableEq, Repr

/-- One lane's view of one field node (R252 to R254, R262). `part` is the latest accepted part with JOIN = 0, `join`
the latest accepted join request, each with the ring time of its frame; `tag` the tag it seals with in this cycle. -/
structure NodeView where
  lost : Bool := true
  iseq : W16 := 0
  istat : W16 := 0
  beacon : W16 := 0
  part : Option (Nat × W16 × List Byte) := none
  join : Option (Nat × W16) := none
  tag : Option Byte := none
deriving DecidableEq, Repr

/-- One lane's telegram registers and node views (R262); a node's key is 256 x ring + address;
`parts` counts the parts accepted since the latest latch. -/
structure Telegrams where
  nodes : List (Nat × NodeView) := []
  check : Nat := 0
  seq : Nat := 0
  aged : Nat := 0
  joinReq : Nat := 0
  rejoined : Nat := 0
  lostNow : Nat := 0
  parts : Nat := 0
  selRing : Nat := 0
  selAddr : Nat := 0
deriving DecidableEq, Repr

/-- What the write phase under way carries (R94, R241, R242): the committed image, its cycle, the epoch it is sealed
under, whether it is HELD, the program that made the image, and per lane whether it seals and the tags of its nodes. -/
structure WritePhase where
  img : Tab W64 := []
  cycle : W32 := 0
  epoch : W32 := 0
  held : Bool := false
  prog : W64 := 0
  seals : Tri Bool := ⟨false, false, false⟩
  tags : Tri (List (Nat × Byte)) := ⟨[], [], []⟩
deriving DecidableEq, Repr

/-- A door's staff confirmation source (R268). -/
inductive StaffSrc where
  | vin (input : Nat)
  | panel (ring : Ring) (addr bit : Nat)
deriving DecidableEq, Repr

/-- An entry of the door table (R268, R467), with its derived SPD_LIM (R269). -/
structure DoorEntry where
  ring : Ring
  addr : Nat
  unit : Nat
  retired : Bool
  gunit : Nat
  leaves : Nat
  proofOpen : Nat
  mass : Nat
  eLim : Nat
  full : Nat
  win : Nat
  closedTol : Nat
  posTol : Nat
  spdTol : Nat
  dirTol : Nat
  dirGrace : Nat
  disc : Nat
  degMax : Nat
  plausTol : Nat
  pti : Option (Ring × Nat × Nat)
  staff : Option StaffSrc
  spdLim : Nat
deriving DecidableEq, Repr

/-- The guard unit states (R280). -/
inductive DoorState where
  | supervised | tripped | degraded | isolated
deriving DecidableEq, Repr

/-- The proof stages (R283). -/
inductive Proof where
  | unproven | openSeen | proven
deriving DecidableEq, Repr

/-- One encoder's readings of a fresh frame (R267). -/
structure Reading where
  pos : W16 := 0xFFFF
  spd : W16 := 0x8000
  stat : Byte := 0
deriving DecidableEq, Repr

/-- One channel's state of one guard unit (R263 to R288). `seen` is set by the first fresh frame; `implX`, `implY` count
implausible evaluations in a row; `quiet` is the ring time from which the conditions of R279 have held, `both`, `one` and
`agree` those from which what R280 and R281 ask throughout the interval has held; `grace` is the SDI grace with its base
speeds; `used` is the degraded time in ns and `degAt` the ring time up to which it has been counted. -/
structure DoorChan where
  state : DoorState := .supervised
  proof : Proof := .unproven
  failX : Bool := false
  failY : Bool := false
  cause : Nat := 0
  x : Reading := {}
  y : Reading := {}
  sample : W16 := 0
  seen : Bool := false
  implX : Nat := 0
  implY : Nat := 0
  stale : Nat := 0
  disc : Nat := 0
  quiet : Option Nat := none
  both : Option Nat := none
  one : Option Nat := none
  agree : Option Nat := none
  conf : Bool := false
  confMiss : Nat := 0
  grant : Bool := false
  cmd : Nat := 0
  grace : Option (Nat × Option (Int × Int)) := none
  used : Nat := 0
  degAt : Nat := 0
  trips : Nat := 0
deriving DecidableEq, Repr

/-- The door guard (R263 to R293): the copy of the door table of channel X and that of channel Y with the check of each over
the units of each ring (R264), each channel's units by number, and counters. -/
structure Door where
  table : List DoorEntry := []
  copyY : List DoorEntry := []
  sumX : Quad W32 := ⟨0, 0, 0, 0⟩
  sumY : Quad W32 := ⟨0, 0, 0, 0⟩
  tripHold : Nat := 0
  cx : List (Nat × DoorChan) := []
  cy : List (Nat × DoorChan) := []
  split : List Nat := []
  trips : Nat := 0
  cleared : Nat := 0
  gfault : Bool := false
  sel : Nat := 0
deriving DecidableEq, Repr

/-- CROWN_STAT.STATE (R320). -/
inductive CrownState where
  | off | seeking | copying | proving | inStep | frozen | out | candidate | crowned
deriving DecidableEq, Repr

/-- Why a handover is offered (R155, R316). -/
inductive OfferWhy where
  | rotation | now | degraded
deriving DecidableEq, Repr

/-- A handover under way (R313): its cycle h, why, whether ACCEPT is held (sent, on the standby), and on the standby
the digest of COMMIT(h) once received. -/
structure Handover where
  h : W32
  why : OfferWhy
  accepted : Bool := false
  digest : Option W32 := none
deriving DecidableEq, Repr

/-- The latest commit of this module as R308 compares it: cycle and digest, none when the cycle was not committed. -/
structure OwnCommit where
  cycle : W32
  digest : Option W32
deriving DecidableEq, Repr

/-- The resynchronisation copy a holder's donor is sending (R310): the next pass, the state words sent last. -/
structure Sending where
  pass : Nat := 0
  noun : Tab W64 := []
  timer : Tab W32 := []
deriving DecidableEq, Repr

/-- The crown unit (R294 to R321). Times: `view`, `tAck`, `lastTs`, `claimAt` and the lease L in ring ns; `waitFrom`,
`outAt`, `frozenAt`, `retryAt` in module ns; `heldFrom` in life-clock µs. `epoch` is the module's own once it takes the
crown, `followed` the followed one. From C(h) of a handover to the latch at B(h + 1), `finalLatch` stands on the module that
handed the crown over and `firstLatch` on the one that took it (R313). -/
structure Crown where
  state : CrownState := .off
  epoch : W32 := 0
  followed : W32 := 0
  view : Option Nat := none
  tAck : Nat := 0
  lastTs : Nat := 0
  lease : Nat := 0
  closed : Bool := false
  solo : Bool := false
  released : Bool := false
  partner : Nat := 0xF
  partnerRank : W32 := 0
  partnerVoting : Tri Bool := ⟨false, false, false⟩
  partnerDeg : Bool := false
  partnerRejoin : Bool := false
  partnerTest : Bool := false
  partnerLocked : Bool := false
  matched : W32 := 0
  lowEpoch : Nat := 0
  takes : Nat := 0
  handovers : Nat := 0
  postponed : Nat := 0
  hold : Bool := false
  changeCycle : W32 := 0
  settingsDiff : Bool := false
  byStart : Bool := false
  renewed : Bool := false
  waitFrom : Nat := 0
  outAt : Nat := 0
  frozenAt : Nat := 0
  heldFrom : Nat := 0
  ho : Option Handover := none
  retry : Option OfferWhy := none
  retryAt : Nat := 0
  rotStop : Bool := false
  finalLatch : Bool := false
  firstLatch : Bool := false
  degRestart : Bool := false
  claimSeq : Nat := 0
  claimAt : Option Nat := none
  statusSent : Bool := false
  pass : Nat := 0
  sending : Option Sending := none
  parts : List PartBody := []
  latch : Option LatchBody := none
  own : Option OwnCommit := none
  heard : Option CommitBody := none
  uncompared : Nat := 0
  combSeq : Option Nat := none
  xclocks : Nat := 0
deriving DecidableEq, Repr

/-- A record as it went out: of one that is sent twice, the copy of a lane (R296). -/
structure PlSent where
  rcd : PlOut
  lane : Option Lane
deriving DecidableEq, Repr

/-- The partner link (R294 to R297): lanes in sync, counters, and what it has sent, newest last. -/
structure Pl where
  sync0 : Bool := false
  sync1 : Bool := false
  load : Nat := 0
  errCheck : Nat := 0
  errDup : Nat := 0
  out : List PlSent := []
deriving DecidableEq, Repr

/-- The exchange state of R329. -/
inductive PxState where
  | idle | staging | staged | proposed | agreed | switching
deriving DecidableEq, Repr

/-- The program exchange (R322 to R348). `partner` is the exchange word of the partner's latest record with that record's
cycle; `cancel` a cancellation for h still to be told in the next record; `lastH` h of the latest switch; `swap` is set from
C(h) until the lanes have translated to the new bank, `hSkipped` whether cycle h was skipped as a whole; `goCheck` the
IMG_CHECK named in GO; `dirAt` the time of a switch the bank directory does not hold yet. -/
structure Px where
  state : PxState := .idle
  reason : Nat := 0
  target : W32 := 0
  h : W32 := 0
  lastH : W32 := 0
  cancel : Option W32 := none
  xclocks : Nat := 0
  idHi : W32 := 0
  sidHi : W32 := 0
  switches : Nat := 0
  cancels : Nat := 0
  partner : Xw := {}
  partnerCycle : W32 := 0
  swap : Bool := false
  goCheck : W32 := 0
  hSkipped : Bool := false
  dirAt : Option Nat := none
deriving DecidableEq, Repr

/-- The reasons a command ends the run. -/
inductive Fault where
  /-- An engine verb's word carries another legal verb's code: it is no command of that verb. Raised by every
  engine verb's meaning; safe, since the hardware executes each word as the verb its code names (R60). -/
  | wrongVerb
deriving DecidableEq, Repr

/-- The refusals. -/
inductive Refusal where
  /-- A command without a meaning yet; raised by exec's refused arms alone; safe. -/
  | notModelled (mnemonic : String)
deriving DecidableEq, Repr

/-- One ring-time counter (R213): ns of ring time, the part of a ns carried, and its slew against module time in ppb. -/
structure RingClk where
  ns : Nat := 0
  frac : Nat := 0
  slewPpb : Int := 0
deriving DecidableEq, Repr

/-- The clocks: module time, the three ring-time counters, the life clock (R525) and the calendar (R527).
`frac` fields carry the part below the unit, in 10^-9 of it. -/
structure Clocks where
  now : Nat := 0
  ring : Tri RingClk := ⟨{}, {}, {}⟩
  lifeUs : Nat := 0
  lifeFrac : Nat := 0
  lifePpb : Int := 0
  calNs : Nat := 0
  calFrac : Nat := 0
  calPpb : Int := 0
  calValid : Bool := false
  calSetter : Nat := 3
deriving DecidableEq, Repr

/-- The states of a logic engine between and inside logic phases. -/
inductive Run where
  | idle | running | ended | stopped
deriving DecidableEq, Repr

/-- The logic engine of one lane (R47), its count of lane clocks (R82), the cycle of its phase and its fault word (R85). -/
structure Engine where
  acc : W64 := 0
  cmask : W64 := 0xFFFFFFFFFFFFFFFF
  w : W64 := 0
  clause : List W64 := []
  call : List (BitVec 18) := []
  pc : BitVec 18 := 0
  run : Run := .idle
  clocks : Nat := 0
  startAt : Nat := 0
  cycle : W32 := 0
  viaCall : Bool := false
  faultWord : W64 := 0
deriving DecidableEq, Repr

/-- The on-chip stores of one lane (R53, R68): what an unlisted word reads as is 0. `latched` is the input image of the next
cycle while the lane still runs the phase of this one (R57). -/
structure Stores where
  noun : Tab W64 := []
  timer : Tab W32 := []
  inp : Tab W64 := []
  out : Tab W64 := []
  bad : List StoreLoc := []
  latched : Option (Tab W64) := none
deriving DecidableEq, Repr

/-- One bit of the input placement table (R103, R105): bit `src` of the part of node `addr` of ring `ring` goes to
bit `dst` of the field input image; `safe` is its declared safe value. -/
structure Place where
  ring : Ring
  addr : Nat
  src : Nat
  dst : Nat
  safe : Bool
deriving DecidableEq, Repr

/-- One entry of a state map (R326): kind 1 NOUN, 2 EDGE, 3 EDGE_NEW, 4 TIMER, 5 OUTPUT; `units` is COUNT + 1. -/
structure MapEntry where
  kind : Nat
  units : Nat
  old : Nat
  new : Nat
  mask : W64
deriving DecidableEq, Repr

/-- A state map (R325): the program it translates from, XCLOCKS, its entries, whether MAP_CHECK verifies, and whether its
KIND, its fields fixed at 0 and its length in the program header are as ruled. -/
structure StateMap where
  fromId : W64
  xclocks : Nat
  entries : List MapEntry
  checkOk : Bool
  formOk : Bool
deriving DecidableEq, Repr

/-- A program image in an instruction store bank, its header read out (R88). -/
structure Program where
  insnCount : Nat := 0
  wcet : Nat := 0
  nounTop : Nat := 0
  retStart : Nat := 0
  retLen : Nat := 0
  subrCount : Nat := 0
  build : W64 := 0
  id : W64 := 0
  words : Tab W64 := []
  timerImg : Tab W32 := []
  nounImg : Tab W64 := []
  safe : Tab W64 := []
  placement : List Place := []
  map : Option StateMap := none
  imgCheck : W32 := 0
deriving DecidableEq, Repr

/-- A retentive copy in one DRAM slot (R125): its stamp, which is invalid while a copy is being written, the retentive noun
words from `start` on and the timer cells with RET = 1, and its check; `spoilt` where an uncorrectable error lies in it
(R517). -/
structure RetCopy where
  cycle : W32
  progId : W64
  stamped : Bool
  start : Nat
  len : Nat
  noun : Tab W64
  timer : Tab W32
  check : W32
  spoilt : Bool
deriving DecidableEq, Repr

/-- LANE_STATE.STATE (R46); 6 and 7 are never read. -/
inductive LState where
  | off | starting | voting | excluded | rejoining | heldOut
deriving DecidableEq, Repr

/-- The two instruction store banks of a lane (R88, R322): what each holds, the bank the lane executes, and its
staging (R328): the inactive bank staged, the result and the IMG_CHECK computed. -/
structure Banks where
  bank0 : Option Program := none
  bank1 : Option Program := none
  active : Bool := false
  staged : Bool := false
  result : Nat := 0
  check : W32 := 0
deriving DecidableEq, Repr

/-- The two retentive copy slots of a lane's DRAM (R125). -/
structure RetSlots where
  slot0 : Option RetCopy := none
  slot1 : Option RetCopy := none
deriving DecidableEq, Repr

/-- One lane's state (R145) and the registers of its lane status block (R46, R90, R134). `life` of each entry into REJOINING
is kept for the 24 h window; `faultNow` is a lane fault not yet acted on at a commit (R143), `wdogReset` a watchdog reset
that meets R144 (R432); `ready` and `everReady` are its reports since its latest reset and since the module reset (R144). -/
structure LaneRegs where
  state : LState := .off
  ready : Bool := false
  everReady : Bool := false
  rejoins : List Nat := []
  faultNow : Bool := false
  resetDue : Bool := false
  resetHeld : Bool := false
  voteReset : Bool := false
  wdogReset : Bool := false
  fwCopy : Bool := false
  supplyIn : Bool := true
  clockIn : Bool := true
  freqDev : W16 := 0
  suspect : Bool := false
  stable : Bool := false
  pllLock : Bool := false
  step : Nat := 0
  vcoreMv : Nat := 0
  feed : Bool := false
  vbackOk : Bool := false
  vmainOk : Bool := false
  fault : BitVec 8 := 0
  cycle : W32 := 0
  trap : W32 := 0
  trapIndex : W32 := 0
  run : Nat := 0
  runMax : Nat := 0
  callMax : Nat := 0
  clauseMax : Nat := 0
  skipTotal : Nat := 0
  skipConsec : Nat := 0
  retValid : Bool := false
  retSlot : Bool := false
  retCycle : W32 := 0
  primes : Tab W64 := []
deriving DecidableEq, Repr

/-- The identity and global registers (R45, R133) that are not read from other state. -/
structure Glb where
  valid : Bool := false
  k : Nat := 0
  profile : Nat := 0
  commitCycle : W32 := 0
  svc : Lane := .a
  svcMoves : Nat := 0
  svcForced : Bool := false
  skipTotal : Nat := 0
  skipConsec : Nat := 0
  warmFail : Nat := 0
  restartType : Nat := 0
  restartCycle : W32 := 0
  cmdDeferred : Nat := 0
  cmdRefused : Nat := 0
deriving DecidableEq, Repr

/-- What the first logic phase after a restart or exchange announces (R58). -/
inductive First where
  | none | cold | warm | exchange
deriving DecidableEq, Repr

/-- Where the module stands inside a program cycle (R93). -/
inductive Phase where
  | idle | latched | logic | voting | voted
deriving DecidableEq, Repr

/-- A held command (R108, R111): its slot, its value, the ring time its acceptance completed, and whether it has
already been counted as deferred. -/
structure HeldCmd where
  slot : Nat
  value : W64
  when : Nat
  deferred : Bool
  eth : Bool := false
deriving DecidableEq, Repr

/-- The outcome of one vote (R137): the image and fault word to commit, the agreed image before safe values, and what
disagreed. -/
structure VoteRes where
  image : Tab W64
  faultWord : W64
  agreed : Tab W64
  agreedFault : W64
  skipped : Bool
  minority : Tri Bool
  split3 : Nat
  split2 : Nat
  disWords : Nat
  disFirst : Nat
  disLanes : Tri Bool
  disSplit : Bool
  digestBad : Bool
deriving DecidableEq, Repr

/-- The program cycle (R92 to R124). `b`, `bPrev` are B(n), B(n - 1) in ring ns; `firstAt` the ring time at or after
which the first cycle may begin; `img` the image of the latest commit, `imgFault` its fault word;
`takeover` a first latch after taking the crown from followed state (R312), for which `latchLife` and `commitLife` keep
the life-clock µs of the latch and commit of the latest committed cycle; `latchNow` is that of the latest latch; `latchSent`
whether its LATCH record went out, `imaged` whether the lanes hold its input image. -/
structure Cyc where
  on : Bool := false
  n : W32 := 0
  b : Nat := 0
  bPrev : Nat := 0
  firstAt : Nat := 0
  first : First := .none
  ebZero : Bool := true
  phase : Phase := .idle
  img : Tab W64 := []
  imgFault : W64 := 0
  imgCycle : W32 := 0
  restartCommit : Bool := false
  prevSkipped : Bool := false
  safeStop : Bool := false
  atEnd : Tri Bool := ⟨false, false, false⟩
  skipping : Tri Bool := ⟨false, false, false⟩
  res : Option VoteRes := none
  cmds : List HeldCmd := []
  latchSent : Bool := false
  imaged : Bool := false
  takeover : Bool := false
  latchNow : Nat := 0
  latchLife : Nat := 0
  commitLife : Nat := 0
deriving DecidableEq, Repr


/-- What a verb works on: the lane's engine, its stores and its standing prime marks (R342). -/
structure Work where
  eng : Engine
  st : Stores
  primes : Tab W64
deriving DecidableEq, Repr

/-- The fields of an instruction word (R60). -/
structure VWord where
  verb : BitVec 6
  p : Bool
  space : BitVec 2
  addr : BitVec 23
  op2 : W32
deriving DecidableEq, Repr

/-- Which operand a verb's form takes (R63). -/
inductive OperandForm where
  | none | any | anyNoTimer | store | timer | edge
deriving DecidableEq, Repr

/-- What a verb's form puts into OP2 (R63, R64, R69, R84). -/
inductive Op2Form where
  | zero | bit0 | preset | imm | fault
deriving DecidableEq, Repr

/-- A row of the verb table (R63): the P values allowed, the operand, OP2. -/
structure VerbForm where
  p0 : Bool
  p1 : Bool
  operand : OperandForm
  op2 : Op2Form
deriving DecidableEq, Repr

/-- A timer cell's fields (R68). -/
structure TimerCell where
  base : BitVec 2
  q : Bool
  run : Bool
  ret : Bool
  last : Bool
  count : BitVec 26
deriving DecidableEq, Repr

/-- A running rejoin (R146 to R150): the lane, its donor and checker, the pass; while `inPass`, the donor's snapshot with
its cycle and the B of that cycle, and `prev` the snapshot of the pass before; the checker's snapshot of the pass with its
cycle, and its latest since; the cycles pass 0 has lasted and the proving cycles matched. -/
structure Rejoin where
  lane : Lane
  donor : Lane
  checker : Option Lane
  proving : Bool := false
  pass : Nat := 0
  inPass : Bool := false
  snapCycle : W32 := 0
  snapB : Nat := 0
  noun : Tab W64 := []
  timer : Tab W32 := []
  prevNoun : Tab W64 := []
  prevTimer : Tab W32 := []
  chk : Option (W32 × Tab W64 × Tab W32) := none
  chkNext : Option (W32 × Tab W64 × Tab W32) := none
  cycles : Nat := 0
  proven : Nat := 0
deriving DecidableEq, Repr

/-- VOTE_STAT.MODE (R175). -/
inductive Mode where
  | off | full | degraded | halted
deriving DecidableEq, Repr

/-- The vote unit (R135 to R167, registers of R175). The degraded clock keeps the life-clock instant of its expiry in
`degEnd`, `degLeft` is what DEG_LEFT holds while it does not run, `graceEnd` the end of the second of R155. -/
structure Vote where
  mode : Mode := .off
  cycle : W32 := 0
  minority : Tri Nat := ⟨0, 0, 0⟩
  splitTwo : Nat := 0
  splitThree : Nat := 0
  lastDis : W32 := 0
  lastDisCycle : W32 := 0
  degMinutes : Nat := 0
  degRun : Bool := false
  degEnd : Nat := 0
  degLeft : Nat := 0
  degExpired : Bool := false
  graceEnd : Option Nat := none
  rejoin : Option Rejoin := none
  aborts : Nat := 0
  hold : Bool := false
  pxHold : Bool := false
  first : Nat := 0
  firstCycle : W32 := 0
  firstAt : Nat := 0
  stuck : Tri Bool := ⟨false, false, false⟩
  modAct : List Nat := []
  laneAct : Tri Bool := ⟨false, false, false⟩
  src : W16 := 0
  haltRestart : Option Nat := none
  committed : Bool := false
  permit : Tri Bool := ⟨false, false, false⟩
  readback : Tri Bool := ⟨false, false, false⟩
  seen : Tri Bool := ⟨false, false, false⟩
deriving DecidableEq, Repr

/-- One contact of a local vital input as one lane reads it: steady level, consecutive failed cycles. -/
structure Contact where
  closed : Bool := false
  failed : Nat := 0
deriving DecidableEq, Repr

/-- One local vital input as one lane evaluates it (R170 to R172): good ring cycles in a row, open ring cycles in a
row, the ring time since which the contacts differ, the latched cause (0 none) and the evaluation. -/
structure VinEval where
  x1 : Contact := {}
  x2 : Contact := {}
  good : Nat := 0
  openRun : Nat := 0
  differ : Option Nat := none
  cause : Nat := 0
  closed : Bool := false
deriving DecidableEq, Repr

/-- The local vital inputs: per lane the evaluations of inputs A to H, the settings in force (VIN_CFG), the ring cycle last
evaluated, and the ring time from which the present scale has run (R169). -/
structure Vin where
  ev : Tri (List VinEval) := ⟨List.replicate 8 {}, List.replicate 8 {}, List.replicate 8 {}⟩
  discrepMs : Nat := 0
  doneAt : Option Nat := none
  scaleFrom : Nat := 0
  debounce : Nat := 0
deriving DecidableEq, Repr

/-- What a comb cell's PAYLOAD holds: bytes the spec lays out (R557 and R382), or a catalogue record (R352). -/
inductive Payload where
  | bytes (typ : Nat) (b : List Byte)
  | note (n : Note) (vals : List Nat)
deriving DecidableEq, Repr

/-- A comb cell before its CHECK and CAP (R351). -/
structure Cell where
  seq : Nat
  life : Nat
  cal : Nat
  cycle : W32
  source : Nat
  payload : Payload
  calValid : Bool
  partner : Bool
  verified : Bool
  trunc : Bool
deriving DecidableEq, Repr

/-- A cell's place in a comb: its bytes 0 to 251, its CHECK made with the epoch given, and its CAP word (R351, R353, R354);
`bad` marks one that cannot be read or fails its CHECK (COMB_BAD). -/
structure Slot where
  cell : Cell
  epoch : Nat
  cap : W32
  bad : Bool := false
deriving DecidableEq, Repr

/-- COMB_STAT.C0 to C2. -/
inductive CombMode where
  | recording | clearing | full
deriving DecidableEq, Repr

/-- One comb (or the last-words store): its slots by index, write index, capacity, generation, epoch and fill levels
already announced; `erasing` while the first 64 blocks of a clear are erased. -/
structure CombArr where
  slots : List (Nat × Slot) := []
  count : Nat := 0
  cap : Nat := 0
  gen : W32 := 0
  epoch : Nat := 0
  mode : CombMode := .recording
  erasing : Bool := false
  level : Nat := 0
  oldCount : Nat := 0
  oldSeq : Option Nat := none
deriving DecidableEq, Repr

/-- What the cell writer programs: a cell of the queue, or one it made itself, a FULL cell (R366) or EPOCH_OPEN (R370). -/
inductive CellKind where
  | queued | full | opening
deriving DecidableEq, Repr

/-- The cell in progress (R355, R361): its comb (4 the last-words store), and whether its data operation has ended well, so
that the cap alone is missing. -/
structure InProg where
  comb : Nat
  cell : Cell
  kind : CellKind
  data : Bool
deriving DecidableEq, Repr

/-- COMB_STAT.STATE. -/
inductive CombState where
  | off | scanning | running | frozen | failed
deriving DecidableEq, Repr

/-- A snapshot being written (R374): its list, the brood captures still to come after the trigger. -/
structure SnapRun where
  list : Nat
  left : Nat
deriving DecidableEq, Repr

/-- One capture of a snapshot list in the brood buffer (R373): brood number of its first cell, list, cycle, skipped, values;
`gone` its cells that have been made absent (R517). -/
structure Brood where
  num : Nat
  list : Nat
  cycle : W32
  skipped : Bool
  life : Nat
  cal : Nat
  values : List W64
  gone : List Nat := []
deriving DecidableEq, Repr

/-- A 128-bit challenge (R368, R507): what it was issued for, its value and the life-clock end of its validity. -/
structure Challenge where
  value : BitVec 128
  what : Nat
  operator : W32
  upTo : Nat
deriving DecidableEq, Repr

/-- The comb (R349 to R384). `queue` holds (comb, cell) in sequence order; `prog` is the cell in progress, once it must be
told from the one the writer would begin next; `own` the cells the writer made itself, still to be written. -/
structure Comb where
  state : CombState := .scanning
  c0 : CombArr := { cap := 8388608 }
  c1 : CombArr := { cap := 4194304 }
  c2 : CombArr := { cap := 4194304 }
  lw : CombArr := { cap := 256 }
  lwFull : Bool := false
  failed : Bool := false
  cat : Nat := 0
  nextSeq : Nat := 0
  seqHi : W32 := 0
  queue : List (Nat × Cell) := []
  queueMax : Nat := 0
  prog : Option InProg := none
  own : List InProg := []
  lossQueue : Nat := 0
  lossStart : Nat := 0
  lossCnt : List Nat := [0, 0, 0, 0]
  lossFirst : W32 := 0
  lossLast : W32 := 0
  badCheck : Nat := 0
  badEcc : Nat := 0
  refused : List Nat := [0, 0, 0]
  events : List Cell := []
  frzMaxMs : Nat := 100
  frzActive : Bool := false
  frzReq : Bool := false
  frzSince : Nat := 0
  frzLost : Nat := 0
  holdupEnd : Option Nat := none
  stopped : Bool := false
  curSel : Nat := 0
  cursor : Nat := 0
  cache : Option (Nat × Nat) := none
  mask : BitVec 4 := 0
  authOp : W32 := 0
  chal : Option Challenge := none
  sig : List W32 := List.replicate 16 0
  clearOp : W32 := 0
  clearing : BitVec 4 := 0
  snapTrig : BitVec 4 := 0
  snapReflex : Bool := false
  snapMissed : Nat := 0
  snapRuns : List SnapRun := []
  missNow : List (Nat × Nat × W32 × Nat) := []
  brood : List Brood := []
  broodNext : Nat := 0
  nounPrev : List (Nat × W64) := []
deriving DecidableEq, Repr

/-- The four states of an event source (R419). -/
inductive EvState where
  | idle | pending | active | activePending
deriving DecidableEq, Repr

/-- An event source (R419 to R428): its state, claimer, settings, fires, and its moderation: fires and first fire of
the period, and the targets it has become deliverable to. -/
structure Source where
  state : EvState := .idle
  claimer : HostId := 0
  tier : Nat := 15
  modCount : Nat := 1
  mask : BitVec 4 := 0
  order : Nat := 255
  modTime : Nat := 0
  fires : Nat := 0
  coalesced : Bool := false
  period : Nat := 0
  since : Nat := 0
  deliver : BitVec 4 := 0
  coalescedAt : Option Nat := none
deriving DecidableEq, Repr

/-- The event router (R418 to R430): sources 1 to 191, floors, HOST_IDLE_N inputs, per target whether IRQ_N has been
asserted since its previous claim read, and `done`, the sources completed in the clock `doneAt` (R419). -/
structure Evr where
  src : List (Nat × Source) := []
  floor : Quad Nat := ⟨15, 15, 15, 15⟩
  idle : BitVec 4 := 0
  irqSeen : BitVec 4 := 0
  ignored : Nat := 0
  sel : Nat := 0
  doneAt : Nat := 0
  done : List Nat := []
deriving DecidableEq, Repr

/-- The stages of R440. -/
inductive Stage where
  | hold | clocks | options | pll | boot | selftest | load | ready
deriving DecidableEq, Repr

/-- The reset controller (R431 to R456). `cur` is the code of the widest source of the latest module reset, `srcs` its
sources; `nrst` the NRST_N filter holding the module; `stageAt` the module time the stage began, `holdEnd` the end of
HOLD; `refs`, `plls` the clocks counted stable, `clkAt`, `pllAt` when the wait for them began; `off` the lanes given up;
`cold` forces a cold boot; `ovr` is the release override this reset consumed; `dram` that this boot is from DRAM copies. -/
structure Rst where
  powered : Bool := false
  stage : Stage := .hold
  cur : Nat := 0
  srcs : Nat := 0
  nrst : Bool := false
  level : Bool := true
  rejected : Nat := 0
  stageAt : Nat := 0
  holdEnd : Nat := 0
  refs : Tri Bool := ⟨false, false, false⟩
  plls : Tri Bool := ⟨false, false, false⟩
  cold : Bool := false
  ovr : Bool := false
  off : Tri Bool := ⟨false, false, false⟩
  clkAt : Nat := 0
  pllAt : Option Nat := none
  dram : Bool := false
  boot : Nat := 0
  bootMs : Nat := 0
  fuseSel : Nat := 0
  recovery : Bool := false
  cell : Option (List Nat) := none
  chosen : Option Nat := none
deriving DecidableEq, Repr

/-- The option loader (R444 to R447, R457): the options in force and its status. -/
structure Opt where
  fail : Bool := false
  why : Nat := 0
  used : Nat := 3
  bad : Nat := 0
  other : Nat := 0
  seq : Nat := 0
  flags : Byte := 0
  set0 : Nat := 0x100000
  set1 : Nat := 0x200000
deriving DecidableEq, Repr

/-- A host port response (R401, R402): the host's chip select, the status, the data bytes and the check. -/
structure Resp where
  host : HostId
  status : Nat
  data : List Byte
  check : W32
deriving DecidableEq, Repr

/-- Counts of command telegrams (HP_CMD, ETH_CMD). -/
structure CmdCounts where
  accepted : Nat := 0
  stateRef : Nat := 0
  seq : Nat := 0
  source : Nat := 0
  check : Nat := 0
deriving DecidableEq, Repr

/-- The host port (R400 to R411): the response the VT3 drives, none while it drives nothing; its counters, and per
command type the life-clock time of the latest STATE_REFUSED cell and the refusals since (R417). -/
structure Hp where
  resp : Option Resp := none
  abandoned : Nat := 0
  clash : Nat := 0
  opcode : Nat := 0
  check : Nat := 0
  busy : Nat := 0
  stateRef : Nat := 0
  cmd : CmdCounts := {}
  echo : Quad W32 := ⟨0, 0, 0, 0⟩
  echoAddr : Quad Nat := ⟨0, 0, 0, 0⟩
  refusals : List (Nat × Nat × Nat) := []
deriving DecidableEq, Repr

/-- A command source (R468). -/
structure CmdSource where
  id : W32
  ipv4 : Bool
  cal : Bool
  address : List Byte
  first : Nat
  last : Nat
deriving DecidableEq, Repr

/-- An entry of the router table (R469). -/
structure RouterEntry where
  source : Nat
  mask : BitVec 4
  tier : Nat
  order : Nat
  modCount : Nat
  modTime : Nat
deriving DecidableEq, Repr

/-- A snapshot list (R371, R471): trigger bits, PRE, POST, the noun bit judged, and its items: a noun word, or a host
register. -/
structure SnapList where
  trig : Nat
  pre : Nat
  post : Nat
  noun : Nat
  items : List (Bool × Nat)
deriving DecidableEq, Repr

/-- A settings block (R462 to R471), its records read out; `sections` without the retired entries, `gone` those. -/
structure Settings where
  schema : Nat := 0
  seq : Nat := 0
  id : W64 := 0
  fromId : W64 := 0
  rolling : Bool := false
  profile : Nat := 0
  k : Nat := 0
  debounce : Nat := 0
  partner : Bool := false
  discrepMs : Nat := 0
  degMin : Nat := 0
  leaseMs : Nat := 0
  autoReturn : Bool := false
  rotHours : Nat := 0
  ages : Quad Nat := ⟨0, 0, 0, 0⟩
  tripHold : Nat := 0
  telemMin : Nat := 0
  sections : Quad (List SecEntry) := ⟨[], [], [], []⟩
  gone : Quad (List SecEntry) := ⟨[], [], [], []⟩
  doors : List DoorEntry := []
  cmds : List CmdSource := []
  floors : Option W16 := none
  router : List RouterEntry := []
  net : List Byte := []
  snaps : List (Option SnapList) := [none, none, none, none]
deriving DecidableEq, Repr

/-- The settings block in force with the settings registers (R493). -/
structure SetRegs where
  block : Option Settings := none
  used : Nat := 3
  bad : Nat := 0
  other : Nat := 0
  idHi : W32 := 0
  fromHi : W32 := 0
deriving DecidableEq, Repr

/-- The phases of a session (R492 PHASE). -/
inductive UpdPhase where
  | idle | opening | receiving | checking | writing
deriving DecidableEq, Repr

/-- The update loader (R474 to R492): the session's source and what OPEN named, the bytes received, the challenges
drawn for each source, the running firmware; `msgAt` the module time of the latest message, `linkAt` since when the partner
link is out of sync; `reqSeen` that the partner asks for recovery, `returned` that this module has answered it; `reqAt` and
`pairAt` when RECOVERY_REQ and PAIR_INFO were last sent. -/
structure Upd where
  phase : UpdPhase := .idle
  lock : Option UpdSrc := none
  item : Nat := 0
  length : Nat := 0
  version : W32 := 0
  check : W32 := 0
  bytes : List Byte := []
  last : Nat := 0
  chalEth : Option Challenge := none
  chalPl : Option Challenge := none
  msgAt : Nat := 0
  linkAt : Option Nat := none
  pairMismatch : Bool := false
  fwRun : W32 := 0
  fwCheck : W32 := 0
  pairLevel : Nat := 0
  pairMin : Nat := 0
  schemaMin : Nat := 0
  schemaMax : Nat := 0
  done : Nat := 0
  busy : Nat := 0
  failed : Nat := 0
  reqSeen : Bool := false
  returned : Bool := false
  reqAt : Option Nat := none
  pairAt : Option Nat := none
deriving DecidableEq, Repr

/-- The bank directory of the code store (R322, R458), whose bytes the spec does not lay out: the active bank, and the
length of the image in each bank (log entry 43). -/
structure BankDir where
  active : Bool := false
  len0 : Nat := 0
  len1 : Nat := 0
deriving DecidableEq, Repr

/-- One lane's check units (R387 to R393): the bytes each open port context has absorbed, the value of its latest READ,
the scan queue in order of arrival, requests that stall for an entry, each requester's absorbed bytes (for CONT), the
latest scan result with its requester, and the registers of CHK_LANE. -/
structure ChkLane where
  ctx : List (Nat × List Byte) := []
  readOut : W32 := 0
  queue : List ScanReq := []
  stalled : List ScanReq := []
  absorbed : List (Nat × List Byte) := []
  scanOut : Option (Nat × W32) := none
  scanLoad : Nat := 0
  portLoad : Nat := 0
  kat : BitVec 2 := 0
  susp : Bool := false
deriving DecidableEq, Repr

/-- The check unit block outside the lanes (R395, R399). -/
structure Chk where
  repaired : Nat := 0
  bad : Nat := 0
  last : W32 := 0
  lastOld : W32 := 0
  lastNew : W32 := 0
  boot : W32 := 0
  test : Option (List Byte) := none
  moved : Bool := false
deriving DecidableEq, Repr

/-- What the VT3 sends on the maintenance Ethernet. -/
inductive EthOut where
  | comb (conn : Fin 2) (records : List (List Byte))
  | ack (dst : W32) (bytes : List Byte)
  | arp (addr : W32)
  | icmp (data : List Byte)
  | tcpAccept (service : TcpService)
  | tcpReset (port : Nat)
  | update (message : List Byte)
deriving DecidableEq, Repr

/-- The maintenance Ethernet (R414 to R416): what it has sent, newest last; open connections; PTP with a step due (its
amount and the calendar instant it is applied at) and whether a message has been seen; counters; the echo replies of the
current second. -/
structure Eth where
  link : Bool := false
  ptpOn : Bool := false
  ptpLock : Bool := false
  ptpOff : W32 := 0
  ptpStep : Option (Int × Nat) := none
  ptpSeen : Bool := false
  ptpUtc : Int := 0
  comb0 : Bool := false
  comb1 : Bool := false
  upd : Bool := false
  addr : W32 := 0
  out : List EthOut := []
  cmd : CmdCounts := {}
  dropConn : Nat := 0
  dropFrames : Nat := 0
  echoSince : Nat := 0
  echoes : Nat := 0
deriving DecidableEq, Repr

/-- A self-test record (R501): when it was made, under which firmware, why, its 11 entries (signature, pattern count)
and its DONE mark. -/
structure TestRec where
  version : W32 := 0
  check : W32 := 0
  start : Nat := 0
  stop : Nat := 0
  reason : Nat := 0
  entries : List (W32 × W32) := []
  done : W32 := 0
deriving DecidableEq, Repr

/-- ST_STAT.STATE (R513). -/
inductive TestState where
  | idle | running | stopped
deriving DecidableEq, Repr

/-- An injected fault (R509, R510): its point, lane, argument, and the module time it ends. -/
structure Inject where
  point : Nat
  lane : Nat
  arg : Nat
  ends : Nat
deriving DecidableEq, Repr

/-- The self-test controller (R494 to R514). `due` is a test that has been ordered and not yet begun, `reason` why: 1
rotation, 2 UPD_CTL.RESTART, 3 commanded stop; `shown` what the ST_ENT registers show after a start-up test; `auth` an open
authorisation of purpose OVERRIDE; `session` the life-clock end and operator of the injection session; `inj` the persisting
injection, `once` one that acts once and whose operation is still to come; `sealWrong`, `digestWrong`, `katWrong` the armed
single faults of block 0x05. -/
structure Test where
  state : TestState := .idle
  running : Bool := false
  due : Option Nat := none
  reason : Nat := 0
  andThen : Bool := false
  step : Nat := 0
  kind : Nat := 0
  result : Nat := 0
  short : Nat := 0
  sigFail : Nat := 0
  shown : Option (List (W32 × W32)) := none
  entSel : Nat := 0
  purpose : BitVec 2 := 0
  op : W32 := 0
  chal : Option Challenge := none
  sig : List W32 := List.replicate 16 0
  scanEn : Bool := false
  auth : Bool := false
  session : Option (Nat × W32) := none
  injSel : W32 := 0
  injCount : Nat := 0
  inj : Option Inject := none
  once : Option Inject := none
  injDone : Nat := 0
  injRefused : Nat := 0
  ovr : Bool := false
  atb0 : Byte := 0
  atb1 : Byte := 0
  looped : Quad Bool := ⟨false, false, false, false⟩
  loopAt : Option Nat := none
  dualAt : Quad (Option Nat) := ⟨none, none, none, none⟩
  frameAt : Nat := 0
  jtag : Jtag := .bypass
  sealWrong : Tri Bool := ⟨false, false, false⟩
  digestWrong : Tri Bool := ⟨false, false, false⟩
  katWrong : Tri Bool := ⟨false, false, false⟩
deriving DecidableEq, Repr

/-- The workers (R515 to R532). `days` keeps the 24 h slack sums and counts of each lane, `means` the daily means,
latest first; `warnedAt` the day of the latest forecast cell; `dramBad` the DRAM words each lane corrected, with the
life clock its 24 h began; `taskAt` the life clock of the latest pass of each task of R515 and `taskTold` that of its latest
cell under R516. -/
structure Wk where
  retired : Nat := 0
  relocated : Nat := 0
  relocAt : List Nat := []
  rewriteAt : List Nat := []
  spareComb : Nat := 512
  spareCode : Nat := 1504
  ocCorr : Nat := 0
  ocPass : Nat := 0
  drCorr : Nat := 0
  drPass : Nat := 0
  drDay : Tri (Nat × Nat) := ⟨(0, 0), (0, 0), (0, 0)⟩
  warned : Bool := false
  slack : Tri Nat := ⟨0, 0, 0⟩
  sums : Tri (Nat × Nat) := ⟨(0, 0), (0, 0), (0, 0)⟩
  forecast : Nat := 0xFFFF
  slope : Int := 0
  cellAt : Option Nat := none
  eyeSel : Nat := 0
  eyeNow : List Nat := [0, 0, 0, 0, 0, 0, 0]
  figure : Nat := 0
  wcet : Nat := 0
  temps : Tri Int := ⟨0, 0, 0⟩
  telemAt : Option Nat := none
  taskAt : List (Nat × Nat) := []
  taskTold : List (Nat × Nat) := []
deriving DecidableEq, Repr

/-- What the workers keep in the keep domain (R521, R531): the margin plan, `fast` the lanes whose DRAM refresh window is 32
ms and `thresholds` the blocks' planned read thresholds, the daily means, the eyes and oscillators; an eye before its first
measurement is 1000 (DESIGN CHOICE, log entry 165). -/
structure Plan where
  profile : Nat := 0
  step : Nat := 0
  applied : Nat := 0
  refresh : Bool := false
  fast : Tri Bool := ⟨false, false, false⟩
  thresholds : List (Nat × Nat) := []
  dscrub : Bool := false
  nscrub : Bool := false
  verify : Bool := false
  means : Tri Nat := ⟨0, 0, 0⟩
  ro : Tri Nat := ⟨0, 0, 0⟩
  eyes : List Nat := [1000, 1000, 1000, 1000, 1000, 1000, 1000]
deriving DecidableEq, Repr

/-- The time-keeping registers that are not clocks (R532); `setSecond` is the second of life clock of the latest set or
step, and whether it was a step of PTP (R529). -/
structure Tk where
  lifeHi : W32 := 0
  calHi : W32 := 0
  calNs : W32 := 0
  setLo : W32 := 0
  setHi : W32 := 0
  setNs : W32 := 0
  sel : Nat := 0
  setSecond : Option (Nat × Bool) := none
deriving DecidableEq, Repr

/-- A lane island's supply path (R19, R535): its inputs as its own monitors find them, and its feed, false VMAIN and
true VBACK. -/
structure Path where
  inputs : Inputs := {}
  feed : Bool := false
deriving DecidableEq, Repr

/-- The power domain (R534 to R555): the inputs as the common path sees them, its feed, and the readings. `lostAt` is
the module time of SUPPLY_LOST; `hotAt` since when the temperature estimate has been above the limit. -/
structure Pwr where
  main : Window := .low
  back : Window := .low
  feed : Bool := false
  switched : Bool := false
  holdup : Bool := false
  lostAt : Option Nat := none
  mainMv : Nat := 0
  backMv : Nat := 0
  keepMv : Nat := 0
  keepLow : Bool := false
  toMain : Nat := 0
  toBack : Nat := 0
  load : Nat := 0
  peak : Nat := 0
  holdUs : Nat := 0
  sections : Tri Nat := ⟨0, 0, 0⟩
  holdCommon : Nat := 0
  paths : Tri Path := ⟨{}, {}, {}⟩
  holdLow : Bool := false
  temp : Int := 0
  tempMax : Int := 0
  hotAt : Option Nat := none
  hotTold : Bool := false
deriving DecidableEq, Repr

/-- The fuses (R3, R45, R460): the serial rank, the two keys, VERSION_FLOOR the order code's upper case limit and its
coating; never written. -/
structure Fuse where
  rank : W32 := 1
  authKey : List Byte := []
  fwKey : List Byte := []
  floor : W32 := 0
  caseMax : Int := 85
  coat : Bool := false
deriving DecidableEq, Repr

/-- The keep domain's records in its MRAM (R434): the latest commit (R124), the active bank (R322) and whether the keep
domain is valid, which no rule ends (R434, log entry 32), the first
module-scope reflex since reset with its cycle and life clock (R162), EPOCH_KEPT (R304), the door isolation record and
degraded times in ns (R286, R288), the reset records (R453 to R456), the option load attempts (R446), the recovery reason
(R488), the command sources' last TSEQ (R411), the self-test record (R501), the margin plan (R521), the life-clock
checkpoint (R526) and the lifetime counters with their unfinished parts in µs (R530). -/
structure Keep where
  lastCommit : Option W32 := none
  bank : Bool := false
  valid : Bool := true
  reflex : Option (Nat × W32 × Nat) := none
  epochKept : W32 := 0
  isolated : List Nat := []
  degUsed : Tab Nat := []
  cnt : List Nat := [0, 0, 0, 0, 0, 0, 0, 0, 0]
  lastCause : Nat := 0
  modSrc : Nat := 0
  widest : Nat := 0
  laneSrc : Nat := 0
  laneOf : Nat := 3
  attempts : Nat := 0
  reason : Nat := 0
  fwSettings : Bool := false
  recoverAsked : Bool := false
  tseq : List (Nat × Nat) := []
  testRec : TestRec := {}
  plan : Plan := {}
  checkpoint : Nat := 0
  lifeGap : Bool := false
  lost : Bool := true
  counters : List Nat := List.replicate 18 0
  parts : List Nat := List.replicate 18 0
  countedAt : Nat := 0
deriving DecidableEq, Repr


/-- The state of the module. -/
structure State where
  /-- the ring ports -/
  ring : Quad RingPort
  /-- the time base -/
  tb : Tb
  /-- the lanes' telegram views -/
  tg : Tri Telegrams
  /-- the write phase under way -/
  wp : WritePhase
  /-- the door guard -/
  door : Door
  /-- the crown unit -/
  crown : Crown
  /-- the partner link -/
  pl : Pl
  /-- the program exchange -/
  px : Px
  /-- the keep domain's records -/
  keep : Keep
  /-- the clocks -/
  clk : Clocks
  /-- the lane status blocks -/
  lane : Tri LaneRegs
  /-- the logic engines -/
  eng : Tri Engine
  /-- the on-chip stores -/
  st : Tri Stores
  /-- the instruction store banks -/
  bank : Tri Banks
  /-- the retentive copy slots -/
  ret : Tri RetSlots
  /-- identity and global -/
  glb : Glb
  /-- the program cycle -/
  cyc : Cyc
  /-- the vote unit -/
  vote : Vote
  /-- the local vital inputs -/
  vin : Vin
  /-- the comb -/
  comb : Comb
  /-- the event router -/
  evr : Evr
  /-- the reset controller -/
  rst : Rst
  /-- the option loader -/
  opt : Opt
  /-- the host port -/
  hp : Hp
  /-- the bank directory -/
  dir : BankDir
  /-- the settings block in force -/
  set : SetRegs
  /-- the update loader -/
  upd : Upd
  /-- the lanes' check units -/
  port : Tri ChkLane
  /-- check registers and the host test context -/
  chk : Chk
  /-- the code store (R457): an unlisted byte is erased, 0xFF -/
  store : List Host.Cell
  /-- the model's own: how many free values have been drawn -/
  free : Nat
  /-- the maintenance Ethernet -/
  eth : Eth
  /-- the self-test controller -/
  test : Test
  /-- the workers -/
  wk : Wk
  /-- the time-keeping registers -/
  tk : Tk
  /-- the power domain -/
  pwr : Pwr
  /-- the commands that wait, first in first out -/
  pending : List Instr
  /-- the fuses -/
  fuse : Fuse
  /-- per status flag that software clears, the module time hardware last set it (R16); its key is 32 times the register address plus the bit -/
  setAt : Tab Nat
deriving DecidableEq, Repr

/-- The module after reset: before its first power-on, with nothing loaded and no command waiting. -/
def State.reset : State where
  ring := ⟨{}, {}, {}, {}⟩
  tb := {}
  tg := ⟨{}, {}, {}⟩
  wp := {}
  door := {}
  crown := {}
  pl := {}
  px := {}
  keep := {}
  clk := {}
  lane := ⟨{}, {}, {}⟩
  eng := ⟨{}, {}, {}⟩
  st := ⟨{}, {}, {}⟩
  bank := ⟨{}, {}, {}⟩
  ret := ⟨{}, {}, {}⟩
  glb := {}
  cyc := {}
  vote := {}
  vin := {}
  comb := {}
  evr := {}
  rst := {}
  opt := {}
  hp := {}
  dir := {}
  set := {}
  upd := {}
  port := ⟨{}, {}, {}⟩
  chk := {}
  store := []
  free := 0
  eth := {}
  test := {}
  wk := {}
  tk := {}
  pwr := {}
  pending := []
  fuse := {}
  setAt := []

end Sys2Proof.Machine
end

