-- ==== Sys2Proof/Machine/Ops.lean ====
section
/-! DEFINITION. The named operations every family shares: sparse tables, bits and bytes, the CRC-32C of R385 with its
folds, counters that saturate, per-lane access, and the clocks. -/
namespace Sys2Proof.Machine

/-! ### Sparse tables -/

/-- The entry of key k, if one is listed. -/
def kvGet {α : Type} : List (Nat × α) → Nat → Option α
  | [], _ => none
  | (i, v) :: t, k => if k = i then some v else kvGet t k

/-- Lists v at key k, keeping the keys rising. -/
def kvPut {α : Type} : List (Nat × α) → Nat → α → List (Nat × α)
  | [], k, v => [(k, v)]
  | (i, w) :: t, k, v =>
    if k < i then (k, v) :: (i, w) :: t else if k = i then (k, v) :: t else (i, w) :: kvPut t k v

/-- Takes key k out of the list. -/
def kvErase {α : Type} : List (Nat × α) → Nat → List (Nat × α)
  | [], _ => []
  | (i, w) :: t, k => if k = i then kvErase t k else (i, w) :: kvErase t k

/-- What key k reads as: its entry, or d where none is listed. -/
def tabGet {α : Type} (d : α) (t : Tab α) (k : Nat) : α := (kvGet t k).getD d

/-- Writes v at key k; writing what an unlisted key reads as removes the entry. -/
def tabSet {α : Type} [DecidableEq α] (d : α) (t : Tab α) (k : Nat) (v : α) : Tab α :=
  if v = d then kvErase t k else kvPut t k v

/-- The canonical form: keys rising from `lo`, no entry equal to d. -/
def tabWfFrom {α : Type} [DecidableEq α] (d : α) : Nat → Tab α → Bool
  | _, [] => true
  | lo, (i, v) :: t => decide (lo ≤ i) && decide (v ≠ d) && tabWfFrom d (i + 1) t

/-- The canonical form of a sparse table. -/
def tabWf {α : Type} [DecidableEq α] (d : α) (t : Tab α) : Bool := tabWfFrom d 0 t

/-- Writes a list of values from key k on. -/
def tabSetList {α : Type} [DecidableEq α] (d : α) (t : Tab α) (k : Nat) : List α → Tab α
  | [] => t
  | v :: vs => tabSetList d (tabSet d t k v) (k + 1) vs

/-- The values of n keys from k on. -/
def tabSlice {α : Type} (d : α) (t : Tab α) (k : Nat) : Nat → List α
  | 0 => []
  | n + 1 => tabGet d t k :: tabSlice d t (k + 1) n

/-- The entries whose key satisfies p. -/
def tabFilter {α : Type} (p : Nat → Bool) (t : Tab α) : Tab α := t.filter (fun e => p e.1)

/-- Lays the entries of u over t. -/
def tabOver {α : Type} [DecidableEq α] (d : α) (t u : Tab α) : Tab α :=
  u.foldl (fun acc e => tabSet d acc e.1 e.2) t

/-- The keys listed in either table, rising. -/
def keyUnion {α β : Type} (t : List (Nat × α)) (u : List (Nat × β)) : List Nat :=
  (u.foldl (fun acc e => kvPut acc e.1 ()) (t.map (fun e => (e.1, ())))).map Prod.fst

/-! ### Bits, bytes and counters -/

/-- Takes the bits of v where m is 1, of old elsewhere. -/
def merge {w : Nat} (m old v : BitVec w) : BitVec w := (old &&& ~~~m) ||| (v &&& m)

/-- A word with bit j set to b. -/
def putBit {w : Nat} (x : BitVec w) (j : Nat) (b : Bool) : BitVec w :=
  if b then x ||| (1#w <<< j) else x &&& ~~~(1#w <<< j)

/-- All ones or all zeros. -/
def fill {w : Nat} (b : Bool) : BitVec w := if b then BitVec.allOnes w else 0

/-- A bit as a number. -/
def b2n (b : Bool) : Nat := if b then 1 else 0

/-- A count of `most` at the most. -/
def satAdd (n k most : Nat) : Nat := min (n + k) most

/-- A register word from its fields, each a value and its lowest bit. -/
def pack (fs : List (Nat × Nat)) : W32 := BitVec.ofNat 32 (fs.foldl (fun acc f => acc + f.1 * 2 ^ f.2) 0)

/-- Bits [hi:lo] of a register word as a number. -/
def bits (w : W32) (hi lo : Nat) : Nat := w.toNat / 2 ^ lo % 2 ^ (hi + 1 - lo)

/-- Bit j of a register word. -/
def bit (w : W32) (j : Nat) : Bool := w.getLsbD j

/-- A number as n bytes, least significant first. -/
def leBytes : Nat → Nat → List Byte
  | 0, _ => []
  | n + 1, v => BitVec.ofNat 8 v :: leBytes n (v / 256)

/-- Bytes as a number, least significant first. -/
def leNat : List Byte → Nat
  | [] => 0
  | b :: bs => b.toNat + 256 * leNat bs

/-- A sub-list: n elements from position k. -/
def sub {α : Type} (l : List α) (k n : Nat) : List α := (l.drop k).take n

/-- Bytes k to k + n - 1 of a list as a little-endian number. -/
def leAt (l : List Byte) (k n : Nat) : Nat := leNat (sub l k n)

/-- A signed quotient rounded to nearest, ties away from zero. -/
def roundDiv (a : Int) (b : Nat) : Int :=
  if 0 ≤ a then Int.ofNat ((2 * a.toNat + b) / (2 * b)) else - Int.ofNat ((2 * (-a).toNat + b) / (2 * b))

/-- A signed number held between -m and m. -/
def clampI (m : Nat) (a : Int) : Int := max (-(m : Int)) (min (m : Int) a)

/-- Cycle a precedes cycle b (R11). -/
def cycleBefore (a b : W32) : Bool := decide (1 ≤ (b - a).toNat) && decide ((b - a).toNat ≤ 0x7FFFFFFF)

/-- The first index of a list, from 0, at which p holds. -/
def indexOf {α : Type} (p : α → Bool) : List α → Option Nat
  | [] => none
  | x :: xs => if p x then some 0 else (indexOf p xs).map (· + 1)

/-- Replaces the element at position k. -/
def setNth {α : Type} : List α → Nat → α → List α
  | [], _, _ => []
  | _ :: xs, 0, v => v :: xs
  | x :: xs, k + 1, v => x :: setNth xs k v

/-- The element at position k, or d. -/
def nthD {α : Type} (d : α) : List α → Nat → α
  | [], _ => d
  | x :: _, 0 => x
  | _ :: xs, k + 1 => nthD d xs k

/-! ### CRC-32C (R385, R386) -/

/-- One bit of the reflected CRC. -/
def crcBit (c : W32) : W32 := if c.getLsbD 0 then (c >>> 1) ^^^ 0x82F63B78#32 else c >>> 1

/-- n bits of the reflected CRC. -/
def crcBits : Nat → W32 → W32
  | 0, c => c
  | n + 1, c => crcBits n (crcBit c)

/-- Absorbs one byte. -/
def crcByte (c : W32) (b : Byte) : W32 := crcBits 8 (c ^^^ b.setWidth 32)

/-- The check value of a list of bytes (R385). -/
def crc32c (bs : List Byte) : W32 := (bs.foldl crcByte 0xFFFFFFFF#32) ^^^ 0xFFFFFFFF#32

/-- The standard fold (R386): TAG, A, B and zero. -/
def foldBytes (tag a b : Nat) : List Byte := leBytes 4 (0xC4EC0000 + tag) ++ leBytes 4 a ++ leBytes 4 b ++ leBytes 4 0

/-- The check value of data under the standard fold with the low half of its TAG. -/
def checkOf (tag a b : Nat) (data : List Byte) : W32 := crc32c (foldBytes tag a b ++ data)

/-- A 64-bit word as 8 bytes. -/
def wordBytes (w : W64) : List Byte := leBytes 8 w.toNat

/-! ### Lanes and rings -/

end Sys2Proof.Machine

namespace Sys2Proof

/-- The lanes in the order A, B, C. -/
def lanes : List Lane := [.a, .b, .c]

/-- A lane's number: 0, 1, 2. -/
def Lane.num : Lane → Nat
  | .a => 0
  | .b => 1
  | .c => 2

/-- The next lane in the order A, B, C, A (R24). -/
def Lane.next : Lane → Lane
  | .a => .b
  | .b => .c
  | .c => .a

/-- The lane of a number; 2 and above give C. -/
def Lane.ofNum : Nat → Lane
  | 0 => .a
  | 1 => .b
  | _ => .c

/-- The value of one lane. -/
def Tri.at {α : Type} (t : Tri α) : Lane → α
  | .a => t.a
  | .b => t.b
  | .c => t.c

/-- Replaces the value of one lane. -/
def Tri.put {α : Type} (t : Tri α) (l : Lane) (v : α) : Tri α :=
  match l with
  | .a => { t with a := v }
  | .b => { t with b := v }
  | .c => { t with c := v }

/-- Changes the value of one lane. -/
def Tri.upd {α : Type} (t : Tri α) (l : Lane) (f : α → α) : Tri α := t.put l (f (t.at l))

/-- Changes the value of every lane. -/
def Tri.map {α β : Type} (f : Lane → α → β) (t : Tri α) : Tri β := ⟨f .a t.a, f .b t.b, f .c t.c⟩

/-- The same value for every lane. -/
def Tri.all {α : Type} (v : α) : Tri α := ⟨v, v, v⟩

/-- A flag per lane as bits 0 to 2. -/
def Tri.mask (t : Tri Bool) : Nat := t.a.toNat + 2 * t.b.toNat + 4 * t.c.toNat

/-- The ring ports. -/
def rings : List Ring := [0, 1, 2, 3]

/-- The value of one ring port. -/
def Quad.at {α : Type} (q : Quad α) (r : Fin 4) : α :=
  if r = 0 then q.p0 else if r = 1 then q.p1 else if r = 2 then q.p2 else q.p3

/-- Replaces the value of one ring port. -/
def Quad.put {α : Type} (q : Quad α) (r : Fin 4) (v : α) : Quad α :=
  if r = 0 then { q with p0 := v } else if r = 1 then { q with p1 := v }
  else if r = 2 then { q with p2 := v } else { q with p3 := v }

/-- Changes the value of one ring port. -/
def Quad.upd {α : Type} (q : Quad α) (r : Fin 4) (f : α → α) : Quad α := q.put r (f (q.at r))

/-- Changes every ring port. -/
def Quad.map {α β : Type} (f : Ring → α → β) (q : Quad α) : Quad β := ⟨f 0 q.p0, f 1 q.p1, f 2 q.p2, f 3 q.p3⟩

end Sys2Proof

namespace Sys2Proof.Machine

/-- An input supply that can feed: usable or settled (R534). -/
def Window.feeds (x : Window) : Bool := x == .usable || x == .settled

/-! ### Clocks -/

/-- A clock of rate (10^9 + ppb) / 10^9 units per 10^9 frac: whole units and the part carried after dt. -/
def tick (dt : Nat) (ppb : Int) (frac : Nat) : Nat × Nat :=
  let x := (dt * 10 ^ 9 : Int) + dt * ppb + frac
  ((x / 10 ^ 9).toNat, (x % 10 ^ 9).toNat)

/-- One ring-time counter after dt ns of module time. -/
def RingClk.run (c : RingClk) (dt : Nat) : RingClk :=
  let x := tick dt c.slewPpb c.frac
  { c with ns := c.ns + x.1, frac := x.2 }

/-- The clocks at module time t; a t that is not later leaves them as they are. -/
def Clocks.at (c : Clocks) (t : Nat) : Clocks :=
  if t ≤ c.now then c else
    let dt := t - c.now
    let life := tick dt c.lifePpb c.lifeFrac
    let cal := tick dt (c.lifePpb + c.calPpb) c.calFrac
    { c with
      now := t
      ring := c.ring.map (fun _ r => r.run dt)
      lifeUs := c.lifeUs + life.1 / 1000
      lifeFrac := life.1 % 1000 * 10 ^ 9 + life.2
      calNs := c.calNs + cal.1
      calFrac := cal.2 }

/-- The state at module time t: only the clocks move. -/
def elapse (t : Nat) (s : State) : State := { s with clk := s.clk.at t }

/-- The key of a status flag that software clears: bit k of the register at an address. -/
def flagKey (addr k : Nat) : Nat := 32 * addr + k

/-- Hardware sets a status flag now (R16). -/
def markSet (key : Nat) (s : State) : State := { s with setAt := kvPut s.setAt key s.clk.now }

/-- Hardware sets a status flag now when b holds. -/
def markIf (b : Bool) (key : Nat) (s : State) : State := if b then markSet key s else s

/-- Hardware has set the flag in this clock: software cannot clear it (R16). -/
def setNow (s : State) (key : Nat) : Bool := kvGet s.setAt key == some s.clk.now

/-- A word written to the register at an address, without its bits for flags that hardware has set in this clock (R16). -/
def clearable (s : State) (addr : Nat) (w : W32) : W32 :=
  (List.range 32).foldl (fun w k => if setNow s (flagKey addr k) then putBit w k false else w) w

/-- Ring time of a lane. -/
def ringTime (s : State) (l : Lane) : Nat := (s.clk.ring.at l).ns

/-- The life clock in microseconds (R525). -/
def lifeNow (s : State) : Nat := s.clk.lifeUs

/-- A number lies in a range. -/
def inBounds (lo hi x : Nat) : Bool := decide (lo ≤ x) && decide (x ≤ hi)

end Sys2Proof.Machine
end

