-- ==== Sys2Proof/Machine/Record.lean ====
section
/-! DEFINITION. What every block does to be heard: raising an event router source (R419 to R428) and creating a comb
cell (R351, R356, R357, R363, R367, R382). -/
namespace Sys2Proof.Machine

/-! ### The event router -/

/-- The sources a chapter names (R418); any other number never becomes pending. -/
def namedSource (n : Nat) : Bool :=
  (1 ≤ n && n ≤ 10) || (16 ≤ n && n ≤ 36) || n == 40 || n == 41 || (48 ≤ n && n ≤ 51) || (56 ≤ n && n ≤ 59)
    || (64 ≤ n && n ≤ 71) || (96 ≤ n && n ≤ 110)

/-- A source's present state and settings. -/
def sourceOf (s : State) (n : Nat) : Source := (kvGet s.evr.src n).getD {}

/-- Writes a source. -/
def putSource (s : State) (n : Nat) (x : Source) : State := { s with evr := { s.evr with src := kvPut s.evr.src n x } }

/-- The running tier of target n (R421): 16 when it holds no source. -/
def runTier (e : Evr) (n : HostId) : Nat :=
  e.src.foldl (fun m x =>
    if (x.2.state == .active || x.2.state == .activePending) && x.2.claimer == n then min m x.2.tier else m) 16

/-- Whether a source is eligible for target n, whose running tier is r (R421). -/
def eligible (e : Evr) (n : HostId) (r : Nat) (x : Source) : Bool :=
  x.state == .pending && x.mask.getLsbD n && x.deliver.getLsbD n && decide (x.tier ≤ e.floor.at n) && decide (x.tier < r)

/-- The first eligible source for target n in the ranking of R420: tier, order, number. -/
def bestFor (e : Evr) (n : HostId) : Option Nat :=
  (e.src.foldl (fun (m : Option (Nat × Source)) x =>
    if eligible e n (runTier e n) x.2 then
      match m with
      | none => some x
      | some y => if x.2.tier < y.2.tier ∨ (x.2.tier = y.2.tier ∧ x.2.order < y.2.order) then some x else m
    else m) none).map Prod.fst

/-- IRQ_N[n] asserted (R421). -/
def irq (e : Evr) (n : HostId) : Bool := (bestFor e n).isSome

/-- Notes for every target whether IRQ_N is asserted now, which a later claim read must know (R422). -/
def noteIrq (e : Evr) : Evr :=
  let now := (irq e 0).toNat + 2 * (irq e 1).toNat + 4 * (irq e 2).toNat + 8 * (irq e 3).toNat
  { e with irqSeen := e.irqSeen ||| BitVec.ofNat 4 now }

/-- The targets a source that has fired `period` times since `since` is deliverable to by its moderation (R424). -/
def moderated (x : Source) : BitVec 4 := if max 1 x.modCount ≤ x.period ∨ x.modTime = 0 then 0xF else 0

/-- A fire of a source (R419, R424, R425, R428). -/
def fireSource (idle : BitVec 4) (now : Nat) (x : Source) : Source :=
  let x := { x with fires := satAdd x.fires 1 0xFFFF }
  match x.state with
  | .idle =>
    let y := { x with state := .pending, period := 1, since := now, deliver := 0 }
    { y with deliver := moderated y ||| idle }
  | .pending =>
    let y := { x with period := x.period + 1, coalesced := true, coalescedAt := some now }
    { y with deliver := x.deliver ||| moderated y ||| idle }
  | .active => { x with state := .activePending }
  | .activePending => { x with coalesced := true, coalescedAt := some now }

/-- The targets a fire makes source n deliverable to whatever its moderation: the idle ones (R425), and all when the source
was completed in this clock: the fire is taken first, so the completion leaves it PENDING and deliverable at once (R419). -/
def atOnce (n : Nat) (s : State) : BitVec 4 := if s.evr.doneAt = s.clk.now ∧ n ∈ s.evr.done then 0xF else s.evr.idle

/-- A block raises source n (R419). -/
def fire (n : Nat) (s : State) : State :=
  if namedSource n then
    let e := { s.evr with src := kvPut s.evr.src n (fireSource (atOnce n s) s.clk.now (sourceOf s n)) }
    { s with evr := noteIrq e }
  else s

/-- Raises source n when b holds. -/
def fireIf (b : Bool) (n : Nat) (s : State) : State := if b then fire n s else s

/-! ### Comb cells -/

/-- One comb: 0 to 2, or 4 for the last-words store. -/
def Comb.arr (c : Comb) (i : Nat) : CombArr := if i = 0 then c.c0 else if i = 1 then c.c1 else if i = 2 then c.c2 else c.lw

/-- Replaces one comb. -/
def Comb.putArr (c : Comb) (i : Nat) (a : CombArr) : Comb :=
  if i = 0 then { c with c0 := a } else if i = 1 then { c with c1 := a } else if i = 2 then { c with c2 := a }
  else { c with lw := a }

/-- A CAP word with at most two bits set is valid: the cell exists (R354). -/
def Slot.isCell (x : Slot) : Bool := decide (((List.range 32).filter (fun i => x.cap.getLsbD i)).length ≤ 2)

/-- The cell in progress is left as it stands: without a cap (R355). -/
def Comb.leaveProg (c : Comb) : Comb :=
  match c.prog with
  | none => c
  | some w =>
    let a := c.arr w.comb
    { c.putArr w.comb { a with slots := kvPut a.slots a.count ⟨w.cell, a.epoch, 0xFFFFFFFF, false⟩ } with prog := none }

/-- TYPE and payload bytes of a cell. -/
def payloadBytes : Payload → Byte × List Byte
  | .bytes t b => (BitVec.ofNat 8 t, b.take 216)
  | .note n vals => (Config.cellType n, (Config.cellPayload n vals).take 216)

/-- The payload does not fit a cell whole: FLAGS.TRUNC (R351, R382). -/
def payloadCut : Payload → Bool
  | .bytes _ b => decide (216 < b.length)
  | .note n vals => decide (216 < (Config.cellPayload n vals).length)

/-- The cell a block creates now: the next sequence number, the clocks, the latest commit's cycle (R38, R351, R363). -/
def newCell (s : State) (source : Nat) (p : Payload) : Cell :=
  { seq := s.comb.nextSeq, life := s.clk.lifeUs, cal := if s.clk.calValid then s.clk.calNs else 0
    cycle := s.keep.lastCommit.getD 0, source := source, payload := p, calValid := s.clk.calValid
    partner := decide (source = 0x10), verified := false, trunc := payloadCut p }

/-- Counts a cell refused for comb i (R367, R382). -/
def countRefused (c : Comb) (i n : Nat) : Comb :=
  { c with refused := setNth c.refused i (satAdd (nthD 0 c.refused i) n 0x3FF) }

/-- Counts a cell lost to a full queue (R357). -/
def countLost (c : Comb) (i : Nat) (cycle : W32) : Comb :=
  let k := if i = 4 then 3 else i
  { c with
    lossQueue := satAdd c.lossQueue 1 0xFFFF
    lossFirst := if c.lossCnt.all (· == 0) then cycle else c.lossFirst
    lossLast := cycle
    lossCnt := setNth c.lossCnt k (nthD 0 c.lossCnt k + 1)
    frzLost := if c.frzActive then c.frzLost + 1 else c.frzLost }

/-- A cell for comb i enters the queue with the next sequence number, or is refused or lost (R356, R357, R367, R382). -/
def enqueue (s : State) (i source : Nat) (p : Payload) : State :=
  let c := s.comb
  let j := if c.failed then (if i = 0 then 4 else i) else i
  if c.failed ∧ (i = 1 ∨ i = 2) then { s with comb := countRefused c i 1 }
  else if (j = 4 ∧ c.lwFull) ∨ (c.arr j).mode = .full then { s with comb := countRefused c (if j = 4 then 0 else j) 1 }
  else if 1024 ≤ c.queue.length then { s with comb := countLost c j (s.keep.lastCommit.getD 0) }
  else
    let cell := newCell s source p
    let q := c.queue ++ [(j, cell)]
    { s with comb := { c with
        queue := q, nextSeq := (c.nextSeq + 1) % 2 ^ 63, queueMax := max c.queueMax q.length
        events := if j = 4 then c.events ++ [cell] else c.events } }

/-- A block records an event in comb i (R352); COMB_LOSS is raised when the cell is lost (R357). -/
def record (i : Nat) (n : Note) (vals : List Nat) (s : State) : State := enqueue s i n.source (.note n vals)

/-- The comb records a cell of its own in comb i: TYPE and payload bytes of R557. -/
def recordOwn (i typ : Nat) (b : List Byte) (s : State) : State := enqueue s i 0x06 (.bytes typ b)

/-- Records an event when b holds. -/
def recordIf (b : Bool) (i : Nat) (n : Note) (vals : List Nat) (s : State) : State := if b then record i n vals s else s

/-! ### States as the registers code them -/

/-- CROWN_STAT.STATE as coded in R320. -/
def CrownState.code : CrownState → Nat
  | .off => 0
  | .seeking => 1
  | .copying => 2
  | .proving => 3
  | .inStep => 4
  | .frozen => 5
  | .out => 6
  | .candidate => 7
  | .crowned => 8

/-- PxState as coded in GLB_PX_STAT.STATE (R347). -/
def PxState.code : PxState → Nat
  | .idle => 0
  | .staging => 1
  | .staged => 2
  | .proposed => 3
  | .agreed => 4
  | .switching => 5

/-- CombMode as coded in COMB_STAT. -/
def CombMode.code : CombMode → Nat
  | .recording => 0
  | .clearing => 1
  | .full => 2

/-- CombState as coded in COMB_STAT. -/
def CombState.code : CombState → Nat
  | .off => 0
  | .scanning => 1
  | .running => 2
  | .frozen => 3
  | .failed => 4

/-- UpdPhase as coded in UPD_STAT. -/
def UpdPhase.code : UpdPhase → Nat
  | .idle => 0
  | .opening => 1
  | .receiving => 2
  | .checking => 3
  | .writing => 4

end Sys2Proof.Machine
end

