-- ==== Sys2Proof/Machine/LaneOps.lean ====
section
/-! DEFINITION. Lane states and lane faults (R143 to R145, R151), shared by every block that can raise one. -/
namespace Sys2Proof.Machine

/-- The registers of one lane. -/
def laneOf (s : State) (l : Lane) : LaneRegs := s.lane.at l

/-- Changes the registers of one lane. -/
def updLane (l : Lane) (f : LaneRegs → LaneRegs) (s : State) : State := { s with lane := s.lane.upd l f }

/-- A lane's state. -/
def lstate (s : State) (l : Lane) : LState := (s.lane.at l).state

/-- A lane is in VOTING state. -/
def votes (s : State) (l : Lane) : Bool := lstate s l == .voting

/-- The lanes in VOTING state, in the order A, B, C. -/
def voters (s : State) : List Lane := lanes.filter (votes s)

/-- A lane is in service (R24): it votes or, while no lane votes yet, it is starting and ready (DEDUCED, log entry 7). -/
def inService (s : State) (l : Lane) : Bool :=
  votes s l || ((voters s).isEmpty && lstate s l == .starting && (laneOf s l).ready)

/-- A lane enters a state of R145; a change raises LANE_STATE (R418). -/
def setLState (l : Lane) (x : LState) (s : State) : State :=
  fireIf (decide (lstate s l ≠ x)) 9 (updLane l (fun r => { r with state := x }) s)

/-- A rejoin attempt fails (R151): the lane is EXCLUDED, the failure is recorded in comb 0 and counted, and a
vote-ordered reset of the lane is due (R144). -/
def failRejoin (s : State) : State :=
  match s.vote.rejoin with
  | none => s
  | some r =>
    let s := { s with vote := { s.vote with rejoin := none, aborts := satAdd s.vote.aborts 1 0xFF } }
    let s := updLane r.lane (fun x => { x with resetDue := true, ready := false, faultNow := false }) s
    record 0 .rejoinFail [r.lane.num, r.pass] (setLState r.lane .excluded s)

/-- The bit of a LANE_FAULT flag (R46). -/
def faultBit : Nat → BitVec 8 := fun k => 1#8 <<< k

/-- A lane is excluded (R143): its vote-ordered reset is due (R144). -/
def excludeLane (l : Lane) (s : State) : State :=
  let s := updLane l (fun r => { r with resetDue := true, ready := false, faultNow := false }) s
  record 0 .excluded [l.num] (setLState l .excluded s)

/-- The address of a register of a lane's status block (R12). -/
def laneAddr (l : Lane) (o : Nat) : Nat := 0x050000 + 0x10000 * l.num + o

/-- A lane fault with LANE_FAULT flag number k (R46): the flag is set and, under R143, a lane in VOTING leaves service at
the commit; a lane in STARTING is excluded before it first votes (R145), a rejoin of the lane fails at once (R151). -/
def laneFault (l : Lane) (k : Nat) (s : State) : State :=
  let s := updLane l (fun r => { r with fault := r.fault ||| faultBit k, faultNow := r.state == .voting })
    (markSet (flagKey (laneAddr l 0x010) k) s)
  if lstate s l = .starting then excludeLane l s
  else
    match s.vote.rejoin with
    | some r => if r.lane = l then failRejoin s else s
    | none => s

/-- The program a lane's bank holds. -/
def bankProg (b : Banks) (n : Bool) : Option Program := if n then b.bank1 else b.bank0

/-- The active program of a lane. -/
def activeProg (s : State) (l : Lane) : Option Program := bankProg (s.bank.at l) (s.bank.at l).active

/-- The active program of the module: that of the first lane in VOTING state which holds one in its active bank, and
while none does, of the first lane that holds one. -/
def moduleProg (s : State) : Option Program := (voters s ++ lanes).findSome? (activeProg s)

/-! ### Retentive copies (R125) -/

/-- The bytes of a retentive copy: its noun words, then its timer cells. -/
def retBytes (c : RetCopy) : List Byte :=
  (tabSlice 0 c.noun c.start c.len).flatMap wordBytes ++ c.timer.flatMap (fun e => leBytes 4 e.2.toNat)

/-- The check of a copy of cycle n in a slot of a lane (R386). -/
def retCheck (l : Lane) (slot : Bool) (c : RetCopy) : W32 :=
  checkOf 0x05 (Config.retentiveAddr l.num slot) c.cycle.toNat (retBytes c)

/-- A copy verifies: its stamp is valid, its words can be read, and its check is right. -/
def copyVerifies (l : Lane) (slot : Bool) (c : RetCopy) : Bool := c.stamped && !c.spoilt && c.check == retCheck l slot c

/-- The copy in one slot. -/
def RetSlots.at (x : RetSlots) (slot : Bool) : Option RetCopy := if slot then x.slot1 else x.slot0

/-- Replaces the copy in one slot. -/
def RetSlots.put (x : RetSlots) (slot : Bool) (c : Option RetCopy) : RetSlots :=
  if slot then { x with slot1 := c } else { x with slot0 := c }

/-- The verified copy in a slot of a lane. -/
def slotCopy (s : State) (l : Lane) (slot : Bool) : Option RetCopy :=
  ((s.ret.at l).at slot).filter (fun c => copyVerifies l slot c)

/-- The newer of a lane's verified copies, with its slot (R125). -/
def newestSlot (s : State) (l : Lane) : Option (Bool × RetCopy) :=
  match slotCopy s l false, slotCopy s l true with
  | some p, some q => if cycleBefore p.cycle q.cycle then some (true, q) else some (false, p)
  | some p, none => some (false, p)
  | none, some q => some (true, q)
  | none, none => none

/-- LANE_RETAIN_CYCLE and LANE_RETAIN_STAT from the lane's slots (R134, R435). -/
def retainRegs (s : State) (l : Lane) (r : LaneRegs) : LaneRegs :=
  match newestSlot s l with
  | some x => { r with retValid := true, retSlot := x.1, retCycle := x.2.cycle }
  | none => { r with retValid := false, retSlot := false, retCycle := 0 }

/-- Changes the copy in a slot of a lane, whose registers follow (R134). -/
def updSlot (l : Lane) (slot : Bool) (f : RetCopy → RetCopy) (s : State) : State :=
  let s := { s with ret := s.ret.upd l (fun x => x.put slot ((x.at slot).map f)) }
  updLane l (retainRegs s l) s

/-- The clock step's frequency in kHz (R46 STEP). -/
def stepKhz : Nat → Nat
  | 0 => 400000
  | 1 => 376000
  | _ => 352000

/-- T_ring in ns (R41). -/
def tRing (s : State) : Nat := if s.glb.profile = 1 then 125000 else 250000

/-- T_prog in ns (R92). -/
def tProg (s : State) : Nat := s.glb.k * tRing s

/-- The active clock step: that of the service lane. -/
def activeStep (s : State) : Nat := (laneOf s s.glb.svc).step

/-- GLB_BUDGET (R98): floor(0.99 x f_step x (T_prog - 36 us)); 0 until GLB_PROFILE.VALID is 1. -/
def budget (s : State) : Nat :=
  if s.glb.valid then 99 * stepKhz (activeStep s) * (tProg s - 36000) / (100 * 1000000) else 0

/-- The service lane's ring time. -/
def ringNow (s : State) : Nat := ringTime s s.glb.svc

end Sys2Proof.Machine
end

