-- ==== Sys2Proof/Machine/HostOps.lean ====
section
/-! DEFINITION. How a request is answered or refused: host port responses (R401, R402, R406), refusal by state (R417)
and free values. -/
namespace Sys2Proof.Machine

/-- The status codes of R406. -/
def stOk : Nat := 0x00
def stUnaligned : Nat := 0x01
def stUnmapped : Nat := 0x02
def stCheckFailed : Nat := 0x03
def stBusy : Nat := 0x05
def stStateRefused : Nat := 0x06
def stAuthFailed : Nat := 0x07
def stTestBusy : Nat := 0x08
def stWindowOnly : Nat := 0x09
def stSeqRefused : Nat := 0x0A
def stSourceRefused : Nat := 0x0B

/-- The opcodes of R401. -/
def opRead : Byte := 0x1E
def opWrite : Byte := 0x2D
def opRead16 : Byte := 0x3C
def opCommand : Byte := 0x4B

/-- The host port's check over data (R402): the fold of address and opcode, then the bytes. -/
def hpCheck (addr : Nat) (opcode : Byte) (data : List Byte) : W32 := checkOf 0x0F addr opcode.toNat data

/-- The VT3 responds to host h with a status and data (R401, R402); a BUSY is counted in HP_REFUSED. -/
def reply (h : HostId) (opcode : Byte) (addr status : Nat) (data : List Byte) (s : State) : State :=
  let r : Resp := { host := h, status := status, data := data
                    check := hpCheck addr opcode ([0x01#8, BitVec.ofNat 8 status] ++ data) }
  { s with hp := { s.hp with resp := some r, busy := if status = stBusy then satAdd s.hp.busy 1 0xFFFF else s.hp.busy } }

/-- Advances a counter of HP_ERR, which raises HP_ERROR (R418). -/
def hpError (f : Hp → Hp) (s : State) : State := fire 57 { s with hp := f s.hp }

/-- The states of the module that may forbid a request, which the cell of a refusal carries (R417). -/
def statesNow (s : State) : List Nat :=
  let c := s.comb
  [s.crown.state.code, c.state.code, c.c0.mode.code, c.c1.mode.code, c.c2.mode.code, s.px.state.code, s.upd.phase.code,
    b2n s.test.running, b2n s.test.scanEn, b2n s.test.inj.isSome, b2n s.rst.recovery]

/-- The comb 1 cell of a state refusal, at most one per command type and second of life clock (R417). -/
def refusalCell (typ who : Nat) (s : State) : State :=
  let now := s.clk.lifeUs
  let cell := fun n => record 1 .stateRefused ([typ, who, n] ++ statesNow s)
  match kvGet s.hp.refusals typ with
  | some (at0, n) =>
    if now < at0 + 1000000 then { s with hp := { s.hp with refusals := kvPut s.hp.refusals typ (at0, n + 1) } }
    else cell n { s with hp := { s.hp with refusals := kvPut s.hp.refusals typ (now, 0) } }
  | none => cell 0 { s with hp := { s.hp with refusals := kvPut s.hp.refusals typ (now, 0) } }

/-- A host request that the present state forbids (R417): no side effect but the count, source 56 and the cell. -/
def hostRefused (typ : Nat) (h : HostId) (s : State) : State × Nat :=
  let s := { s with hp := { s.hp with stateRef := satAdd s.hp.stateRef 1 0xFFFF } }
  (refusalCell typ h (fire 56 s), stStateRefused)

/-- A write that took effect. -/
def done (s : State) : State × Nat := (s, stOk)

/-- Answers a register read with a word. -/
def answerRead (h : HostId) (addr : Nat) (w : W32) (s : State) : State := reply h opRead addr stOk (leBytes 4 w.toNat) s

/-- A request the module does not serve now: in recovery mode, or of a block under the shut-down self-test
(R489, R498). -/
def gate (addr : Nat) (s : State) : Option Nat :=
  let b := addr / 0x10000
  if s.rst.recovery ∧ b ≠ 0 ∧ b ≠ 1 ∧ b ≠ 2 ∧ b ≠ 0x11 then some stBusy
  else if s.test.running ∧ b ≠ 0 ∧ b ≠ 1 ∧ b ≠ 0x12 then some stTestBusy
  else none

/-- The host port is released: from READY, or in recovery mode (R440, R489). Before, it drives nothing. -/
def hostOpen (s : State) : Bool := s.rst.stage == .ready || s.rst.recovery

/-- The VT3 drives no response. -/
def silentPort (s : State) : State := { s with hp := { s.hp with resp := none } }

/-- Answers a register write from its result; a write that resets the module is answered by no response. -/
def answerWrite (h : HostId) (addr : Nat) (r : State × Nat) : State :=
  if hostOpen r.1 then reply h opWrite addr r.2 [] r.1 else silentPort r.1

/-- Host h writes a register whose action is f: gated, performed, answered. -/
def hostWrite (h : HostId) (addr : Nat) (f : State → State × Nat) (s : State) : State :=
  if !hostOpen s then silentPort s else
  match gate addr s with
  | some st => reply h opWrite addr st [] s
  | none => answerWrite h addr (f s)

/-- Host h reads a register whose read is f: gated, performed, answered. -/
def hostRead (h : HostId) (addr : Nat) (f : State → State × W32) (s : State) : State :=
  if !hostOpen s then silentPort s else
  match gate addr s with
  | some st => reply h opRead addr st (leBytes 4 0) s
  | none => answerRead h addr (f s).2 (f s).1

/-- The module holds the crown (CROWN_STAT.STATE reads CROWNED). -/
def crowned (s : State) : Bool := s.crown.state == .crowned

/-- Draws a fresh challenge (R368, R507): a free value. -/
def freshChallenge (what : Nat) (op : W32) (s : State) : Challenge :=
  { value := Config.challenge s.free, what := what, operator := op, upTo := s.clk.lifeUs + 600000000 }

/-- A challenge still holds for this purpose and operator (R368). -/
def challengeHolds (c : Option Challenge) (what : Nat) (op : W32) (s : State) : Bool :=
  match c with
  | some c => decide (c.what = what) && c.operator == op && decide (s.clk.lifeUs < c.upTo)
  | none => false

/-- A challenge as bytes. -/
def challengeBytes (c : Option Challenge) : List Byte :=
  match c with
  | some c => leBytes 16 c.value.toNat
  | none => []

/-- Signature words as the 64 signature bytes. -/
def sigBytes (sig : List W32) : List Byte := sig.flatMap (fun w => leBytes 4 w.toNat)

/-- The injected fault of a point that is in force, persisting or still to act once (R509, R510). -/
def injected (point : Nat) (s : State) : Option Inject :=
  (s.test.inj.filter (fun i => i.point == point)).orElse (fun _ => s.test.once.filter (fun i => i.point == point))

/-- An injected fault that acts once has acted. -/
def spendOnce (point : Nat) (s : State) : State :=
  if (s.test.once.filter (fun i => i.point == point)).isSome then { s with test := { s.test with once := none } } else s

/-- The code store's byte at an address: erased where unlisted. -/
def storeByte (s : State) (a : Nat) : Byte := tabGet 0xFF s.store a

/-- n bytes of the code store from an address. -/
def storeBytes (s : State) (a n : Nat) : List Byte := tabSlice 0xFF s.store a n

/-- Writes bytes into the code store. -/
def storeWrite (a : Nat) (b : List Byte) (s : State) : State := { s with store := tabSetList 0xFF s.store a b }

/-- The lanes for which an injected fault of a point persists (R510). -/
def persists (point : Nat) (s : State) : Tri Bool :=
  (⟨false, false, false⟩ : Tri Bool).map (fun l _ => s.test.inj.any (fun i => i.point == point && i.lane == l.num))

end Sys2Proof.Machine
end

