-- ==== Sys2Proof/Machine/CombOps.lean ====
section
/-! DEFINITION. The comb (R349 to R384, R557): cell bytes, the cell writer, filling, failing, freezing, clearing,
streaming. -/
namespace Sys2Proof.Machine

/-! ### Cell bytes -/

/-- Pads a list of bytes with zeros to n bytes. -/
def padTo (n : Nat) (b : List Byte) : List Byte := (b ++ List.replicate n 0#8).take n

/-- FLAGS of a cell (R351). -/
def cellFlags (c : Cell) : Nat := b2n c.calValid + 2 * b2n c.partner + 4 * b2n c.verified + 8 * b2n c.trunc

/-- Bytes 0 to 247 of a cell (R351). -/
def cellHead (c : Cell) : List Byte :=
  let p := payloadBytes c.payload
  leBytes 8 c.seq ++ leBytes 8 c.life ++ leBytes 8 c.cal ++ leBytes 4 c.cycle.toNat
    ++ [BitVec.ofNat 8 c.source, p.1, BitVec.ofNat 8 p.2.length, BitVec.ofNat 8 (cellFlags c)] ++ padTo 216 p.2

/-- CHECK of a cell at index i of comb c with epoch e (R353). -/
def cellCheck (c e i : Nat) (x : Cell) : W32 :=
  crc32c (leBytes 4 (0xCE110000 + c) ++ leBytes 2 e ++ leBytes 2 0 ++ leBytes 4 i ++ cellHead x)

/-- The 256 bytes of a cell as stored at index i of comb c: its CHECK with the epoch it was written in, and CAP (R353). -/
def cellBytes (c i : Nat) (x : Slot) : List Byte :=
  cellHead x.cell ++ leBytes 4 (cellCheck c x.epoch i x.cell).toNat ++ leBytes 4 x.cap.toNat

/-- The cell at an index of a comb, when a cap makes it exist and it can be read (R354, R381). -/
def capped (a : CombArr) (i : Nat) : Option Slot := (kvGet a.slots i).filter (fun x => x.isCell && !x.bad)

/-- SEQ of the last cell stored in a comb's epoch; 0 for none (R557). -/
def lastStored (a : CombArr) : Nat :=
  a.slots.foldl (fun m e => if e.2.isCell && e.2.epoch == a.epoch then max m e.2.cell.seq else m) 0

/-! ### Filling and failing -/

/-- COMBc_EPOCH.FILL: the write index as a percentage of the capacity. -/
def fillPercent (a : CombArr) : Nat := if a.cap = 0 then 0 else a.count * 100 / a.cap

/-- The payload of a FILL cell (R557). -/
def fillPayload (c level cap last first lastRef n : Nat) : List Byte :=
  [BitVec.ofNat 8 c, BitVec.ofNat 8 level, 0, 0] ++ leBytes 4 cap ++ leBytes 8 last ++ leBytes 8 first
    ++ leBytes 8 lastRef ++ leBytes 4 n

/-- The highest fill level a write index has reached (R366). -/
def levelOf (a : CombArr) : Nat :=
  let p := fillPercent a
  if 99 ≤ p then 99 else if 90 ≤ p then 90 else if 75 ≤ p then 75 else 0

/-- Announces a fill level newly reached (R366). -/
def announceLevel (c : Nat) (s : State) : State :=
  let a := s.comb.arr c
  let v := levelOf a
  if c ≤ 2 ∧ a.level < v then
    let s := { s with comb := s.comb.putArr c { a with level := v } }
    fire 49 (recordOwn 0 0x04 (fillPayload c v a.cap (lastStored a) 0 0 0) s)
  else s

/-- A comb that keeps one free index makes its FULL cell for it, to be written at once, refuses the cells still queued for
it, and is FULL (R366). -/
def makeFull (c : Nat) (s : State) : State :=
  let a := s.comb.arr c
  if a.mode = .full ∨ a.count + 1 ≠ a.cap then s else
    let left := s.comb.queue.filter (fun e => e.1 == c)
    let first := (left.head?.map (fun e => e.2.seq)).getD 0
    let lastRef := (left.getLast?.map (fun e => e.2.seq)).getD 0
    let body := fillPayload c 100 a.cap (lastStored a) first lastRef left.length
    let cell := newCell s 0x06 (.bytes 0x04 body)
    let k := countRefused s.comb (if c = 4 then 0 else c) left.length
    let k := k.putArr c { a with mode := .full }
    let s : State := { s with comb := { k with
      queue := s.comb.queue.filter (fun e => e.1 != c)
      own := k.own ++ [⟨c, cell, .full, false⟩]
      nextSeq := (s.comb.nextSeq + 1) % 2 ^ 63
      lwFull := if c = 4 then true else s.comb.lwFull } }
    let other : Nat := if c = 0 then 1 else 0
    if c ≤ 2 ∧ (s.comb.arr other).mode ≠ .full then recordOwn other 0x04 body s else s

/-- The comb fails for good (R381, R382): FAILED is kept, a NAND_FAULT cell goes to the last-words store, queued comb 0
cells follow it there and to the partner, queued cells of combs 1 and 2 are refused, COMB_FAILED is raised. -/
def failComb (reason c idx : Nat) (s : State) : State :=
  if s.comb.failed then s else
    let q := s.comb.queue
    let moved := q.filterMap (fun e => if e.1 = 0 then some (4, e.2) else if e.1 = 4 then some e else none)
    let n1 := (q.filter (fun e => e.1 == 1)).length + (s.comb.own.filter (fun w => w.kind == .queued)).length
    let n2 := (q.filter (fun e => e.1 == 2)).length
    let k := countRefused (countRefused s.comb 1 n1) 2 n2
    let s := { s with comb := { k with
      state := .failed, failed := true, queue := moved, prog := none, own := [], frzActive := false, frzReq := false
      events := k.events ++ (q.filter (fun e => e.1 == 0)).map Prod.snd } }
    let body := [BitVec.ofNat 8 reason, BitVec.ofNat 8 c, 0, 0] ++ leBytes 4 idx
    fire 50 (recordOwn 0 0x06 body s)

/-- The workers raise an item of the margin plan (R521, R522): 1 clock step, 2 refresh, 3 DRAM scrub, 4 NAND scrub,
5 verify-after-write, 6 a block's read threshold; a cell and source 101. -/
def raiseMargin (item value : Nat) (f : Plan → Plan) (s : State) : State :=
  fire 101 (record 0 .marginRaised [item, value] { s with keep := { s.keep with plan := f s.keep.plan } })

/-- A spare block of the comb pool is taken (R518): SPARE_LOW when the pool falls below 25 %. -/
def takeCombSpare (s : State) : State :=
  fireIf (decide (s.wk.spareComb = 128)) 102 { s with wk := { s.wk with spareComb := s.wk.spareComb - 1 } }

/-- A cell is to be rewritten (R359): the second within 24 h raises verify-after-write (R521). -/
def noteRewrite (s : State) : State :=
  let now := s.clk.lifeUs
  let ts := now :: s.wk.rewriteAt.filter (fun x => now < x + 86400000000)
  let s := { s with wk := { s.wk with rewriteAt := ts.take 2 } }
  if 2 ≤ ts.length ∧ s.keep.plan.verify = false then raiseMargin 5 1 (fun p => { p with verify := true }) s else s

/-- Retires a comb NAND block (R350, R518): a spare replaces it, or the capacity shrinks by 1,024 cells, or the comb
fails (R381). BLOCK_RETIRED is raised. -/
def retireCombBlock (c idx : Nat) (s : State) : State :=
  let s := fire 103 { s with wk := { s.wk with retired := satAdd s.wk.retired 1 0xFFFF } }
  if 0 < s.wk.spareComb then takeCombSpare s
  else
    let a := s.comb.arr c
    if a.count + 1024 < a.cap then { s with comb := s.comb.putArr c { a with cap := a.cap - 1024 } }
    else failComb 1 c idx s

/-! ### The cell writer -/

/-- A cell may be programmed now: during hold-up a comb 0 or last-words cell (R361), once the comb has failed a last-words
cell (R382). -/
def mayProgram (c : Nat) (s : State) : Bool :=
  (s.comb.holdupEnd.isNone || c == 0 || c == 4) && (s.comb.state != .failed || c == 4)

/-- The cell the writer begins next (R358, R366, R370): one it made itself, else the first of the queue whose comb is not
being erased. Its FLAGS say whether it is written with verify-after-write (R351). -/
def nextCell (s : State) : Option InProg :=
  let flag := fun (w : InProg) => { w with cell := { w.cell with verified := s.glb.profile == 2 || s.keep.plan.verify } }
  match s.comb.own.find? (fun w => mayProgram w.comb s && (w.kind == .opening || !(s.comb.arr w.comb).erasing)) with
  | some w => some (flag w)
  | none => (s.comb.queue.find? (fun e => !(s.comb.arr e.1).erasing && mayProgram e.1 s)).map
      (fun e => flag ⟨e.1, e.2, .queued, false⟩)

/-- The writer may program cells now (R360, R361, R380). -/
def writerRuns (s : State) : Bool :=
  (s.comb.state == .running || s.comb.state == .failed) && !s.comb.stopped

/-- The writer takes up a cell, unless one is in progress or a freeze has been asked for (R380). -/
def beginCell (s : State) : State :=
  if s.comb.prog.isSome || !writerRuns s || s.comb.frzReq then s
  else { s with comb := { s.comb with prog := nextCell s } }

/-- The queue without the cell of a sequence number. -/
def dequeue (q : List (Nat × Cell)) (seq : Nat) : List (Nat × Cell) := q.filter (fun e => e.2.seq != seq)

/-- The cell in progress is done with: it leaves the queue, or the cells the writer made. -/
def dropProg (w : InProg) (c : Comb) : Comb :=
  { c with prog := none, queue := dequeue c.queue w.cell.seq, own := c.own.filter (fun x => x.cell.seq != w.cell.seq) }

/-- A slot is written at a comb's write index. -/
def putSlot (w : InProg) (cap : W32) (a : CombArr) : List (Nat × Slot) := kvPut a.slots a.count ⟨w.cell, a.epoch, cap, false⟩

/-- EPOCH_OPEN stands: recording resumes, and its copy goes where R370 sends one. -/
def epochOpened (w : InProg) (s : State) : State :=
  let c := w.comb
  let k := s.comb
  let k := k.putArr c { k.arr c with erasing := false, mode := if c = 4 then .recording else .clearing }
  let s := { s with comb := { k with
    lwFull := if c = 4 then false else k.lwFull
    events := if c = 4 ∧ k.failed then k.events ++ [w.cell] else k.events } }
  if c = 1 ∨ c = 2 ∨ (c = 4 ∧ s.comb.failed = false) then recordOwn 0 0x01 (payloadBytes w.cell.payload).2 s else s

/-- The cell in progress is capped: it exists (R354, R355). -/
def finishCell (w : InProg) (s : State) : State :=
  let a := s.comb.arr w.comb
  let a := { a with slots := putSlot w 0 a, count := a.count + 1, gen := a.gen + 1 }
  let s := { s with comb := dropProg w (s.comb.putArr w.comb a) }
  match w.kind with
  | .queued => makeFull w.comb (announceLevel w.comb s)
  | .full => s
  | .opening => epochOpened w s

/-- The cell in progress is left at its index with that CAP word, to be written again at the next index (R26, R359). A FULL
cell has no next index (DESIGN CHOICE, log entry 176). -/
def leaveCell (w : InProg) (cap : W32) (s : State) : State :=
  let a := s.comb.arr w.comb
  let slot : Slot := ⟨w.cell, a.epoch, cap, false⟩
  let a := { a with
    slots := putSlot w cap a, count := a.count + 1, gen := if slot.isCell then a.gen + 1 else a.gen }
  let k := s.comb.putArr w.comb a
  { s with comb := if w.kind = .full then dropProg w k else { k with prog := none } }

/-- A program operation on the cell in progress has failed (R359): its index is left, its block retired, and the cell is
written again unless that would take the last free index (R366). -/
def failCell (w : InProg) (cap : W32) (s : State) : State :=
  let c := w.comb
  let idx := (s.comb.arr c).count
  let s := leaveCell w cap s
  let s := if w.kind = .full then s else noteRewrite s
  makeFull c (announceLevel c (retireCombBlock c idx s))

/-- The data operation has ended well: bytes 0 to 251 stand, the cap does not (R355). -/
def dataWritten (w : InProg) (s : State) : State :=
  let a := s.comb.arr w.comb
  { s with comb := { s.comb.putArr w.comb { a with slots := putSlot w 0xFFFFFFFF a } with prog := some { w with data := true } } }

/-- What an operation on the cell in progress comes to: an injected NAND failure fails it (R509); the last-words store is
MRAM, whose writes do not fail (log entry 176). -/
def programResult (w : InProg) (how : ProgramEnd) (s : State) : ProgramEnd :=
  if w.comb = 4 then (if how = .dataGood then .dataGood else .good)
  else if (injected 0x0A01 s).isSome then (if w.data then .capFailed 0xFFFFFFFF else .dataFailed)
  else how

/-- An operation on the cell in progress ends (R355, R359, R366). -/
def programEnds (w : InProg) (how : ProgramEnd) (s : State) : State :=
  match programResult w how s with
  | .good => finishCell w s
  | .dataGood => dataWritten w s
  | .dataFailed => if w.data then s else failCell w 0xFFFFFFFF s
  | .capFailed cap => failCell w cap s

/-- Programs the next cell, or goes on with the one in progress. -/
def writeCell (how : ProgramEnd) (s : State) : State :=
  if !writerRuns s then s else
  let s := beginCell s
  match s.comb.prog with
  | none => s
  | some w => spendOnce 0x0A01 (programEnds w how s)

/-- A forced move of the service role stops the cell in progress (R26): it is left without a cap, and written again. -/
def abandonCell (s : State) : State :=
  let s := beginCell s
  match s.comb.prog with
  | none => s
  | some w => makeFull w.comb (announceLevel w.comb (leaveCell w 0xFFFFFFFF s))

/-- A LOSS cell for cells lost to a full queue, once there is room (R357). -/
def lossCell (s : State) : State :=
  let c := s.comb
  if c.lossCnt.all (· == 0) ∨ 1024 ≤ c.queue.length then s else
    let body := [0, 0, 0, 0] ++ c.lossCnt.flatMap (leBytes 4) ++ leBytes 4 c.lossFirst.toNat ++ leBytes 4 c.lossLast.toNat
      ++ leBytes 8 0 ++ leBytes 8 0
    let s := { s with comb := { c with lossCnt := [0, 0, 0, 0] } }
    fire 48 (recordOwn 0 0x03 body s)

/-- The highest sequence number of the capped cells of combs 0 to 2 and the last-words store, plus 1; 0 for none. -/
def capNext (c : Comb) : Nat :=
  [c.c0, c.c1, c.c2, c.lw].foldl (fun m a =>
    a.slots.foldl (fun m e => if e.2.isCell then max m (e.2.cell.seq + 1) else m) m) 0

/-- The lowest index above the highest index that is not erased (R360). -/
def foundIndex (a : CombArr) : Nat := a.slots.foldl (fun m e => max m (e.1 + 1)) 0

/-- A comb without the cells of former epochs: its blocks have been erased. -/
def eraseFormer (a : CombArr) : CombArr := { a with slots := a.slots.filter (fun e => e.2.epoch == a.epoch) }

/-- Completes, at the scan after a reset, a clear that the reset interrupted (R384). -/
def settleArr (a : CombArr) : CombArr :=
  if a.mode = .clearing ∨ a.erasing = true then
    let a := eraseFormer a
    { a with count := foundIndex a, mode := .recording, erasing := false, level := if a.erasing then 0 else a.level }
  else { a with count := foundIndex a, mode := if foundIndex a = a.cap ∧ 0 < a.cap then .full else a.mode }

/-- The scan of R360 ends: the write indices are found and a LOSS cell names cells queued and never written. -/
def scanDone (found : Bool) (s : State) : State :=
  if s.comb.state ≠ .scanning then s else
  if s.comb.failed then { s with comb := { s.comb with state := .failed } }
  else if !found then failComb 3 0 0 s
  else
    let first := capNext s.comb
    let lost := s.comb.nextSeq - first - s.comb.queue.length
    let c := s.comb
    let c := { c with
      c0 := settleArr c.c0, c1 := settleArr c.c1, c2 := settleArr c.c2, lw := settleArr c.lw
      state := .running, lossStart := satAdd c.lossStart lost 0xFFFF, clearing := 0 }
    let s := { s with comb := c }
    if 0 < lost then
      recordOwn 0 0x03 ([1, 0, 0, 0] ++ leBytes 16 0 ++ leBytes 8 0 ++ leBytes 8 first ++ leBytes 8 (first + lost - 1)) s
    else s

/-! ### Freeze -/

/-- A freeze ends (R380): the writer makes a FREEZE cell for comb 1, to be written before it empties the queue, however full
that is (log entry 182); a comb 1 that takes no cell refuses it. -/
def endFreeze (s : State) : State :=
  if !s.comb.frzActive then { s with comb := { s.comb with frzReq := false } } else
    let us := (s.clk.now - s.comb.frzSince) / 1000
    let lost := s.comb.frzLost
    let s := { s with comb := { s.comb with
      frzActive := false, frzReq := false, state := if s.comb.state = .frozen then .running else s.comb.state } }
    if s.comb.failed = true ∨ s.comb.c1.mode = .full then { s with comb := countRefused s.comb 1 1 }
    else
      let cell := newCell s 0x06 (.bytes 0x05 (leBytes 4 us ++ leBytes 4 lost))
      { s with comb := { s.comb with
          own := s.comb.own ++ [⟨1, cell, .queued, false⟩], nextSeq := (s.comb.nextSeq + 1) % 2 ^ 63 } }

/-- Some comb is CLEARING. -/
def anyClearing (c : Comb) : Bool := c.c0.mode == .clearing || c.c1.mode == .clearing || c.c2.mode == .clearing

/-- A write of COMB_FREEZE (R380, R383). -/
def writeFreeze (h : HostId) (w : W32) (s : State) : State × Nat :=
  let req := bit w 0
  if req && (crowned s || anyClearing s.comb || s.comb.state == .failed) then hostRefused 0x0E0060 h s
  else
    let s := { s with comb := { s.comb with frzMaxMs := bits w 25 16 } }
    let s := if req then beginCell s else s
    if req then done { s with comb := { s.comb with frzReq := true } } else done (endFreeze s)

/-- The writer completes its cell in progress, cap included, and is frozen (R380). -/
def freezeActive (s : State) : State :=
  if s.comb.frzReq ∧ s.comb.frzActive = false ∧ s.comb.state = .running then
    let s := match s.comb.prog with
      | some w => finishCell w s
      | none => s
    { s with comb := { s.comb with frzActive := true, state := .frozen, frzSince := s.clk.now, frzLost := 0 } }
  else s

/-- MAX_MS after ACTIVE the freeze ends (R380). -/
def freezeTimeout (s : State) : State :=
  if s.comb.frzActive ∧ s.comb.frzSince + max 1 s.comb.frzMaxMs * 1000000 ≤ s.clk.now then endFreeze s else s

/-! ### Clearing -/

/-- The message that authorises a clear (R368): serial rank, mask, challenge, operator. -/
def clearMessage (s : State) (mask : BitVec 4) (op : W32) : List Byte :=
  leBytes 4 s.fuse.rank.toNat ++ leBytes 4 mask.toNat ++ challengeBytes s.comb.chal ++ leBytes 4 op.toNat

/-- GO is forbidden by state (R369, R506). -/
def clearForbidden (s : State) (m : BitVec 4) : Bool :=
  let c := s.comb
  crowned s || s.test.scanEn || c.state == .frozen || (c.state == .failed && (m &&& 7) != 0)
    || (m.getLsbD 0 && (c.c0.mode == .clearing || decide (c.c0.epoch = 0xFFFF)))
    || (m.getLsbD 1 && (c.c1.mode == .clearing || decide (c.c1.epoch = 0xFFFF)))
    || (m.getLsbD 2 && (c.c2.mode == .clearing || decide (c.c2.epoch = 0xFFFF)))
    || (m.getLsbD 3 && (c.lw.mode == .clearing || decide (c.lw.epoch = 0xFFFF)))

/-- An accepted clear opens a new epoch of a comb (R370): CLEARING, the first blocks being erased. The cells of the former
epoch stand until their blocks are erased, and fail their CHECK (R353). -/
def openEpoch (a : CombArr) : CombArr :=
  let last := a.slots.foldl (fun (m : Option Nat) e =>
    if e.2.isCell && e.2.epoch == a.epoch then some (max (m.getD 0) e.2.cell.seq) else m) none
  { a with mode := .clearing, erasing := true, epoch := a.epoch + 1, gen := a.gen + 1, oldCount := a.count, oldSeq := last }

/-- A comb is named by a clear mask. -/
def inMask (m : BitVec 4) (c : Nat) : Bool := m.getLsbD (if c = 4 then 3 else c)

/-- A cell in progress in a comb that is cleared goes back to the queue, which holds that comb's cells (R370). -/
def stopProg (m : BitVec 4) (c : Comb) : Comb :=
  { c with prog := c.prog.filter (fun w => !inMask m w.comb), own := c.own.filter (fun w => w.kind == .queued || !inMask m w.comb) }

/-- A write of COMB_CLEAR with GO (R368, R369, R370). -/
def clearGo (h : HostId) (s : State) : State × Nat :=
  let m := s.comb.mask
  let op := s.comb.authOp
  if clearForbidden s m then hostRefused 0x0E0070 h s
  else
    let ok := challengeHolds s.comb.chal m.toNat op s
      && Config.ecdsaVerify s.fuse.authKey (clearMessage s m op) (sigBytes s.comb.sig)
    let s := { s with comb := { s.comb with chal := none } }
    if !ok then (record 0 .combClearRefused [m.toNat, op.toNat] s, stAuthFailed)
    else
      let c := stopProg m s.comb
      done { s with comb := { c with
        clearOp := op, clearing := m
        c0 := if m.getLsbD 0 then openEpoch c.c0 else c.c0
        c1 := if m.getLsbD 1 then openEpoch c.c1 else c.c1
        c2 := if m.getLsbD 2 then openEpoch c.c2 else c.c2
        lw := if m.getLsbD 3 then openEpoch c.lw else c.lw } }

/-- A write of COMB_CLEAR with CHAL_REQ (R368, R506). -/
def clearChallenge (h : HostId) (s : State) : State × Nat :=
  if s.test.scanEn then hostRefused 0x0E0070 h s
  else done { s with
    comb := { s.comb with chal := some (freshChallenge s.comb.mask.toNat s.comb.authOp s) }, free := s.free + 1 }

/-- A write of COMB_CLEAR (R383): MASK, then CHAL_REQ, then GO. -/
def writeClear (h : HostId) (w : W32) (s : State) : State × Nat :=
  let s := { s with comb := { s.comb with mask := w.extractLsb' 0 4 } }
  if bit w 5 then clearGo h s else if bit w 4 then clearChallenge h s else done s

/-- The payload of an EPOCH_OPEN cell (R557). -/
def epochOpen (s : State) (c : Nat) (a : CombArr) : List Byte :=
  leBytes 4 s.comb.clearOp.toNat ++ leBytes 2 (a.epoch - 1) ++ [BitVec.ofNat 8 c, 0] ++ leBytes 4 a.oldCount
    ++ leBytes 8 (a.oldSeq.getD (2 ^ 64 - 1))

/-- The cells of the first 64 blocks are gone; of the last-words store all are (R370). A block holds 1,024 cells (R350). -/
def eraseFirst (c : Nat) (a : CombArr) : CombArr :=
  { a with slots := a.slots.filter (fun e => c ≠ 4 ∧ 65536 ≤ e.1), count := 0, level := 0 }

/-- Blocks whose erase failed are retired (R359, R381). -/
def retireBlocks (c : Nat) (failed : List Nat) (s : State) : State :=
  if c ≤ 2 then failed.foldl (fun s i => retireCombBlock c i s) s else s

/-- The first blocks are erased: the writer makes EPOCH_OPEN, to be written at index 0 (R370). In the last-words store, an
MRAM, it stands at once. -/
def eraseDone (c : Nat) (failed : List Nat) (s : State) : State :=
  if !(s.comb.arr c).erasing || s.comb.own.any (fun w => w.comb == c) then s else
    let s := retireBlocks c failed { s with comb := s.comb.putArr c (eraseFirst c (s.comb.arr c)) }
    let w : InProg := ⟨c, newCell s 0x06 (.bytes 0x01 (epochOpen s c (s.comb.arr c))), .opening, false⟩
    let s := { s with comb := { s.comb with nextSeq := (s.comb.nextSeq + 1) % 2 ^ 63 } }
    if c = 4 then finishCell w s
    else if s.comb.state = .failed then s
    else { s with comb := { s.comb with own := s.comb.own ++ [w] } }

/-- The background erase of a cleared comb completes (R370). -/
def clearComplete (c : Nat) (failed : List Nat) (s : State) : State :=
  let a := s.comb.arr c
  if a.mode = .clearing ∧ a.erasing = false then
    let s := { s with comb := s.comb.putArr c { eraseFormer a with mode := .recording } }
    retireBlocks c failed s
  else s

/-! ### Streaming and the window -/

/-- The capped cells of a comb whose sequence number lies in a range, in index order (R376); one of a former epoch fails its
CHECK, and is no cell of the comb (R353). -/
def rangeCells (a : CombArr) (first last : Nat) : List (Nat × Slot) :=
  a.slots.filter (fun e =>
    e.2.isCell && !e.2.bad && e.2.epoch == a.epoch && decide (first ≤ e.2.cell.seq) && decide (e.2.cell.seq ≤ last))

/-- Inserts a cell in sequence order. -/
def insertBySeq (x : Nat × Slot) : List (Nat × Slot) → List (Nat × Slot)
  | [] => [x]
  | y :: ys => if y.2.cell.seq ≤ x.2.cell.seq then y :: insertBySeq x ys else x :: y :: ys

/-- The end record of a stream (R415, R376). -/
def endRecord (epoch gen seq : Nat) : List Byte :=
  leBytes 8 (2 ^ 64 - 1) ++ leBytes 2 epoch ++ [0, 0] ++ leBytes 4 gen ++ leBytes 8 seq ++ List.replicate 232 0

/-- The records that answer a streaming request (R376, R415). -/
def streamRecords (s : State) (comb first last : Nat) : List (List Byte) :=
  let none := (first + 2 ^ 64 - 1) % 2 ^ 64
  if comb ≤ 2 then
    let a := s.comb.arr comb
    let xs := (rangeCells a first last).foldl (fun acc x => insertBySeq x acc) []
    xs.map (fun x => cellBytes comb x.1 x.2)
      ++ [endRecord a.epoch a.gen.toNat ((xs.getLast?.map (fun x => x.2.cell.seq)).getD none)]
  else [endRecord 0 0 none]

/-- COMB_SNAP_CTL.TRIG (R371): the lists asked for, of those enabled, trigger at the next commit. -/
def snapTrigger (m : BitVec 4) (s : State) : State := { s with comb := { s.comb with snapTrig := s.comb.snapTrig ||| m } }

end Sys2Proof.Machine
end

