-- ==== Sys2Proof/Machine/ResetOps.lean ====
section
/-! DEFINITION. What every block may cause: records sent over the partner link (R295), a module reset, and a lane reset
(R431 to R437, R453 to R455). -/
namespace Sys2Proof.Machine

/-- The records that are sent twice (R296). -/
def sentTwice : PlOut → Bool
  | .lease _ | .commit _ | .offer _ _ | .accept _ | .refuse _ _ | .handover _ _ | .cancel _ | .release | .claim _ => true
  | .leaseAck _ _ | .time _ | .part _ | .command _ | .latch _ | .guard _ | .copy _ | .status _ | .image _ => false

/-- The two lanes that send the copies (R296): the first in VOTING state, before the first commit ready ones in STARTING
(DEDUCED, log entry 167). -/
def copyLanesOf (s : State) : List Lane :=
  (lanes.filter (votes s) ++ lanes.filter (fun l => lstate s l == .starting && (laneOf s l).ready)).take 2

/-- What goes out for a record: one entry, or the copies of two lanes (R296). -/
def plCopies (r : PlOut) (s : State) : List PlSent :=
  if sentTwice r then (copyLanesOf s).map (fun l => { rcd := r, lane := some l }) else [{ rcd := r, lane := none }]

/-- A record goes out on the partner link while a lane of it is in sync (R297). -/
def send (r : PlOut) (s : State) : State :=
  if s.pl.sync0 || s.pl.sync1 then { s with pl := { s.pl with out := s.pl.out ++ plCopies r s } } else s

/-- The order of reach of the module-scope sources, widest first: the rows of R435 (R437). -/
def reachRank (c : Nat) : Nat :=
  match c with
  | 1 | 9 => 0
  | 2 => 1
  | 3 => 2
  | 6 => 3
  | 7 => 4
  | _ => 5

/-- The wider of two sources; in one row the lower code (R437). -/
def wider (a b : Nat) : Nat :=
  if reachRank a < reachRank b then a else if reachRank b < reachRank a then b else min a b

/-- RST_LAST_CAUSE for a source (R454). -/
def lastCauseOf (c : Nat) : Nat :=
  match c with
  | 1 | 9 => 1
  | 2 => 2
  | 3 => 3
  | 6 => 4
  | 7 => 5
  | 8 => 6
  | _ => 0

/-- A reset counter advances (R453). -/
def countReset (c : Nat) (k : Keep) : Keep := { k with cnt := setNth k.cnt (c - 1) (satAdd (nthD 0 k.cnt (c - 1)) 1 0xFFFF) }

/-- The keep records of a module reset: the sources asserted, the widest, the cause (R437, R453, R454). -/
def noteReset (srcs widest : Nat) (k : Keep) : Keep :=
  { k with modSrc := srcs, widest := widest, lastCause := lastCauseOf widest }

/-- A module reset is in progress. -/
def inReset (s : State) : Bool := decide (s.rst.cur ≠ 0) && decide (s.rst.stage ≠ .ready) && !s.rst.recovery

/-- What the comb keeps over a module reset: its arrays, with the cell in progress left without a cap, FAILED and NEXT_SEQ
(R355, R360, R382, R434). -/
def combReset (c : Comb) : Comb :=
  let c := c.leaveProg
  { c0 := { c.c0 with gen := 0 }, c1 := { c.c1 with gen := 0 }, c2 := { c.c2 with gen := 0 }, lw := { c.lw with gen := 0 }
    lwFull := c.lwFull, failed := c.failed, nextSeq := c.nextSeq, clearOp := c.clearOp }

/-- What a ring port keeps over a module reset: how its receivers stand; it is in repeat-through, or silent (R193). -/
def portReset (silent : Bool) (p : RingPort) : RingPort :=
  { syncF := p.syncF, syncB := p.syncB, faultF := p.faultF, faultB := p.faultB, sinceF := p.sinceF, sinceB := p.sinceB
    silent := silent, lastStart := p.lastStart }

/-- What a lane keeps over a module reset: whether its supply and clock are in range, and with the DRAM its PLL, clock step
and firmware copy (R435); its status block takes its reset values and its measurements are made anew. CLOCK_SUSPECT stands
until the lane is released without the override (R443, log entry 184). -/
def laneModuleReset (dram : Bool) (r : LaneRegs) : LaneRegs :=
  { supplyIn := r.supplyIn, clockIn := r.clockIn, fwCopy := dram && r.fwCopy, suspect := r.suspect
    pllLock := dram && r.pllLock, stable := dram && r.stable, step := if dram then r.step else 0 }

/-- The lane status a module reset leaves. -/
def lanesModuleReset (dram : Bool) (s : State) : Tri LaneRegs := s.lane.map (fun _ r => laneModuleReset dram r)

/-- What the update loader keeps of the running firmware over a reset that keeps the DRAM. -/
def fwKept (dram : Bool) (u : Upd) : Upd :=
  if dram then { fwRun := u.fwRun, fwCheck := u.fwCheck, pairLevel := u.pairLevel, pairMin := u.pairMin, schemaMin := u.schemaMin
                 schemaMax := u.schemaMax }
  else {}

/-- The active bank a module starts with (R322): the keep domain's when it is valid, else the bank directory's. -/
def startBank (d : BankDir) (k : Keep) : Keep := if k.valid then k else { k with bank := d.active }

/-- What the power and keep domain, which no reset clears, keeps over a module reset (R435, R533, R555): its measurements
and what goes on in it; its counting registers are cleared. Hold-up ends with BROWN_OUT alone (R433, R536), and a power-up
measures the hold-up bank and the temperature anew (R540). -/
def pwrReset (codes : List Nat) (p : Pwr) : Pwr :=
  let p := { p with switched := false, toMain := 0, toBack := 0, load := 0, peak := 0, tempMax := p.temp }
  let p := if codes.contains 1 then { p with
    holdUs := 0, holdLow := false, sections := ⟨0, 0, 0⟩, holdCommon := 0, hotAt := none, hotTold := false } else p
  if codes.contains 1 || codes.contains 2 then { p with holdup := false, lostAt := none } else p

/-- A module reset by a set of sources, given as codes, whose counters stand advanced in k0 (R431 to R437): every block
outside the keep domain takes its reset values, and stage HOLD begins. -/
def resetModule (k0 : Keep) (codes : List Nat) (s : State) : State :=
  let inProg := inReset s
  let own := codes.foldl wider (codes.headD 1)
  let widest := if inProg then wider s.rst.cur own else own
  let srcs := codes.foldl (fun m c => m ||| 2 ^ (c - 1)) (if inProg then s.keep.modSrc else 0)
  let dram := decide (widest = 7) || decide (widest = 8)
  let silent := decide (reachRank widest ≤ 1)
  let k := startBank s.dir (noteReset srcs widest k0)
  { State.reset with
    ring := s.ring.map (fun _ p => portReset silent p)
    keep := k
    clk := { s.clk with ring := ⟨{}, {}, {}⟩ }
    lane := lanesModuleReset dram s
    bank := ⟨{ active := k.bank }, { active := k.bank }, { active := k.bank }⟩
    ret := if widest = 7 then s.ret else ⟨{}, {}, {}⟩
    comb := if (pwrReset codes s.pwr).holdup then { combReset s.comb with holdupEnd := s.comb.holdupEnd, stopped := s.comb.stopped }
      else combReset s.comb
    evr := { idle := s.evr.idle }
    store := s.store
    upd := fwKept dram s.upd
    dir := s.dir
    free := s.free
    eth := { link := s.eth.link, out := s.eth.out }
    pl := { out := s.pl.out }
    crown := { partnerRank := 0 }
    wk := { retired := s.wk.retired, relocated := s.wk.relocated, relocAt := s.wk.relocAt, rewriteAt := s.wk.rewriteAt
            spareComb := s.wk.spareComb, spareCode := s.wk.spareCode }
    pwr := pwrReset codes s.pwr
    fuse := s.fuse
    pending := s.pending
    rst := { powered := true, cur := widest, srcs := srcs, nrst := s.rst.nrst, level := s.rst.level
             stageAt := s.clk.now, refs := if silent then ⟨false, false, false⟩ else s.rst.refs
             plls := if dram then s.rst.plls else ⟨false, false, false⟩, dram := dram, ovr := s.test.ovr, cold := s.test.scanEn } }

/-- A state of the crown unit that R321 records on entering or leaving. -/
def recordedState (x : CrownState) : Bool := x == .crowned || x == .inStep || x == .out

/-- The crown unit enters a state (R305, R321): cells and sources 32 to 34. -/
def setCrown (x : CrownState) (s : State) : State :=
  let old := s.crown.state
  if old = x then s else
  let s := { s with crown := { s.crown with state := x } }
  let s := recordIf (recordedState old || recordedState x) 0 .crownState [old.code, x.code] s
  let s := fireIf (x == .crowned) 32 s
  let s := fireIf (old == .crowned) 33 s
  fireIf (x == .out) 34 s

/-- A master that ceases to be master leaves dual transmission (R202). -/
def leaveDual (r : Ring) (s : State) : State :=
  let p := s.ring.at r
  if p.dual then
    let s := { s with ring := s.ring.put r { p with dual := false, dualPend := false } }
    fire (16 + 4 * r.val) (record 0 .ringWrap [r.val, p.wrapF.toNat, p.wrapB.toNat, (s.keep.lastCommit.getD 0).toNat, 0] s)
  else s

/-- Every ring the module masters leaves dual transmission. -/
def leaveDualAll (s : State) : State := rings.foldl (fun s r => leaveDual r s) s

/-- A module that is to be reset or tested ceases to be master and leaves its crown state first (R202, R321). -/
def quitCrown (s : State) : State := setCrown .off (leaveDualAll s)

/-- A module reset by a set of sources, each counted (R437, R453). -/
def moduleReset (codes : List Nat) (s : State) : State :=
  resetModule (codes.foldl (fun k c => countReset c k) s.keep) codes (quitCrown s)

/-- A module reset that the module starts itself sends RELEASE first (R302). -/
def releaseAndReset (code : Nat) (s : State) : State := moduleReset [code] (send .release s)

/-- What a lane reset leaves of the lane's status block (R435). -/
def laneRegsReset (r : LaneRegs) : LaneRegs :=
  { state := r.state, everReady := r.everReady, rejoins := r.rejoins, fwCopy := r.fwCopy, supplyIn := r.supplyIn
    clockIn := r.clockIn, freqDev := r.freqDev, suspect := r.suspect, stable := r.stable, pllLock := r.pllLock
    step := r.step, vcoreMv := r.vcoreMv, feed := r.feed, vbackOk := r.vbackOk, vmainOk := r.vmainOk, fault := r.fault, faultNow := r.faultNow
    resetDue := r.resetDue, resetHeld := r.resetHeld, wdogReset := r.wdogReset
    trap := r.trap, trapIndex := r.trapIndex }

/-- A lane reset by source c (R431, R435, R453, R455): the lane's units take their reset values. -/
def laneReset (c : Nat) (l : Lane) (s : State) : State :=
  let s := { s with
    lane := s.lane.upd l laneRegsReset
    eng := s.eng.put l {}
    st := s.st.put l {}
    tg := s.tg.put l {}
    vin := { s.vin with ev := s.vin.ev.put l (List.replicate 8 {}) }
    tb := { s.tb with far := s.tb.far.put l 0 }
    port := s.port.put l {}
    bank := s.bank.upd l (fun b => { active := b.active })
    keep := { countReset c s.keep with laneSrc := c, laneOf := l.num } }
  fire 65 (record 0 .laneReset [l.num, c] s)

/-- The module sends RELEASE and its crown unit goes OFF with it (R302, R495). -/
def crownOff (s : State) : State :=
  let s := quitCrown s
  { s with crown := { s.crown with ho := none, view := none, claimAt := none } }

end Sys2Proof.Machine
end

