-- ==== Sys2Proof/Machine/Reflex.lean ====
section
/-! DEFINITION. The reflex, HALTED and the permits (R157 to R165). -/
namespace Sys2Proof.Machine

/-- The permit of a lane may toggle (R164). -/
def permitOk (s : State) (l : Lane) : Bool :=
  crowned s && s.vote.committed && votes s l && s.vote.modAct.isEmpty && !(s.vote.laneAct.at l)

/-- The read-back sees a ball toggle while its generator runs, or where a fault makes it toggle without (R165). -/
def seePermits (v : Vote) : Vote := { v with seen := v.permit.map (fun l x => x || v.stuck.at l) }

/-- The permits follow their conditions (R164); the read-back sees what the generators do (R165). -/
def setPermits (s : State) : State :=
  let p : Tri Bool := ⟨permitOk s .a, permitOk s .b, permitOk s .c⟩
  { s with vote := seePermits { s.vote with permit := p } }

/-- Permits whose conditions have ended go low; none starts (R158, R164). -/
def dropPermits (s : State) : State :=
  let p := s.vote.permit.map (fun l x => x && permitOk s l)
  { s with vote := seePermits { s.vote with permit := p } }

/-- Some permit toggles. -/
def toggling (s : State) : Bool := s.vote.permit.a || s.vote.permit.b || s.vote.permit.c

/-- The module's lease is valid at ring time x (R301). -/
def leaseValid (s : State) (x : Nat) : Bool :=
  crowned s && !s.crown.closed && decide (x < s.crown.tAck + s.crown.lease)

/-- The vote unit enters HALTED (R159): no further renewal, and a crown-loss restart at the lease's end, or within
1 ms when the module holds no lease; never after DEG_EXPIRED. -/
def halt (code : Nat) (s : State) : State :=
  { s with vote := { s.vote with
      mode := .halted
      haltRestart := if code = 0x19 then none else if crowned s then s.vote.haltRestart else some (s.clk.now + 1000000) } }

/-- The module-scope codes that halt the vote unit (R158). -/
def haltsOn (code : Nat) : Bool := decide (0x10 ≤ code) && decide (code ≤ 0x1A) && code != 0x15 && code != 0x18

/-- The bit of a code in REFLEX_SRC (R175). -/
def srcBit (code : Nat) : Nat := if code < 0x10 then code - 1 else code - 0x10 + 3

/-- The LANE_FAULT flag of a lane-scope code (R46, R158). -/
def laneCodeFlag (code : Nat) : Nat := if code = 1 then 0 else if code = 2 then 7 else 6

/-- A detector that fires sets its flag in REFLEX_SRC (R16, R162) and the reflex trigger of snapshots (R371). -/
def noteSrc (code : Nat) (s : State) : State :=
  markSet (flagKey 0x040044 (srcBit code)) { s with
    vote := { s.vote with src := putBit s.vote.src (srcBit code) true }, comb := { s.comb with snapReflex := true } }

/-- A lane-scope detector fires (R158, R162). -/
def laneReflex (code : Nat) (l : Lane) (s : State) : State :=
  let s := noteSrc code { s with vote := { s.vote with laneAct := s.vote.laneAct.put l true } }
  let s := updLane l (fun r => { r with
    supplyIn := r.supplyIn && code != 2, clockIn := r.clockIn && code != 3 }) s
  record 0 .reflexFired [code, l.num] (fire 8 (laneFault l (laneCodeFlag code) (dropPermits s)))

/-- The first module-scope detector since reset, and of two in one lane clock the lower code, is FIRST (R162). -/
def noteFirst (code : Nat) (s : State) : State :=
  if s.vote.first = 0 ∨ (s.vote.firstAt = s.clk.now ∧ code < s.vote.first) then
    let cyc := s.keep.lastCommit.getD 0
    { s with
      vote := { s.vote with first := code, firstCycle := cyc, firstAt := s.clk.now }
      keep := { s.keep with reflex := some (code, cyc, s.clk.lifeUs) } }
  else s

/-- A module-scope detector fires (R158, R159, R162); a SAFE_STOP puts the declared safe values in force (R84). -/
def moduleReflex (code : Nat) (s : State) : State :=
  let s := { s with
    vote := { s.vote with modAct := if s.vote.modAct.contains code then s.vote.modAct else s.vote.modAct ++ [code] }
    cyc := { s.cyc with safeStop := s.cyc.safeStop || code == 0x18 } }
  let s := record 0 .reflexFired [code] (fire 8 (dropPermits (noteFirst code (noteSrc code s))))
  if haltsOn code then halt code s else s

/-- A checkpoint of the life clock (R526). -/
def writeCheckpoint (s : State) : State := { s with keep := { s.keep with checkpoint := s.clk.lifeUs } }

/-- SUPPLY_LOST fires (R158, R433, R536): permits low, origination closed, no further renewal, RELEASE, the checkpoint, the
BROWN_OUT counter; the comb's cell writer has until +1.6 ms. -/
def loseSupply (s : State) : State :=
  let s := beginCell (endFreeze (moduleReflex 0x15 s))
  let s := { s with
    crown := { s.crown with closed := true }
    pwr := { s.pwr with holdup := true, lostAt := some s.clk.now }
    comb := { s.comb with holdupEnd := some (s.clk.now + 1600000) }
    keep := countReset 2 s.keep }
  writeCheckpoint (send .release s)

/-- PERMIT_READBACK of a lane's ball, which is seen to toggle from now on (R165). -/
def permitReadback (l : Lane) (s : State) : State :=
  moduleReflex 0x1A (markSet (flagKey 0x040060 (8 + l.num)) { s with
    vote := { s.vote with readback := s.vote.readback.put l true, stuck := s.vote.stuck.put l true } })

/-- A guardian fault at a port (R226, R235): GFAULT and the GUARDIAN reflex. -/
def guardianFault (r : Ring) (s : State) : State :=
  moduleReflex 0x17 (markSet (flagKey (0x080100 + 0x10000 * r.val) 16) { s with ring := s.ring.upd r (fun p => { p with gfault := true }) })

/-- A detector of R158 fires; SUPPLY_LOST starts hold-up once. -/
def reflex (code : Nat) (l : Lane) (s : State) : State :=
  if 1 ≤ code ∧ code ≤ 3 then laneReflex code l s
  else if code = 0x1A then permitReadback l s
  else if code = 0x15 then (if s.rst.powered && !s.pwr.holdup then loseSupply s else moduleReflex code s)
  else if 0x10 ≤ code ∧ code ≤ 0x1A then moduleReflex code s
  else s

/-- A HALTED module that holds no lease makes its crown-loss restart (R159). -/
def settleHalt (s : State) : State :=
  if s.vote.mode = .halted ∧ s.vote.haltRestart.isSome ∧ crowned s = false then releaseAndReset 8 s else s

/-- REFLEX_FIRE (R158, R160): of lane l where the code is of lane scope, of ring r where it is GUARDIAN. -/
def execReflexFire (t code : Nat) (l : Lane) (s : State) (r : Ring := 0) : Host.Outcome State Fault Refusal :=
  .next (settleHalt (if code = 0x17 then guardianFault r (elapse t s) else reflex code l (elapse t s)))

end Sys2Proof.Machine
end

