-- ==== Sys2Proof/Machine/UpdOps.lean ====
section
/-! DEFINITION. The messages of the update loader and the end of its sessions (R475 to R481). -/
namespace Sys2Proof.Machine

/-- The session statuses of R481 beside those of R406. -/
def updImageBad : Nat := 0x20
def updSchema : Nat := 0x21
def updWriteFailed : Nat := 0x22
def updSeqGap : Nat := 0x23
def updTimeout : Nat := 0x24
def updHost : Nat := 0x25

/-- An update message (R475): the 16-byte head, then the payload. -/
def updMsg (msg item status offset length version : Nat) (payload : List Byte) : List Byte :=
  leBytes 1 msg ++ leBytes 1 item ++ leBytes 1 status ++ [0#8] ++ leBytes 4 offset ++ leBytes 4 length ++ leBytes 4 version
    ++ payload

/-- A message goes out to an update source. -/
def updSend (src : UpdSrc) (m : List Byte) (s : State) : State :=
  match src with
  | .eth => if s.eth.upd then { s with eth := { s.eth with out := s.eth.out ++ [.update m] } } else s
  | .partner => send (.image m) s

/-- An update source reaches the loader: the port is served, and its connection or link stands. -/
def heardFrom (src : UpdSrc) (s : State) : Bool :=
  hostOpen s && (match src with
    | .eth => s.eth.upd
    | .partner => s.pl.sync0 || s.pl.sync1)

/-- The lock is released with a status; a session that did not end with RESULT OK is counted FAILED (R492). -/
def releaseLock (ok : Bool) (status : Nat) (s : State) : State :=
  { s with upd := { s.upd with
      phase := .idle, lock := none, last := status
      done := if ok then satAdd s.upd.done 1 0xFFFF else s.upd.done
      failed := if ok then s.upd.failed else satAdd s.upd.failed 1 0xFF } }

/-- The running session ends with ABORT (R478). -/
def abortSession (status : Nat) (s : State) : State :=
  match s.upd.lock with
  | none => s
  | some src => releaseLock false status (updSend src (updMsg 0x08 s.upd.item status 0 0 0 []) s)

/-- The running session ends with RESULT (R480); source 69 at every one (R493). -/
def resultSession (status : Nat) (s : State) : State :=
  match s.upd.lock with
  | none => s
  | some src => fire 69 (releaseLock (status == stOk) status (updSend src (updMsg 0x07 s.upd.item status 0 0 0 []) s))

end Sys2Proof.Machine
end

