-- ==== Sys2Proof/Machine/CrownOps.lean ====
section
/-! DEFINITION. The crown unit's shared operations (R296 to R321): refusal reasons, states, the lease, its loss, records
that are sent twice, and taking the crown. -/
namespace Sys2Proof.Machine

/-- L in ns from the settings in force (R298). -/
def leaseNs (s : State) : Nat := ((s.set.block.map (fun b => b.leaseMs)).getD 0) * 1000000

/-- The guard time G = L / 4 (R298). -/
def guardNs (s : State) : Nat := leaseNs s / 4

/-- The settings declare a partner (R465 PARTNER). -/
def hasPartner (s : State) : Bool := (s.set.block.map (fun b => b.partner)).getD false

/-- The WCET of the active program. -/
def activeWcet (s : State) : Nat := ((moduleProg s).map (fun p => p.wcet)).getD 0

/-- The reason WCET of CROWN_REFUSE (R44). -/
def wcetRefused (s : State) : Bool := (moduleProg s).isSome && s.glb.valid && decide (budget s < activeWcet s)

/-- How many lanes count for the reason LANES (R320). -/
def refuseLanes (s : State) : Nat :=
  (lanes.filter (fun l => votes s l
    || (s.crown.state == .seeking && lstate s l == .starting && (laneOf s l).ready))).length

/-- The reasons of CROWN_REFUSE, but for NOT_IN_STEP (R320). -/
def refusalReasons (s : State) : Nat :=
  2 * b2n (decide (refuseLanes s < 2)) + 4 * b2n (wcetRefused s) + 8 * b2n s.vote.degExpired + 16 * b2n s.opt.fail
    + 32 * b2n ((laneOf s .a).suspect || (laneOf s .b).suspect || (laneOf s .c).suspect)
    + 64 * b2n (decide (s.keep.reason = 2)) + 128 * b2n (decide (0xFFFFFFFE ≤ s.keep.epochKept.toNat))
    + 256 * b2n (s.vote.mode == .halted) + 512 * b2n s.crown.settingsDiff
    + 1024 * b2n (s.test.state != .idle || s.test.running || s.test.session.isSome)

/-- The crown unit follows: IN_STEP or FROZEN. -/
def following (s : State) : Bool := s.crown.state == .inStep || s.crown.state == .frozen

/-- CROWN_REFUSE (R320). -/
def crownRefuse (s : State) : Nat := refusalReasons s + b2n (!following s)

/-- The rings in use (R203). -/
def inUse (s : State) (r : Ring) : Bool := !(s.ring.at r).table.isEmpty && (s.ring.at r).released

/-- Some ring is in use. -/
def anyRing (s : State) : Bool := rings.any (inUse s)

/-- The crown unit enters OUT (R305); what it followed is dropped. -/
def enterOut (s : State) : State :=
  setCrown .out { s with
    tb := { s.tb with stepBeacon := false }
    crown := { s.crown with outAt := s.clk.now, ho := none, latch := none, parts := [], own := none, heard := none, claimAt := none } }

/-- The crown unit enters SEEKING (R305); the parts and commands it goes on collecting are those of R306. -/
def enterSeeking (s : State) : State :=
  setCrown .seeking { s with
    tb := { s.tb with stepBeacon := false }
    crown := { s.crown with renewed := false, statusSent := false, ho := none, claimAt := none
                            latch := none, own := none, heard := none, uncompared := 0 } }

/-- EPOCH_KEPT rises to an epoch held, followed or seen (R304). -/
def seeEpoch (e : W32) (s : State) : State :=
  if s.keep.epochKept.toNat < e.toNat then { s with keep := { s.keep with epochKept := e } } else s

/-- A lifetime counter advances (R530). -/
def bumpCounter (i : Nat) (s : State) : State :=
  { s with keep := { s.keep with counters := setNth s.keep.counters i (satAdd (nthD 0 s.keep.counters i) 1 0xFFFFFFFF) } }

/-- The exchange state changes (R329): source 36 and a comb 0 cell; REASON keeps the latest refusal or cancellation (R347);
VOTE_CTL.REJOIN_HOLD is held from AGREED until AGREED or SWITCHING is left (R332). -/
def setPx (x : PxState) (reason : Nat) (s : State) : State :=
  let old := s.px.state
  let s := { s with
    px := { s.px with state := x, reason := if reason = 0 then s.px.reason else reason }
    vote := { s.vote with pxHold := x == .agreed || x == .switching } }
  fire 36 (record 0 .exchange [old.code, x.code, (s.keep.lastCommit.getD 0).toNat, s.px.h.toNat, reason] s)

/-- Nothing is staged any more: no lane holds the inactive bank staged, and no map's X stands (R324, R328, R347, R348). -/
def unstage (s : State) : State :=
  { s with
    bank := s.bank.map (fun _ b => { b with staged := false, check := 0 })
    px := { s.px with xclocks := 0 } }

/-- A proposal or agreement is cancelled (R334); the next record tells the partner. -/
def cancelPx (reason : Nat) (s : State) : State :=
  if s.px.state = .proposed ∨ s.px.state = .agreed then
    let h := s.px.h
    let s := setPx .staged reason s
    { s with px := { s.px with cancels := satAdd s.px.cancels 1 0xFFFF, h := 0, cancel := some h } }
  else s

/-- The cell writer of a module that takes the crown goes on at the greater of its own next number and the holder's
latest plus 1 (R309); the first cell after a jump is SEQ_JUMP (R362). -/
def seqJump (s : State) : State :=
  match s.crown.combSeq with
  | none => s
  | some k =>
    let old := s.comb.nextSeq
    if k + 1 ≤ old then s
    else recordOwn 0 0x07 (leBytes 8 old ++ leBytes 8 (k + 1)) { s with comb := { s.comb with nextSeq := k + 1 } }

/-! ### Partner link records -/

/-- A record sent once is taken when its check verifies (R295); an injected fault fails it (R509). -/
def takeRcv (x : Rcv) (f : State → State) (s : State) : State :=
  let bad := (injected 0x0901 s).isSome
  let s := spendOnce 0x0901 s
  if x.sound && !bad then f { s with crown := { s.crown with partnerRank := x.rank } }
  else { s with pl := { s.pl with errCheck := satAdd s.pl.errCheck 1 0xFFFF } }

/-- A record sent twice is acted on when both copies verify, are equal and arrive within 2 µs (R296). -/
def takeTwin {α : Type} [DecidableEq α] (x : Twin α) (f : α → State → State) (s : State) : State :=
  let x := if (injected 0x0901 s).isSome then { x with c0 := none } else x
  let s := spendOnce 0x0901 s
  let bad := b2n x.c0.isNone + b2n x.c1.isNone
  let s := { s with pl := { s.pl with errCheck := satAdd s.pl.errCheck bad 0xFFFF } }
  match x.c0, x.c1 with
  | some a, some b =>
    if a = b ∧ x.gap ≤ 2000 then f a { s with crown := { s.crown with partnerRank := x.rank } }
    else { s with pl := { s.pl with errDup := satAdd s.pl.errDup 1 0xFFFF } }
  | none, none => s
  | _, _ => { s with pl := { s.pl with errDup := satAdd s.pl.errDup 1 0xFFFF } }

/-! ### The lease -/

/-- A renewal is acknowledged, or counted as acknowledged (R301, R302). -/
def acknowledge (ts : Nat) (solo : Bool) (s : State) : State :=
  if s.crown.tAck < ts then { s with crown := { s.crown with tAck := ts, solo := solo } } else s

/-- The holder renews (R299). -/
def renews (s : State) : Bool := crowned s && s.vote.mode != .halted && !s.pwr.holdup && !s.crown.closed

/-- A renewal goes out at t_s; with no partner, or one that has released, it counts as acknowledged (R302). -/
def sentRenewal (ts : Nat) (s : State) : State :=
  let s := { s with crown := { s.crown with lastTs := max s.crown.lastTs ts } }
  if s.crown.released || !hasPartner s then acknowledge ts true s else s

/-- The lease settings agree with the partner's (R298, R486). -/
def settingsAgree (s : State) (b : LeaseBody) : Bool :=
  match s.set.block with
  | none => false
  | some x => decide (x.leaseMs = b.leaseMs) && decide (x.profile = b.profile)
      && (x.id == b.setId || (x.rolling && x.fromId == b.setId) || (b.rolling && b.fromId == x.id))

/-! ### Losing and taking the crown -/

/-- A crown-loss restart (R159, R302, R305). -/
def crownLossRestart (s : State) : State :=
  releaseAndReset 8 (setCrown .off (leaveDualAll s))

/-- The first renewal of a new holder reaches the module that handed it the crown: after a rotation the shut-down self-test
is due (R317, R494), after R155 it makes its crown-loss restart. -/
def newHolder (s : State) : State :=
  if s.crown.degRestart then crownLossRestart s
  else if s.crown.rotStop then
    { s with crown := { s.crown with rotStop := false }
             test := { s.test with due := some s.clk.now, reason := 1, andThen := true } }
  else s

/-- The module takes a renewal of an epoch (R303). -/
def takesRenewal (epoch : W32) (s : State) : Bool :=
  !crowned s && s.crown.state != .off && !decide (epoch.toNat < s.crown.followed.toNat)

/-- A renewal of an epoch reaches the crown unit (R299, R303, R305): one that a module not the holder takes sets its view
expiry to the ring time of receipt plus L; one of a lower epoch is counted, by the holder too. -/
def takeRenewal (epoch : W32) (ringT : Nat) (s : State) : State :=
  if s.crown.state = .off then s
  else if epoch.toNat < (if crowned s then s.crown.epoch else s.crown.followed).toNat then
    { s with crown := { s.crown with lowEpoch := satAdd s.crown.lowEpoch 1 0xFF } }
  else if crowned s then s
  else
    let changed := decide (s.crown.followed.toNat < epoch.toNat)
    let s := seeEpoch epoch { s with crown := { s.crown with
      followed := epoch, view := some (ringT + leaseNs s), renewed := true, waitFrom := s.clk.now
      changeCycle := if changed then s.keep.lastCommit.getD 0 else s.crown.changeCycle } }
    let s := if s.crown.state = .frozen ∧ s.crown.frozenAt + 2 * tProg s < s.clk.now then enterOut s else s
    if changed then newHolder s else s

/-- Origination closes at the lease's end (R219, R301): CROWN_LOSS when the permits toggle, then the restart, unless
DEG_EXPIRED waits for a reset. -/
def expireLease (s : State) : State :=
  let s := { s with crown := { s.crown with closed := true } }
  let s := if toggling s then moduleReflex 0x16 s else s
  if s.vote.modAct.contains 0x19 then s else crownLossRestart s

/-- A higher epoch, or an equal one with a lower rank, has priority (R219, R231). -/
def hasPriority (e rank e0 rank0 : W32) : Bool :=
  decide (e0.toNat < e.toNat) || (e == e0 && decide (rank.toNat < rank0.toNat))

/-- Ring time starts on a new scale (R216): the life clock in ns, rounded up to a multiple of 8,000 µs. -/
def newScale (s : State) : State :=
  let n := (s.clk.lifeUs * 1000 + 7999999) / 8000000 * 8000000
  let c : RingClk := { ns := n, frac := 0, slewPpb := 0 }
  { s with
    clk := { s.clk with ring := ⟨c, c, c⟩ }
    setAt := kvPut s.setAt (flagKey 0x0C0008 6) s.clk.now
    vin := { s.vin with scaleFrom := n, doneAt := none }
    tb := { s.tb with stepped := true, stepBeacon := true, established := true } }

/-- A session that may not go on beside the crown ends (R481); both analogue buses return to none (R512). -/
def onCandidate (s : State) : State :=
  let s := { s with test := { s.test with atb0 := 0, atb1 := 0 } }
  if s.upd.phase ≠ .writing ∧ s.upd.item ≠ 3 then abortSession stStateRefused s else s

/-- The module takes the crown by claims (R304, R311, R318): it stores its epoch and becomes a candidate; a module that is
not time-locked starts a new scale (R216). One that starts follows nothing, so it holds no commands of a holder (R318). -/
def becomeCandidate (byStart : Bool) (s : State) : State :=
  let e := s.keep.epochKept + 1
  let s := seqJump s
  let s := { s with
    keep := { s.keep with epochKept := e }
    cyc := { s.cyc with cmds := if byStart then [] else s.cyc.cmds } }
  let s := { s with crown := { s.crown with
    epoch := e, byStart := byStart, claimSeq := 0, claimAt := none, closed := false, view := none } }
  let s := cancelPx 0x09 (onCandidate (setCrown .candidate s))
  let s := if s.tb.locked && !byStart then s else newScale s
  { s with ring := s.ring.map (fun _ p => { p with toWin := true, claim := { p.claim with state := .idle } }) }

/-- A refusal for WCET is recorded with both figures (R44). -/
def recordWcet (s : State) : State :=
  recordIf (wcetRefused s) 0 .crownRefused [activeWcet s, budget s] s

/-- The module takes the crown when nothing refuses it; a reason present sends it to OUT (R311). -/
def takeCrown (s : State) : State :=
  if crownRefuse s = 0 then becomeCandidate false s else enterOut (recordWcet s)

/-- The crown unit withdraws its candidacy (R311): SEEKING when it began under R318 or the winner is the partner,
else OUT. -/
def withdrawCandidate (winner : W32) (s : State) : State :=
  if s.crown.state ≠ .candidate then s else
  let s := { s with ring := s.ring.map (fun _ p =>
    if p.claim.state = .claiming then { p with claim := { p.claim with state := .withdrawn } } else p) }
  if s.crown.byStart || winner == s.crown.partnerRank then enterSeeking s else enterOut s

/-! ### The exchange word and STATUS (R310, R330, R331) -/

/-- The inactive bank of a lane. -/
def inactiveProg (s : State) (l : Lane) : Option Program := bankProg (s.bank.at l) (!(s.bank.at l).active)

/-- The lanes in VOTING state that hold the staged bank. -/
def stagedLanes (s : State) : List Lane := (voters s).filter (fun l => (s.bank.at l).staged)

/-- IMG_CHECK of the staged image; 0 when none. -/
def stagedCheck (s : State) : W32 := ((stagedLanes s).head?.map (fun l => (s.bank.at l).check)).getD 0

/-- A standby that is IN_STEP holds the bank the holder proposes staged: it sends READY (R331). -/
def sendsReady (s : State) : Bool :=
  s.px.state == .staged && !crowned s && s.px.partner.state == .propose && s.px.partner.img == stagedCheck s
    && s.crown.state == .inStep

/-- The exchange word of a COMMIT record of the holder or a STATUS record of the standby (R330, R331). -/
def exchangeWord (s : State) : Xw :=
  let st : XState :=
    if s.px.cancel.isSome then .cancel else
    match s.px.state with
    | .idle | .staging => .none
    | .staged => if sendsReady s then .propose else .staged
    | .proposed => .propose
    | .agreed => .agreed
    | .switching => .go
  let h : W32 := match st with
    | .none | .staged => 0
    | .cancel => s.px.cancel.getD 0
    | _ => if s.px.state = .staged then s.px.partner.cycle else s.px.h
  { img := if s.px.state = .switching then s.px.goCheck else stagedCheck s, cycle := h, rejoin := s.vote.rejoin.isSome, reason := s.px.reason, state := st }

/-- SECONDS of VOTE_DEG_LEFT. -/
def degSeconds (s : State) : Nat := if s.vote.degRun then (s.vote.degEnd - s.clk.lifeUs) / 1000000 else s.vote.degLeft

/-- Sends STATUS (R295, R310). -/
def sendStatus (s : State) : State :=
  send (.status { cycle := s.keep.lastCommit.getD 0, state := s.crown.state.code, matched := s.crown.matched
                  voting := ⟨votes s .a, votes s .b, votes s .c⟩, refuse := BitVec.ofNat 32 (crownRefuse s)
                  degraded := s.vote.mode == .degraded, degLeft := degSeconds s, testing := s.test.running
                  xw := exchangeWord s })
    { s with crown := { s.crown with statusSent := true }, px := { s.px with cancel := none } }

/-- A renewal of the instant t_s is taken and acknowledged (R300); a module in SEEKING that takes one sends STATUS (R310).
-/
def takeAcked (ts : Nat) (epoch : W32) (s : State) : State :=
  let takes := takesRenewal epoch s
  let s := takeRenewal epoch (ringNow s) s
  if takes then
    let s := send (.leaseAck ts epoch) s
    if s.crown.state = .seeking ∧ s.crown.renewed = true then sendStatus s else s
  else s

end Sys2Proof.Machine
end

