-- ==== Sys2Proof/Machine/Frames.lean ====
section
/-! DEFINITION. Frames as bytes and their checks (R181 to R186, R229), seals and part checks (R241 to R245). -/
namespace Sys2Proof.Machine

/-- A header's bytes 0 to 27 (R182). -/
def hdrBytes (h : Hdr) : List Byte :=
  [h.ftype, h.flags] ++ leBytes 2 h.secCount.toNat ++ leBytes 4 h.cycle.toNat ++ leBytes 4 h.epoch.toNat
    ++ leBytes 8 h.ringTime.toNat ++ leBytes 4 h.masterId.toNat ++ [h.tmRank, h.tmFlags] ++ leBytes 2 h.beaconSeq.toNat

/-- HDR_CHECK (R182, R386). -/
def hdrCheck (r : Ring) (h : Hdr) : W32 := checkOf 0x09 r.val 0 (hdrBytes h)

/-- The header with its check set. -/
def sealHdr (r : Ring) (h : Hdr) : Hdr := { h with check := hdrCheck r h }

/-- HDR_CHECK verifies. -/
def hdrOk (r : Ring) (h : Hdr) : Bool := h.check == hdrCheck r h

/-- A section's bytes (R183). -/
def secBytes (x : Sec) : List Byte :=
  [x.addr, x.olen, x.ilen, x.state] ++ x.out ++ leBytes 4 x.oseq.toNat ++ leBytes 4 x.seals.a.toNat
    ++ leBytes 4 x.seals.b.toNat ++ leBytes 4 x.seals.c.toNat ++ leBytes 2 x.fresh.toNat ++ leBytes 2 x.iseq.toNat
    ++ x.inp ++ leBytes 4 x.chk1.toNat ++ leBytes 4 x.chk2.toNat

/-- A claim body's bytes (R229). -/
def claimBytes (b : ClaimBody) : List Byte :=
  leBytes 2 b.seq.toNat ++ [b.mask, 0] ++ leBytes 4 b.seenEpoch.toNat ++ leBytes 4 b.seenRank.toNat ++ [0, 0, 0, 0]

/-- What TRL_CHECK covers (R185). -/
def trlCovered (f : Frame) : List Byte :=
  hdrBytes f.hdr ++ leBytes 4 f.hdr.check.toNat ++ f.secs.flatMap secBytes
    ++ ((f.claim.map claimBytes).getD []) ++ leBytes 2 f.trl.hops.toNat ++ [f.trl.wrap, f.trl.flags]

/-- TRL_CHECK (R185, R386). -/
def trlCheck (r : Ring) (f : Frame) : W32 := checkOf 0x0A r.val 0 (trlCovered f)

/-- The frame with its trailer check set. -/
def sealTrl (r : Ring) (f : Frame) : Frame := { f with trl := { f.trl with check := trlCheck r f } }

/-- TRL_CHECK verifies. -/
def trlOk (r : Ring) (f : Frame) : Bool := f.trl.check == trlCheck r f

/-- Both checks verify and UPSTREAM_BAD is 0 (R194). -/
def frameOk (r : Ring) (f : Frame) : Bool := hdrOk r f.hdr && trlOk r f && !f.trl.flags.getLsbD 0

/-- Both checks of a frame verify (R231, R304). -/
def checksOk (r : Ring) (f : Frame) : Bool := hdrOk r f.hdr && trlOk r f

/-- FTYPE values (R182). -/
def ftCycle : Byte := 0x01
def ftClaim : Byte := 0x02
def ftTest : Byte := 0x04

/-- WRAPPED (R182). -/
def isWrapped (f : Frame) : Bool := f.hdr.flags.getLsbD 0

/-- Frame bytes S, delimiters included (R206). -/
def frameLen (tbl : List SecEntry) : Nat := tbl.foldl (fun n e => n + 32 + e.olen + e.ilen) 124

/-! ### Seals -/

/-- The seed of a lane's seal (R243). -/
def sealSeed (l : Lane) : Nat := 0x5EA1000A + l.num

/-- A lane's seal of an output part with its trip record zeroed (R243). -/
def sealOf (l : Lane) (ring addr olen : Nat) (oseq epoch : W32) (j jtag : Nat) (part : List Byte) : W32 :=
  crc32c (leBytes 4 (sealSeed l) ++ leBytes 1 ring ++ leBytes 1 addr ++ leBytes 1 olen ++ leBytes 1 j
    ++ leBytes 4 oseq.toNat ++ leBytes 4 epoch.toNat ++ leBytes 1 jtag ++ [0, 0, 0] ++ part)

/-- A door guard channel's check of its trip byte (R244): channel 0 is X, 1 is Y. -/
def gchk (chan ring addr : Nat) (oseq epoch : W32) (trip : Byte) : W32 :=
  crc32c (leBytes 4 (0x6D0A0058 + chan) ++ leBytes 1 ring ++ leBytes 1 addr ++ leBytes 4 oseq.toNat
    ++ leBytes 4 epoch.toNat ++ [trip])

/-- CHK_1 and CHK_2 of an input part (R245): c is 1 or 2. -/
def ichk (c ring addr ilen : Nat) (epoch : W32) (beacon fresh iseq : W16) (part : List Byte) : W32 :=
  crc32c (leBytes 4 (0x1A9E0000 + c) ++ leBytes 1 ring ++ leBytes 1 addr ++ leBytes 1 ilen ++ [0]
    ++ leBytes 4 epoch.toNat ++ leBytes 2 beacon.toNat ++ leBytes 2 fresh.toNat ++ leBytes 2 iseq.toNat ++ part)

/-- Both checks of a section's input part verify in its frame. -/
def partChecks (r : Ring) (h : Hdr) (x : Sec) : Bool :=
  x.chk1 == ichk 1 r.val x.addr.toNat x.ilen.toNat h.epoch h.beaconSeq x.fresh x.iseq x.inp
    && x.chk2 == ichk 2 r.val x.addr.toNat x.ilen.toNat h.epoch h.beaconSeq x.fresh x.iseq x.inp

/-- At least two of section 255's seals verify with j = 0 and jtag = 0 (R299). -/
def sealsOf255 (r : Ring) (h : Hdr) (x : Sec) : Bool :=
  let ok := fun l => x.seals.at l == sealOf l r.val 255 x.olen.toNat x.oseq h.epoch 0 0 x.out
  decide (2 ≤ (lanes.filter ok).length)

/-- (a - b) modulo 2^16 is from 1 to 0x7FFF (R252). -/
def newer16 (a b : W16) : Bool := decide (1 ≤ (a - b).toNat) && decide ((a - b).toNat ≤ 0x7FFF)

/-! ### Parts and views -/

/-- A node's key in a lane's views. -/
def nodeKey (r : Ring) (addr : Nat) : Nat := 256 * r.val + addr

/-- One lane's view of a node. -/
def viewOf (tg : Telegrams) (key : Nat) : NodeView := (kvGet tg.nodes key).getD {}

/-- A lane takes parts from the ring ports: it starts, votes or rejoins, and is not fenced (R143, R443). -/
def takesParts (r : LaneRegs) : Bool :=
  (r.state == .starting || r.state == .voting || r.state == .rejoining) && !r.suspect

/-- A lane decides on a fresh section of a taken copy (R252, R254): checks, then ISEQ, waived while NODE_LOST. -/
def acceptPart (r : Ring) (h : Hdr) (x : Sec) (tg : Telegrams) : Telegrams × Bool :=
  let key := nodeKey r x.addr.toNat
  let v := viewOf tg key
  if !partChecks r h x then ({ tg with check := satAdd tg.check 1 0xFFFF }, false)
  else if !v.lost && !newer16 x.iseq v.iseq then ({ tg with seq := satAdd tg.seq 1 0xFFFF }, false)
  else
    let istat : W16 := BitVec.ofNat 16 (leAt x.inp 0 2)
    let v := { v with iseq := x.iseq, istat := istat, beacon := h.beaconSeq }
    if istat.getLsbD 1 then
      let v := { v with join := some (h.ringTime.toNat, istat) }
      ({ tg with nodes := kvPut tg.nodes key v, joinReq := satAdd tg.joinReq 1 0xFFFF, parts := tg.parts + 1 }, true)
    else
      let v := { v with part := some (h.ringTime.toNat, h.beaconSeq, x.inp) }
      ({ tg with nodes := kvPut tg.nodes key v, parts := tg.parts + 1 }, true)

/-- Every lane that takes parts decides on a section (R195, R252); the holder sends the part on while it is not HALTED
(R295 PART, R312). -/
def offerPart (r : Ring) (h : Hdr) (x : Sec) (s : State) : State :=
  let f := fun l => if takesParts (s.lane.at l) then acceptPart r h x (s.tg.at l) else (s.tg.at l, false)
  let ra := f .a
  let rb := f .b
  let rc := f .c
  let s := { s with tg := ⟨ra.1, rb.1, rc.1⟩ }
  if (ra.2 || rb.2 || rc.2) && s.vote.mode != .halted then
    send (.part { ring := r, addr := x.addr.toNat, beacon := h.beaconSeq, ringTime := h.ringTime.toNat
                  lanes := ⟨ra.2, rb.2, rc.2⟩, iseq := x.iseq, part := x.inp }) s
  else s

end Sys2Proof.Machine
end

