-- ==== Sys2Proof/Machine/DoorOps.lean ====
section
/-! DEFINITION. The door guard's evaluation of one unit by one channel, its trip record and its status bits
(R263 to R288). -/
namespace Sys2Proof.Machine

/-- Bytes of an element's output record (R239). -/
def outWidth : ElementKind → Nat
  | .point | .detection | .pti => 2
  | .signal | .door => 4
  | .panel => 8

/-- Bytes of an element's input record (R239). -/
def inWidth : ElementKind → Nat
  | .point => 2
  | .signal | .pti => 4
  | .detection | .panel => 8
  | .door => 12

/-- The bits an output record names (R239); the others are sent as 0. -/
def outMask : ElementKind → W64
  | .point | .detection | .pti => 0x3
  | .signal => 0x1FFFF
  | .door => 0x3FF
  | .panel => 0xFFFFFFFFFFFFFFFF

/-- The byte offset among a node's records of its element number `unit` of kind k (R237). -/
def elementOff (width : ElementKind → Nat) (k : ElementKind) (unit : Nat) : List ElementKind → Nat
  | [] => 0
  | x :: xs => if x = k then (if unit = 0 then 0 else width x + elementOff width k (unit - 1) xs) else width x + elementOff width k unit xs

/-- The byte offset of a door unit's output record, after OCTL and the trip record (R237). -/
def doorOut (r : Ring) (addr unit : Nat) : Nat := 14 + elementOff outWidth .door unit (Config.elements r.val addr)

/-- The byte offset of an element's input record, after ISTAT (R237). -/
def inputAt (k : ElementKind) (r : Ring) (addr unit : Nat) : Nat := 2 + elementOff inWidth k unit (Config.elements r.val addr)

/-- The output records of a node (R237, R239). -/
def outputRecords (pid : W64) (r : Ring) (addr : Nat) (img : Tab W64) : List Byte :=
  let es := Config.elements r.val addr
  (List.range es.length).flatMap (fun i =>
    let k := es.getD i .panel
    leBytes (outWidth k) (Config.elementBits pid r.val addr i img &&& outMask k).toNat)

/-- The two lanes a guardian's or the door guard's channels take their view from (R218, R264): the first two in VOTING
state, before the first commit the ready ones in STARTING (log entry 7). -/
def viewLanes (s : State) : List Lane := (lanes.filter (inService s)).take 2

/-- One channel's units: 0 for X, 1 for Y. -/
def chanUnits (d : Door) (c : Nat) : List (Nat × DoorChan) := if c = 0 then d.cx else d.cy

/-- One channel's state of a unit. -/
def chanOf (d : Door) (c g : Nat) : DoorChan := (kvGet (chanUnits d c) g).getD {}

/-- Replaces one channel's state of a unit. -/
def putChan (c g : Nat) (u : DoorChan) (d : Door) : Door :=
  if c = 0 then { d with cx := kvPut d.cx g u } else { d with cy := kvPut d.cy g u }

/-- The units of the door table on a ring that are not retired. -/
def ringUnits (d : Door) (r : Ring) : List DoorEntry := d.table.filter (fun e => e.ring = r && !e.retired)

/-- The door table's entry of a guard unit. -/
def doorEntry (d : Door) (g : Nat) : Option DoorEntry := d.table.find? (fun e => e.gunit = g && !e.retired)

/-- The bytes of a table entry in a channel's copy, with its SPD_LIM (R264, R269; DESIGN CHOICE, log entry 170). -/
def doorBytes (e : DoorEntry) : List Byte :=
  let pti := match e.pti with
    | none => [0, 0, 0, 0]
    | some (r, a, u) => [1, r.val, a, u]
  let staff := match e.staff with
    | none => [0, 0, 0, 0]
    | some (.vin i) => [1, i, 0, 0]
    | some (.panel r a b) => [2, r.val, a, b]
  ([e.ring.val, e.addr, e.unit, b2n e.retired, e.gunit, e.leaves, e.proofOpen, e.mass, e.eLim, e.full, e.win, e.closedTol, e.posTol
    , e.spdTol, e.dirTol, e.dirGrace, e.disc, e.degMax, e.plausTol, e.spdLim] ++ pti ++ staff).flatMap (leBytes 2)

/-- The check of a channel's copy on a ring (R264, R386). -/
def doorCheck (c : Nat) (r : Ring) (es : List DoorEntry) : W32 :=
  checkOf 0x0D r.val c ((es.filter (fun e => e.ring = r)).flatMap doorBytes)

/-- The door table enters both channels' copies with their checks (R264). -/
def loadDoors (es : List DoorEntry) (d : Door) : Door :=
  { d with table := es, copyY := es, sumX := d.sumX.map (fun r _ => doorCheck 0 r es), sumY := d.sumY.map (fun r _ => doorCheck 1 r es) }

/-- PARAM on a ring (R274): a channel's copy fails its check, or the two copies differ. -/
def doorParam (d : Door) (r : Ring) : Bool :=
  doorCheck 0 r d.table != d.sumX.at r || doorCheck 1 r d.copyY != d.sumY.at r
    || d.table.filter (fun e => e.ring = r) != d.copyY.filter (fun e => e.ring = r)

/-- Channel Y's entry of a unit. -/
def entryY (d : Door) (e : DoorEntry) : DoorEntry := (d.copyY.find? (fun x => x.gunit == e.gunit && !x.retired)).getD e

/-- A reading from an input part: encoder X at offset 0 or Y at offset 1 of its record (R239, R267). -/
def readingAt (inp : List Byte) (o y : Nat) : Reading :=
  { pos := BitVec.ofNat 16 (leAt inp (o + 2 * y) 2), spd := BitVec.ofNat 16 (leAt inp (o + 4 + 2 * y) 2)
    stat := BitVec.ofNat 8 (leAt inp (o + 8 + y) 1) }

/-- An encoder channel is invalid in a frame (R267). -/
def invalid (x : Reading) : Bool := x.pos == 0xFFFF || x.spd == 0x8000 || x.stat.getLsbD 3

/-- An encoder is implausible (R272): |dPOS x 0.1 mm - SPD x dSAMPLE x 10 µs| exceeds PLAUS_TOL; `prev` its latest fresh
reading, ds the sample distance. -/
def implausible (tol : Nat) (prev now : Reading) (ds : Nat) : Bool :=
  !invalid prev && !invalid now
    && decide (tol * 10000 < (((now.pos.toNat : Int) - prev.pos.toNat) * 10000 - now.spd.toInt * ds).natAbs)

/-- The two encoders agree within POS_TOL and SPD_TOL. -/
def within (e : DoorEntry) (x y : Reading) : Bool :=
  decide (((x.pos.toNat : Int) - y.pos.toNat).natAbs ≤ e.posTol) && decide ((x.spd.toInt - y.spd.toInt).natAbs ≤ e.spdTol)

/-- CL_LOCKED of a reading. -/
def clLocked (x : Reading) : Bool := x.stat.getLsbD 0

/-- What an evaluation sees (R271, R273, R285): the channel's ring time, the ring's age limit, whether the unit is
fresh, its node's input part, the output part sent, the platform condition, the staff confirmation, and whether PARAM or
GUARD holds. -/
structure DoorSight where
  now : Nat
  age : Nat
  fresh : Bool
  inp : List Byte
  out : List Byte
  pti : Bool
  staff : Bool
  param : Bool
  split : Bool

/-- The SDI condition of one encoder (R274): opening with the lock engaged, or while commanded closed. -/
def sdi (e : DoorEntry) (cmd : Nat) (base : Option Int) (x : Reading) : Bool :=
  (x.stat.getLsbD 1 && decide ((e.dirTol : Int) < x.spd.toInt))
    || (decide (cmd = 0) && decide ((base.getD 0) + e.dirTol < x.spd.toInt))

/-- The speed SDI adds to DIR_TOL during the grace (R274): none of an encoder whose lock is engaged at the change. -/
def graceBase (x : Reading) : Int := if x.stat.getLsbD 1 then 0 else x.spd.toInt

/-- SLS, SLP and SDI of one encoder in use (R274). -/
def encoderCauses (e : DoorEntry) (grant : Bool) (cmd : Nat) (base : Option Int) (seen : Bool) (prev x : Reading) : List Nat :=
  (if x.spd.toInt < 0 ∧ (e.spdLim : Int) < -x.spd.toInt then [1] else [])
    ++ (if e.win < x.pos.toNat ∧ grant = false
          ∧ ((e.dirTol : Int) < x.spd.toInt ∨ (seen ∧ prev.pos.toNat ≤ e.win)) then [2] else [])
    ++ (if sdi e cmd base x then [3] else [])

/-- The unit trips (R275): the lowest cause is recorded. -/
def tripUnit (causes : List Nat) (u : DoorChan) : DoorChan :=
  { u with state := .tripped, cause := causes.foldl min (causes.headD 0), quiet := none, trips := satAdd u.trips 1 0xFFFF
           proof := if u.proof = .openSeen then .unproven else u.proof }

/-- The unit becomes ISOLATED with a cause (R286, R287); leaving DEGRADED makes it UNPROVEN (R282). -/
def isolateUnit (cause : Nat) (u : DoorChan) : DoorChan :=
  { u with state := .isolated, cause := cause, proof := .unproven, quiet := none }

/-- Since when a condition has held without a break. -/
def since (now : Nat) (holds : Bool) (x : Option Nat) : Option Nat := if holds then some (x.getD now) else none

/-- The quiet interval (R279), and since when each thing asked throughout it has held (R280, R281). -/
def trackQuiet (now : Nat) (ok both one agree : Bool) (u : DoorChan) : DoorChan :=
  { u with quiet := since now ok u.quiet, both := since now both u.both, one := since now one u.one, agree := since now agree u.agree }

/-- Nothing has held for a time any more. -/
def breakQuiet (u : DoorChan) : DoorChan := { u with quiet := none, both := none, one := none, agree := none }

/-- The proof cycle (R283) in an evaluation of a fresh frame. -/
def proofStep (e : DoorEntry) (disc : Bool) (x y : Reading) (u : DoorChan) : DoorChan :=
  match u.proof with
  | .openSeen =>
    if disc then { u with proof := .unproven }
    else if x.pos.toNat ≤ e.closedTol ∧ y.pos.toNat ≤ e.closedTol ∧ clLocked x ∧ clLocked y then
      { u with proof := .proven, used := 0 }
    else u
  | .unproven =>
    if u.state = .supervised ∧ u.failX = false ∧ u.failY = false ∧ invalid x = false ∧ invalid y = false
        ∧ e.full * e.proofOpen ≤ x.pos.toNat * 100 ∧ e.full * e.proofOpen ≤ y.pos.toNat * 100 then
      { u with proof := .openSeen }
    else u
  | .proven => u

/-- The degraded time of a unit has reached DEG_MAX (R286). -/
def degSpent (e : DoorEntry) (u : DoorChan) : Bool := decide (e.degMax * 60000000000 ≤ u.used)

/-- The transitions an evaluation makes (R274, R280, R287); `causes` in table order; DEG_TIME goes before CONF. A cause that
holds breaks the quiet interval (R275). -/
def doorTransit (e : DoorEntry) (causes : List Nat) (u : DoorChan) : DoorChan :=
  match u.state with
  | .supervised => if causes.isEmpty then u else tripUnit causes u
  | .tripped => if causes.isEmpty then u else { u with quiet := none }
  | .degraded =>
    let own := causes.filter (fun c => c ≤ 3 || c == 5 || c == 6)
    let u := if causes.isEmpty then u else { u with quiet := none }
    if own.isEmpty then (if 2 ≤ u.confMiss then isolateUnit (if degSpent e u then 7 else 8) u else u) else tripUnit own { u with proof := .unproven }
  | .isolated => if causes.isEmpty then u else { u with quiet := none }

/-- One evaluation of a unit by a channel (R271 to R287): its new state, and the causes that hold. -/
def evalUnit (e : DoorEntry) (v : DoorSight) (u : DoorChan) : DoorChan × List Nat :=
  let o := doorOut e.ring e.addr e.unit
  let i := inputAt .door e.ring e.addr e.unit
  let cmd := leAt v.out o 1
  let flags : Byte := BitVec.ofNat 8 (leAt v.out (o + 1) 1)
  let grant := flags.getLsbD 0 && (e.pti.isNone || v.pti)
  let u : DoorChan := { u with
    grant := grant, conf := v.staff
    confMiss := (if u.state = DoorState.degraded ∧ v.staff = false then u.confMiss + 1 else 0)
    used := if u.state = DoorState.degraded then u.used + (v.now - u.degAt) else u.used
    degAt := v.now }
  let fixed := (if v.split then [9] else []) ++ (if v.param then [10] else [])
  if !v.fresh then
    let u : DoorChan := { u with
      stale := satAdd u.stale 1 15, disc := 0, quiet := none, both := none, one := none, agree := none, cmd := cmd
      grace := if u.cmd ≠ 0 ∧ cmd = 0 then some (v.now + e.dirGrace * 1000000, none) else u.grace
      proof := (if u.proof = Proof.openSeen then Proof.unproven else u.proof) }
    let causes := (if v.age ≤ u.stale then [6] else []) ++ fixed
    (doorTransit e causes u, causes)
  else
    let x := readingAt v.inp i 0
    let y := readingAt v.inp i 1
    let smp : W16 := BitVec.ofNat 16 (leAt v.inp (i + 10) 2)
    let ds := (smp - u.sample).toNat
    let ix := u.seen && implausible e.plausTol u.x x ds
    let iy := u.seen && implausible e.plausTol u.y y ds
    let u0 := u
    let implX := if ix && !invalid y && !iy then u.implX + 1 else 0
    let implY := if iy && !invalid x && !ix then u.implY + 1 else 0
    let nx := invalid x || decide (2 ≤ implX)
    let ny := invalid y || decide (2 ≤ implY)
    let channel := (nx && !u.failX) || (ny && !u.failY)
    let newGrace := decide (u.cmd ≠ 0) && decide (cmd = 0) && !(x.stat.getLsbD 1 && y.stat.getLsbD 1)
    let bases := (graceBase x, graceBase y)
    let grace := if newGrace then some (v.now + e.dirGrace * 1000000, some bases)
      else match u.grace with
        | some (t, none) => some (t, some bases)
        | g => g
    let base := match grace with
      | some (t, some b) => if v.now < t then some b else none
      | _ => none
    let useX := !(u.failX || nx)
    let useY := !(u.failY || ny)
    let apart := useX && useY && (!within e x y || clLocked x != clLocked y)
    let disc := if apart then u.disc + 1 else 0
    let safe := (v.inp.headD 0).getLsbD 0
    let causes :=
      ((if useX then encoderCauses e grant cmd (base.map Prod.fst) u0.seen u0.x x else [])
        ++ (if useY then encoderCauses e grant cmd (base.map Prod.snd) u0.seen u0.y y else [])).eraseDups
      ++ (if e.disc ≤ disc then [4] else []) ++ (if channel then [5] else []) ++ fixed
    let u : DoorChan := { u with
      x := x, y := y, sample := smp, seen := true, implX := implX, implY := implY, stale := 0, disc := disc, cmd := cmd
      grace := grace, failX := u.failX || nx, failY := u.failY || ny
      proof := (if safe then Proof.unproven else u.proof) }
    let slow := (!useX || decide (x.spd.toInt.natAbs ≤ e.dirTol)) && (!useY || decide (y.spd.toInt.natAbs ≤ e.dirTol))
    let quietOk := decide (cmd = 0) && !flags.getLsbD 1 && slow
    let bothOk := !invalid x && !invalid y && !ix && !iy && within e x y
    let oneOk := (u.failX != u.failY) && (if u.failX then !invalid y else !invalid x)
    let u := trackQuiet v.now quietOk bothOk oneOk (!v.split) u
    let was := u.state
    let u := doorTransit e causes u
    (if was = .supervised ∧ u.state = .supervised ∧ safe = false then proofStep e apart x y u else u, causes)

/-- TRIP_c of a node (R240, R276): the bits of its units that channel c holds TRIPPED or ISOLATED. -/
def tripByte (d : Door) (c : Nat) (r : Ring) (addr : Nat) : Byte :=
  ((ringUnits d r).filter (fun e => e.addr = addr)).foldl (fun b e =>
    let u := chanOf d c e.gunit
    putBit b e.unit (u.state == .tripped || u.state == .isolated)) 0

/-- A node serves at least one door unit (R237). -/
def servesDoor (d : Door) (r : Ring) (addr : Nat) : Bool := (ringUnits d r).any (fun e => e.addr = addr)

/-- The trip record of a node in a frame (R240, R244). -/
def tripRecord (d : Door) (r : Ring) (addr : Nat) (oseq epoch : W32) : List Byte :=
  let x := tripByte d 0 r addr
  let y := tripByte d 1 r addr
  [x, y, 0, 0] ++ leBytes 4 (gchk 0 r.val addr oseq epoch x).toNat ++ leBytes 4 (gchk 1 r.val addr oseq epoch y).toNat

/-- A status bit of a unit for the input image: the OR of the channels (R266). -/
def doorBit (p : DoorChan → Bool) (d : Door) (g : Nat) : Bool :=
  (doorEntry d g).isSome && (p (chanOf d 0 g) || p (chanOf d 1 g))

/-- A status word: units 64 i to 64 i + 63. -/
def doorWord (p : DoorChan → Bool) (d : Door) (i : Nat) : W64 :=
  (d.table.filter (fun e => !e.retired && e.gunit / 64 = i)).foldl (fun w e => putBit w (e.gunit % 64) (doorBit p d e.gunit)) 0

/-- Words 0x1220 to 0x1237 (R266). -/
def doorWords (d : Door) : List W64 :=
  (List.range 8).map (doorWord (fun u => u.state == .tripped || u.state == .isolated) d)
    ++ (List.range 8).map (doorWord (fun u => u.proof != .proven) d)
    ++ (List.range 8).map (doorWord (fun u => u.state == .degraded || u.state == .isolated) d)

/-- DoorState as coded in DG_UNIT (R293). -/
def DoorState.code : DoorState → Nat
  | .supervised => 0
  | .tripped => 1
  | .degraded => 2
  | .isolated => 3

/-- Proof as coded in DG_UNIT. -/
def Proof.code : Proof → Nat
  | .unproven => 0
  | .openSeen => 1
  | .proven => 2

/-- What a GUARD record says of a unit (R292), as channel X holds it. -/
def guardUnit (d : Door) (k : Keep) (g : Nat) : GuardUnit :=
  let u := chanOf d 0 g
  { unit := g, state := u.state.code, proof := u.proof.code, failX := u.failX, failY := u.failY, cause := u.cause
    used := u.used, isolated := k.isolated.contains g, posX := u.x.pos, posY := u.y.pos, spdX := u.x.spd, spdY := u.y.spd
    statX := u.x.stat, statY := u.y.stat, sample := u.sample, seen := u.seen }

/-- What follows a unit's change of state (R276, R286, R288): counts, cells, sources and the keep records. -/
def doorEvents (g : Nat) (causes : List Nat) (x0 y0 x1 y1 : DoorChan) (s : State) : State :=
  let enters := fun (st : DoorState) => (x1.state == st && x0.state != st) || (y1.state == st && y0.state != st)
  let leaves := fun (st : DoorState) => x0.state == st && x1.state != st
  let s := if enters .tripped then
      let d := s.door
      let s := markIf (causes.contains 9) (flagKey 0x100004 8) { s with
        door := { d with trips := satAdd d.trips 1 0xFFFF, gfault := d.gfault || causes.contains 9 } }
      record 0 .doorTrip (g :: causes) s
    else s
  let s := if leaves .tripped then { s with door := { s.door with cleared := satAdd s.door.cleared 1 0xFFFF } } else s
  let s := if enters .degraded then fire 40 (record 0 .doorDegraded [g] s) else s
  let s := if enters .isolated then
      fire 41 (record 0 .doorIsolated [g, x1.cause]
        { s with keep := { s.keep with isolated := if s.keep.isolated.contains g then s.keep.isolated else g :: s.keep.isolated } })
    else s
  if x1.used ≠ x0.used then { s with keep := { s.keep with degUsed := tabSet 0 s.keep.degUsed g x1.used } } else s

/-- Both channels of a unit take new states, with what follows. -/
def updUnit (g : Nat) (causes : List Nat) (x1 y1 : DoorChan) (s : State) : State :=
  let x0 := chanOf s.door 0 g
  let y0 := chanOf s.door 1 g
  doorEvents g causes x0 y0 x1 y1 { s with door := putChan 1 g y1 (putChan 0 g x1 s.door) }

/-- Whether a section has been fresh within the latest `a` frames, and its latest fresh input part. -/
def latestPart (s : State) (r : Ring) (addr a : Nat) : Option (List Byte) :=
  match kvGet (s.ring.at r).nodes addr with
  | some n => if n.ever && decide (n.age < a) then some n.inp else none
  | none => none

/-- The age limit A of a ring (R250). -/
def ageLimit (s : State) (r : Ring) : Nat := (s.set.block.map (fun b => b.ages.at r)).getD 0

/-- The platform condition of a unit (R273): STOPPED and ALIGNED. -/
def ptiHeld (s : State) (e : DoorEntry) : Bool :=
  match e.pti with
  | none => true
  | some (r, addr, unit) =>
    match latestPart s r addr (ageLimit s r) with
    | some inp => decide (leAt inp (inputAt .pti r addr unit) 1 % 4 = 3)
    | none => false

/-- A lane's evaluation of a local vital input: closed and tested (R171). -/
def vinClosed (s : State) (l : Lane) (i : Nat) : Bool := ((s.vin.ev.at l).getD i {}).closed

/-- The staff confirmation of a unit as a channel's lane sees it (R285). -/
def staffHeld (s : State) (l : Lane) (e : DoorEntry) : Bool :=
  match e.staff with
  | none => false
  | some (.vin i) => vinClosed s l i
  | some (.panel r addr b) =>
    match latestPart s r addr (ageLimit s r) with
    | some inp => (BitVec.ofNat 64 (leAt inp (inputAt .panel r addr 0) 8)).getLsbD b
    | none => false

/-- What a channel sees of a unit. -/
def doorSight (s : State) (l : Lane) (e : DoorEntry) : DoorSight :=
  let p := s.ring.at e.ring
  let n := (kvGet p.nodes e.addr).getD {}
  let out := ((p.sent.bind (fun f => f.secs.find? (fun x => x.addr.toNat = e.addr))).map (fun x => x.out)).getD []
  { now := ringTime s l, age := ageLimit s e.ring, fresh := n.ever && decide (n.age = 0), inp := n.inp, out := out
    pti := ptiHeld s e, staff := staffHeld s l e, param := doorParam s.door e.ring, split := s.door.split.contains e.gunit }

/-- The channels hold a unit differently (R274 GUARD). -/
def unitSplit (x y : DoorChan) : Bool :=
  x.state != y.state || x.proof != y.proof || x.failX != y.failX || x.failY != y.failY

/-- Both channels evaluate a unit (R271). -/
def evalBoth (lx ly : Lane) (e : DoorEntry) (s : State) : State :=
  let rx := evalUnit e (doorSight s lx e) (chanOf s.door 0 e.gunit)
  let ry := evalUnit (entryY s.door e) (doorSight s ly (entryY s.door e)) (chanOf s.door 1 e.gunit)
  let s := updUnit e.gunit (rx.2 ++ ry.2).eraseDups rx.1 ry.1 s
  let g := e.gunit
  { s with door := { s.door with
      split := if unitSplit rx.1 ry.1 then (if s.door.split.contains g then s.door.split else g :: s.door.split)
               else s.door.split.erase g } }

/-- A unit as a reset of the door guard or a takeover leaves it (R291, R292); its trips count since the reset (R293). -/
def freshUnit (s : State) (now : Nat) (e : DoorEntry) : Nat × DoorChan :=
  (e.gunit, { state := if s.keep.isolated.contains e.gunit then .isolated else .supervised
              used := tabGet 0 s.keep.degUsed e.gunit, degAt := now, trips := (chanOf s.door 0 e.gunit).trips })

/-- The door guard starts afresh (R291, R292). -/
def doorStart (s : State) : State :=
  let us := (s.door.table.filter (fun e => !e.retired)).foldl (fun l e =>
    let x := freshUnit s (ringNow s) e
    kvPut l x.1 x.2) []
  { s with door := { s.door with cx := us, cy := us, split := [] } }

/-- The door guard of a ring evaluates every unit (R265, R271): while the module holds the crown,
and once more before B(h + 1) after handing it over (R313). -/
def evalDoors (r : Ring) (s : State) : State :=
  if !(crowned s || s.crown.finalLatch) then s else
  match viewLanes s with
  | lx :: ly :: _ =>
    let us := ringUnits s.door r
    let s := us.foldl (fun s e => evalBoth lx ly e s) s
    let s := if (s.test.once.filter (fun i => i.point == 0x0702 && i.arg == r.val)).isSome then
        spendOnce 0x0702 { s with door := { s.door with sumX := s.door.sumX.put r (doorCheck 0 r s.door.table) } }
      else s
    if us.isEmpty then s else send (.guard (us.map (fun e => guardUnit s.door s.keep e.gunit))) s
  | _ => s

end Sys2Proof.Machine
end

