-- ==== Sys2Proof/Machine/Operands.lean ====
section
/-! DEFINITION. The operand forms of the logic engine (R53 to R57, R60): an instruction word's fields, where an operand
lies, and how its bits are read and written under the column mask. -/
namespace Sys2Proof.Machine

/-- Splits an instruction word into the fields of R60. -/
def vword (w : W64) : VWord :=
  { verb := w.extractLsb' 58 6, p := w.getLsbD 57, space := w.extractLsb' 55 2
    addr := w.extractLsb' 32 23, op2 := w.extractLsb' 0 32 }

/-- The word of the fields (R60): VERB x 2^58 + P x 2^57 + SPACE x 2^55 + ADDR x 2^32 + OP2. -/
def vwordEncode (v : VWord) : W64 :=
  ((((v.verb ++ BitVec.ofBool v.p) ++ v.space) ++ v.addr) ++ v.op2).setWidth 64

/-- The operand lies in the timer half of the timer and edge bank (R55). -/
def timerHalf (v : VWord) : Bool := v.space == 3#2 && !v.addr.getLsbD 22

/-- The operand lies in the edge half of the timer and edge bank (R55). -/
def edgeHalf (v : VWord) : Bool := v.space == 3#2 && v.addr.getLsbD 22

/-- Bits [21:0] of the operand address. -/
def lowAddr (v : VWord) : Nat := (v.addr.extractLsb' 0 22).toNat

/-- The operand address lies in the range of its space and form (R53, R55). -/
def inRange (v : VWord) : Bool :=
  let a := v.addr.toNat
  if v.space = 0#2 then !v.p || decide (a ≤ 0x3FFFF)
  else if v.space = 1#2 then decide (a ≤ if v.p then 0x123F else 0x48FFF)
  else if v.space = 2#2 then decide (a ≤ if v.p then 0xFFF else 0x3FFFF)
  else if edgeHalf v then !v.p || decide (lowAddr v ≤ 0x3FFFF)
  else decide (lowAddr v ≤ 0xFFFF) && (!v.p || decide (lowAddr v % 64 = 0))

/-- The word of a bit or word operand outside the timer half: its store location and, for a singular form, the bit. -/
def operandWord (v : VWord) : StoreLoc :=
  let w := if v.p then lowAddr v else lowAddr v / 64
  let a := if v.p then v.addr.toNat else v.addr.toNat / 64
  if v.space = 0#2 then .noun a
  else if v.space = 1#2 then .inp a
  else if v.space = 2#2 then .out a
  else .noun w

/-- The bit position of a singular operand in its word. -/
def operandBit (v : VWord) : Nat := v.addr.toNat % 64

/-- Reads a word of a store. -/
def readLoc (st : Stores) : StoreLoc → W64
  | .noun w => tabGet 0 st.noun w
  | .inp w => tabGet 0 st.inp w
  | .out w => tabGet 0 st.out w
  | _ => 0

/-- Writes a word of a store; only noun and output words are written by a verb. -/
def writeLoc (st : Stores) (x : StoreLoc) (v : W64) : Stores :=
  match x with
  | .noun w => { st with noun := tabSet 0 st.noun w v }
  | .out w => { st with out := tabSet 0 st.out w v }
  | _ => st

/-- A timer cell's fields from its word (R68). -/
def timerCell (x : W32) : TimerCell :=
  { base := x.extractLsb' 30 2, q := x.getLsbD 29, run := x.getLsbD 28, ret := x.getLsbD 27, last := x.getLsbD 26
    count := x.extractLsb' 0 26 }

/-- A timer cell's word from its fields (R68). -/
def timerWord (c : TimerCell) : W32 :=
  ((c.base ++ BitVec.ofBool c.q) ++ BitVec.ofBool c.run ++ BitVec.ofBool c.ret ++ BitVec.ofBool c.last ++ c.count).setWidth 32

/-- The timer cell at an index. -/
def readTimer (st : Stores) (c : Nat) : TimerCell := timerCell (tabGet 0 st.timer c)

/-- Writes a timer cell. -/
def writeTimer (st : Stores) (c : Nat) (x : TimerCell) : Stores :=
  { st with timer := tabSet 0 st.timer c (timerWord x) }

/-- The Q bits of n cells from cell c on, cell c + j at bit j + k. -/
def timerQs (st : Stores) (c k : Nat) : Nat → W64
  | 0 => 0
  | n + 1 => putBit (timerQs st (c + 1) (k + 1) n) k (readTimer st c).q

/-- The operand as a verb sees it (R53, R55): in column 0 for a singular form, in every column for a plural form. -/
def operand (st : Stores) (v : VWord) : W64 :=
  if timerHalf v then
    (if v.p then timerQs st (lowAddr v) 0 64 else fill (readTimer st (lowAddr v)).q)
  else
    let w := readLoc st (operandWord v)
    if v.p then w else fill (w.getLsbD (operandBit v))

/-- The columns a verb acts on (R49, R50). -/
def columns (e : Engine) (v : VWord) : W64 := if v.p then e.cmask else 1

/-- ACC with its acted-on columns taken from x (R49, R50). -/
def setAcc (e : Engine) (v : VWord) (x : W64) : Engine := { e with acc := merge (columns e v) e.acc x }

/-- The operand word after a bit store (R65): f gives the new bits from ACC and the old bits; a singular form touches
one bit of the word, a plural form the enabled columns. -/
def storeBits (w : Work) (v : VWord) (f : W64 → W64 → W64) : Work :=
  let x := operandWord v
  let old := readLoc w.st x
  let m : W64 := if v.p then w.eng.cmask else 1#64 <<< operandBit v
  let a : W64 := if v.p then w.eng.acc else fill (w.eng.acc.getLsbD 0)
  { w with st := writeLoc w.st x (merge m old (f a old)) }

/-- OP2 sign-extended to 64 bits (R76). -/
def imm (v : VWord) : W64 := v.op2.signExtend 64

/-- A signed result held between -2^63 and 2^63 - 1 (R76). -/
def saturate (x : Int) : W64 := BitVec.ofInt 64 (max (-2 ^ 63) (min (2 ^ 63 - 1) x))

/-- The number of ones of a word, over its lowest n bits. -/
def popCount (x : W64) : Nat → Nat
  | 0 => 0
  | n + 1 => (x.getLsbD n).toNat + popCount x n

end Sys2Proof.Machine
end

