-- ==== Sys2Proof/Machine/Restart.lean ====
section
/-! DEFINITION. Cold and warm restarts of the program (R122 to R129). -/
namespace Sys2Proof.Machine

/-- A lane's verified retentive copies (R125). -/
def copiesOf (s : State) (l : Lane) : List RetCopy :=
  (slotCopy s l false).toList ++ (slotCopy s l true).toList

/-- The lanes a restart starts: ready in STARTING (R124). -/
def startLanes (s : State) : List Lane := lanes.filter (fun l => lstate s l == .starting && (laneOf s l).ready)

/-- PROGRAM_ID of the active bank. -/
def programId (s : State) : W64 := ((moduleProg s).map (fun p => p.id)).getD 0

/-- The cycles for which at least two starting lanes hold a verified copy that satisfies p. -/
def sharedCycles (s : State) (p : RetCopy → Bool) : List W32 :=
  let holds := fun (m : W32) (l : Lane) => (copiesOf s l).any (fun c => c.cycle == m && p c)
  ((startLanes s).flatMap (fun l => (copiesOf s l).map (fun c => c.cycle))).filter
    (fun m => decide (2 ≤ ((startLanes s).filter (holds m)).length))

/-- The newest of a list of cycles (R11). -/
def newestCycle : List W32 → Option W32
  | [] => none
  | m :: ms =>
    match newestCycle ms with
    | some x => some (if cycleBefore m x then x else m)
    | none => some m

/-- What a warm restart resumes, or the reason of WARM_FAIL (R126). -/
def warmChoice (s : State) : Except Nat W32 :=
  if s.rst.cur ≠ 7 ∨ s.rst.dram = false then .error 1
  else
    match newestCycle (sharedCycles s (fun c => c.progId == programId s)) with
    | some m => .ok m
    | none => .error (if (sharedCycles s (fun _ => true)).isEmpty then 2 else 3)

/-- A lane's stores after a cold restart (R123). -/
def coldStores (p : Program) : Stores :=
  { noun := tabFilter (fun k => decide (k < p.nounTop)) p.nounImg, timer := p.timerImg, out := p.safe }

/-- A timer cell of a warm restart (R123): Q, RUN, LAST and COUNT from the copy, BASE and RET from the image. -/
def warmCell (img copy : W32) : W32 :=
  let i := timerCell img
  let c := timerCell copy
  timerWord { i with q := c.q, run := c.run, last := c.last, count := c.count }

/-- A lane's stores after a warm restart from its copy (R123). -/
def warmStores (p : Program) (c : RetCopy) : Stores :=
  let inRet := fun k => decide (p.retStart ≤ k) && decide (k < p.retStart + p.retLen)
  let st := coldStores p
  { st with
    noun := tabOver 0 (tabFilter (fun k => !inRet k) st.noun) (tabFilter inRet c.noun)
    timer := p.timerImg.foldl (fun t e =>
      if (timerCell e.2).ret then tabSet 0 t e.1 (warmCell e.2 (tabGet 0 c.timer e.1)) else t) p.timerImg }

/-- A lane's engine and stores begin a restart (R123). -/
def beginLane (st : Stores) (l : Lane) (s : State) : State :=
  { s with
    eng := s.eng.put l {}
    st := s.st.put l st
    lane := s.lane.upd l (fun r => { r with primes := [], skipConsec := 0 }) }

/-- One starting lane's stores at a restart: cold, or warm from its copy of cycle m, or excluded (R127). -/
def restartLane (warm : Option W32) (l : Lane) (s : State) : State :=
  let p := (activeProg s l).getD {}
  match warm with
  | none => beginLane (coldStores p) l s
  | some m =>
    match (copiesOf s l).find? (fun c => c.cycle == m && c.progId == programId s) with
    | some c => beginLane (warmStores p c) l s
    | none => setLState l .excluded (updLane l (fun r => { r with resetDue := true, ready := false }) s)

/-- The program restarts, cold or warm (R123 to R127, R318); its first cycle begins at or after `firstAt`. -/
def startProgram (firstAt : Nat) (s : State) : State :=
  let choice := warmChoice s
  let warm := match choice with
    | .ok m => some m
    | .error _ => none
  let why := match choice with
    | .ok _ => 0
    | .error e => e
  let s := (startLanes s).foldl (fun s l => restartLane warm l s) s
  let n := s.keep.lastCommit.getD 0
  let safe := ((moduleProg s).map (fun p => p.safe)).getD []
  let s := { s with
    cyc := { s.cyc with
      on := true, n := n, b := 0, bPrev := 0, firstAt := firstAt, first := if warm.isSome then .warm else .cold
      ebZero := true, phase := .idle, img := safe, imgFault := 0, imgCycle := n, restartCommit := true
      prevSkipped := false, safeStop := false, atEnd := ⟨false, false, false⟩, skipping := ⟨false, false, false⟩
      res := none, takeover := false }
    glb := { s.glb with restartType := if warm.isSome then 2 else 1, warmFail := why, restartCycle := n + 1, skipConsec := 0 } }
  recordIf (decide (why ≠ 0)) 0 .restartCold [why] s

end Sys2Proof.Machine
end

