-- ==== Sys2Proof/Machine/RingOps.lean ====
section
/-! DEFINITION. What a ring port originates at a boundary: roles, guardian channels, CYCLE, CLAIM and TEST frames, dual
transmission, and entering CROWNED (R191 to R219, R228, R229, R311, R312). -/
namespace Sys2Proof.Machine

/-- Changes one ring port. -/
def updRing (r : Ring) (f : RingPort → RingPort) (s : State) : State := { s with ring := s.ring.upd r f }

/-- The roles of a ring port (R191 to R193, RINGn_STAT.ROLE): originating without the crown, master, standby,
repeat-through. The module that hands the crown over stays master, with its origination closed, until B(h + 1) (R313). -/
inductive Role where
  | origin | master | standby | through
deriving DecidableEq, Repr

/-- A port's role now. A crowned module that has yet to win the ring goes on as the candidate it is there (R311). -/
def roleOf (s : State) (r : Ring) : Role :=
  let p := s.ring.at r
  if !inUse s r || s.crown.state == .off then .through
  else if p.testOn || p.claim.state == .claiming then .origin
  else if (crowned s || s.crown.finalLatch) && !p.toWin then .master
  else .standby

/-- What the transmitter of pair p sends between frames (R178, R193, R196, R201, R497): link fault towards a station that
its other receiver has lost; in repeat-through what comes in on its own pair, and nothing while that receiver is out of
sync. -/
def lineOut (s : State) (r : Ring) (p : Pair) : LineSet :=
  let x := s.ring.at r
  let own := if p = .fwd then (x.syncF, x.faultF) else (x.syncB, x.faultB)
  let other := if p = .fwd then x.syncB else x.syncF
  if x.silent then .silent
  else if s.test.looped.at r then .linkFault
  else if roleOf s r = .through then (if !own.1 then .silent else if own.2 then .linkFault else .repeated)
  else if other then .idle else .linkFault

/-- Ports 2 and 3 are not in use in SWIFT: their registers read as after reset and take no writes (R42). -/
def swiftIdle (s : State) (r : Ring) : Bool := s.glb.valid && s.glb.profile == 1 && decide (2 ≤ r.val)

/-- Invalid code groups on a receiver are counted (R209). -/
def countInvalid (r : Ring) (p : Pair) (n : Nat) (s : State) : State :=
  updRing r (fun x => if p = .fwd then { x with cvF := satAdd x.cvF n 0xFFFF } else { x with cvB := satAdd x.cvB n 0xFFFF }) s

/-- A standby port wraps: the side of pair p is broken (R196). A master does not wrap, nor a port in repeat-through. -/
def wrapPort (r : Ring) (p : Pair) (s : State) : State :=
  if roleOf s r = .standby then updRing r (fun x => { x with wrapped := some p, healReady := false }) s else s

/-- A port that becomes a standby's with one side broken wraps there (R196). -/
def wrapIfBroken (s : State) (r : Ring) : State :=
  let p := s.ring.at r
  let f := !p.syncF || p.faultF
  let b := !p.syncB || p.faultB
  if p.wrapped.isSome ∨ f = b then s else wrapPort r (if f then .fwd else .bwd) s

/-- The ring cycle of test mode (R206, RINGn_CFG.CYCLE coding). -/
def testCycleNs (c : Nat) : Nat := 125000 * 2 ^ (min c 6)

/-- The cycle whose boundaries a port originates at. -/
def ringCycle (s : State) (r : Ring) : Nat :=
  if (s.ring.at r).testOn then testCycleNs (s.ring.at r).testCycle else tRing s

/-- The boundary a ring time lies within 1.5 µs of (R218). -/
def nearBoundary (cycle x : Nat) : Option Nat :=
  if cycle = 0 then none else
  let b := (x + cycle / 2) / cycle * cycle
  if ((x : Int) - b).natAbs ≤ 1500 then some b else none

/-- One guardian channel's decision to originate (R218): the boundary, when its window is open. -/
def channelOpen (s : State) (r : Ring) (l : Lane) : Option Nat :=
  let x := ringTime s l
  match nearBoundary (ringCycle s r) x with
  | none => none
  | some b =>
    match roleOf s r with
    | .master => if leaseValid s x && leaseValid s b then some b else none
    | .origin => some b
    | _ => none

/-- Both channels decide about origination (R218, R226): the boundary when both are open for it; different decisions
are a GUARDIAN fault. -/
def decideOrigin (r : Ring) (s : State) : State × Option Nat :=
  match viewLanes s with
  | x :: y :: _ =>
    let g1 := channelOpen s r x
    let g2 := channelOpen s r y
    let s := updRing r (fun p => { p with g1 := g1.isSome, g2 := g2.isSome }) s
    if g1 = g2 then (s, g1) else (guardianFault r s, none)
  | _ => (updRing r (fun p => { p with g1 := false, g2 := false }) s, none)

/-! ### Frames -/

/-- T_bytes of a table in ns (R206). -/
def bytesNs (tbl : List SecEntry) : Nat := frameLen tbl * 16 / 5

/-- T_round,wrap in ns (R207) with a cable delay for the loop. -/
def wrapRound (tbl : List SecEntry) (cableNs : Nat) : Nat := bytesNs tbl + 2 * (tbl.length + 1) * 96 + 2 * cableNs + 400

/-- How many ranked backups the time master has (R211). -/
def backups (s : State) : Nat := min 3 ((lanes.filter (inService s)).length - 1 + b2n s.crown.partnerLocked)

/-- TM_RANK of a beacon (R217). -/
def tmRank (s : State) : Byte :=
  let l := s.tb.tm.getD (((lanes.filter (inService s)).head?).getD .a)
  BitVec.ofNat 8 (l.num + 4 * backups s)

/-- TM_FLAGS of a beacon (R217). -/
def tmFlags (s : State) : Byte :=
  BitVec.ofNat 8 (b2n s.tb.stepBeacon + 2 * b2n s.tb.handBeacon + 4 * b2n s.crown.partnerLocked)

/-- floor(RING_TIME / T_ring) (R217, R241). -/
def seqAt (s : State) (b : Nat) : Nat := b / tRing s

/-- A node's output part in a frame (R237, R240): with its trip record, or for sealing with the record zeroed. -/
def nodePart (s : State) (r : Ring) (e : SecEntry) (oseq epoch : W32) (trip : Bool) : List Byte :=
  let pid := s.wp.prog
  let t := if servesDoor s.door r e.addr then
      (if trip then tripRecord s.door r e.addr oseq epoch else List.replicate 12 0)
    else []
  padTo e.olen ([Config.layout pid r.val e.addr, 0] ++ t ++ outputRecords pid r e.addr s.wp.img)

/-- One lane's seal of a node's part (R118, R243): a lane that does not seal leaves a value nothing defines. -/
def laneSeal (s : State) (r : Ring) (e : SecEntry) (oseq : W32) (l : Lane) : W32 :=
  if s.wp.seals.at l then
    let jt := match kvGet (s.wp.tags.at l) (nodeKey r e.addr) with
      | some tag => (1, tag.toNat)
      | none => (0, 0)
    sealOf l r.val e.addr e.olen oseq s.wp.epoch jt.1 jt.2 (nodePart s r e oseq s.wp.epoch false)
  else Config.absentSeal s.free r.val e.addr l.num

/-- The input block the master sends of a section (R189): the copy it last took as fresh, else zeros. -/
def echoBlock (c : NodeCnt) (ilen : Nat) (x : Sec) : Sec :=
  if c.ever then { x with fresh := c.fresh, iseq := c.iseq, inp := c.inp, chk1 := c.chk1, chk2 := c.chk2 }
  else { x with fresh := 0, iseq := 0, inp := List.replicate ilen 0, chk1 := 0, chk2 := 0 }

/-- What the master keeps of a section. -/
def nodeCnt (p : RingPort) (addr : Nat) : NodeCnt := (kvGet p.nodes addr).getD {}

/-- SEC_STATE (R183): LOST when at least two lanes in VOTING state hold NODE_LOST for the node. -/
def secState (s : State) (r : Ring) (addr : Nat) : Byte :=
  if 2 ≤ ((voters s).filter (fun l => (viewOf (s.tg.at l) (nodeKey r addr)).lost)).length then 1 else 0

/-- A field node's section (R183, R237, R243). -/
def nodeSec (s : State) (r : Ring) (b : Nat) (e : SecEntry) : Sec :=
  let oseq : W32 := BitVec.ofNat 32 (seqAt s b)
  echoBlock (nodeCnt (s.ring.at r) e.addr) e.ilen
    { addr := BitVec.ofNat 8 e.addr, olen := BitVec.ofNat 8 e.olen, ilen := BitVec.ofNat 8 e.ilen
      state := secState s r e.addr, out := nodePart s r e oseq s.crown.epoch true, oseq := oseq
      seals := ⟨laneSeal s r e oseq .a, laneSeal s r e oseq .b, laneSeal s r e oseq .c⟩
      fresh := 0, iseq := 0, inp := [], chk1 := 0, chk2 := 0 }

/-- The output part of section 255 (R319). -/
def standbyPart (s : State) : List Byte :=
  [BitVec.ofNat 8 (b2n (renews s) + 2 * b2n (s.vote.mode == .halted) + 4 * b2n s.crown.ho.isSome)
  , BitVec.ofNat 8 (leaseNs s / 1000000), 0, 0] ++ leBytes 4 s.crown.tAck

/-- Section 255 of a CYCLE frame (R184, R319): its seals are made by the lanes in service; an armed wrong seal of R509
shows here first. -/
def standbySec (s : State) (r : Ring) (b : Nat) : Sec :=
  let oseq : W32 := BitVec.ofNat 32 (seqAt s b)
  let out := standbyPart s
  let mk := fun l =>
    if inService s l then
      let x := sealOf l r.val 255 8 oseq s.crown.epoch 0 0 out
      if s.test.sealWrong.at l then ~~~x else x
    else Config.absentSeal s.free r.val 255 l.num
  echoBlock (nodeCnt (s.ring.at r) 255) 40
    { addr := 255, olen := 8, ilen := 40, state := 0, out := out, oseq := oseq, seals := ⟨mk .a, mk .b, mk .c⟩
      fresh := 0, iseq := 0, inp := [], chk1 := 0, chk2 := 0 }

/-- A section of a HELD frame (R118, R242): the output block sent last, its trip record that of now, and the echo. -/
def heldSec (s : State) (r : Ring) (x : Sec) : Sec :=
  let a := x.addr.toNat
  let out := if servesDoor s.door r a then
      x.out.take 2 ++ tripRecord s.door r a x.oseq s.crown.epoch ++ x.out.drop 14
    else x.out
  echoBlock (nodeCnt (s.ring.at r) a) x.ilen.toNat { x with out := out, state := if a = 255 then 0 else secState s r a }

/-- The sections of a CYCLE frame: a HELD frame repeats those of the port's latest frame. -/
def cycleSecs (s : State) (r : Ring) (b : Nat) : List Sec :=
  match s.wp.held, (s.ring.at r).sent with
  | true, some f => f.secs.map (heldSec s r)
  | _, _ => standbySec s r b :: (s.ring.at r).table.map (nodeSec s r b)

/-- FLAGS of a CYCLE frame on a pair (R182). -/
def cycleFlags (s : State) (p : RingPort) (heal : Bool) (pr : Pair) : Byte :=
  BitVec.ofNat 8 (2 * b2n (pr == .bwd) + 4 * b2n s.wp.held + 8 * b2n heal + 16 * b2n p.dual)

/-- A CYCLE frame (R181 to R185). -/
def cycleFrame (s : State) (r : Ring) (b : Nat) (heal : Bool) (pr : Pair) : Frame :=
  let secs := cycleSecs s r b
  let h : Hdr :=
    { ftype := ftCycle, flags := cycleFlags s (s.ring.at r) heal pr, secCount := BitVec.ofNat 16 secs.length
      cycle := s.wp.cycle, epoch := s.crown.epoch, ringTime := BitVec.ofNat 64 b, masterId := s.fuse.rank
      tmRank := tmRank s, tmFlags := tmFlags s, beaconSeq := BitVec.ofNat 16 (seqAt s b), check := 0 }
  sealTrl r { hdr := sealHdr r h, secs := secs, claim := none, trl := { hops := 0, wrap := 0, flags := 0, check := 0 } }

/-- A TEST frame (R206): EPOCH 0, CYCLE 0, every output part and seal 0; its beacon counts the test mode's ring cycles
(R217). -/
def testFrame (s : State) (r : Ring) (b : Nat) : Frame :=
  let p := s.ring.at r
  let mk := fun (a o i : Nat) => echoBlock (nodeCnt p a) i
    { addr := BitVec.ofNat 8 a, olen := BitVec.ofNat 8 o, ilen := BitVec.ofNat 8 i, state := 0
      out := List.replicate o 0, oseq := BitVec.ofNat 32 (b / ringCycle s r), seals := ⟨0, 0, 0⟩
      fresh := 0, iseq := 0, inp := [], chk1 := 0, chk2 := 0 }
  let secs := mk 255 8 40 :: p.table.map (fun e => mk e.addr e.olen e.ilen)
  let h : Hdr :=
    { ftype := ftTest, flags := 0, secCount := BitVec.ofNat 16 secs.length, cycle := 0, epoch := 0
      ringTime := BitVec.ofNat 64 b, masterId := s.fuse.rank, tmRank := tmRank s, tmFlags := tmFlags s
      beaconSeq := BitVec.ofNat 16 (b / ringCycle s r), check := 0 }
  sealTrl r { hdr := sealHdr r h, secs := secs, claim := none, trl := { hops := 0, wrap := 0, flags := 0, check := 0 } }

/-- A CLAIM frame (R229). -/
def claimFrame (s : State) (r : Ring) (b : Nat) (c : ClaimBody) (pr : Pair) : Frame :=
  let h : Hdr :=
    { ftype := ftClaim, flags := if pr = .bwd then 2 else 0, secCount := 1, cycle := 0, epoch := s.crown.epoch
      ringTime := BitVec.ofNat 64 b, masterId := s.fuse.rank, tmRank := 0, tmFlags := 0, beaconSeq := 0, check := 0 }
  sealTrl r { hdr := sealHdr r h, secs := [], claim := some c, trl := { hops := 0, wrap := 0, flags := 0, check := 0 } }

/-- The frame carries a renewal: RENEW in section 255 (R299). -/
def carriesRenew (f : Frame) : Bool :=
  match f.secs.find? (fun x => x.addr == 255) with
  | some x => (x.out.headD 0).getLsbD 0
  | none => false

/-! ### Boundaries -/

/-- A change into or out of dual transmission (R202). -/
def noteWrap (r : Ring) (into : Bool) (s : State) : State :=
  let p := s.ring.at r
  fire (16 + 4 * r.val) (record 0 .ringWrap
    [r.val, p.wrapF.toNat, p.wrapB.toNat, (s.keep.lastCommit.getD 0).toNat, b2n into] s)

/-- The master enters dual transmission (R198, R202). -/
def enterDual (r : Ring) (s : State) : State :=
  noteWrap r true (updRing r (fun p => { p with
    dual := true, dualPend := false, wrapCount := satAdd p.wrapCount 1 0xFFFF, healSince := none, heal := false
    healSent := false, cleanRun := 0 }) s)

/-- The dual-transmission changes due at a boundary (R198, R201). -/
def settleDual (r : Ring) (s : State) : State :=
  let p := s.ring.at r
  if p.dual then
    if p.healSent || decide (8 ≤ p.cleanRun) then
      noteWrap r false (updRing r (fun p => { p with
        dual := false, dualPend := false, healSince := none, heal := false, healSent := false, cleanRun := 0 }) s)
    else s
  else if p.dualPend then enterDual r s
  else s

/-- The frames of every node's section grow older by one (R188, R250). -/
def ageNodes (p : RingPort) : RingPort :=
  { p with nodes := (255 :: p.table.map SecEntry.addr).foldl (fun ns a =>
      let c := (kvGet ns a).getD {}
      kvPut ns a { c with age := satAdd c.age 1 255 }) p.nodes }

/-- A frame has been sent at boundary b on some pairs. -/
def noteSent (b now : Nat) (f : Frame) (out : List (Pair × Frame)) (p : RingPort) : RingPort :=
  let p := ageNodes p
  { p with
    sent := some f, sentAt := now, sentRing := b, copyF := none, copyB := none, heardF := false, heardB := false
    merged := false, frames := p.frames + BitVec.ofNat 32 out.length, tx := out
    beaconSeq := f.hdr.beaconSeq, tmFlags := f.hdr.tmFlags, tmRank := f.hdr.tmRank }

/-- The master sends the CYCLE frame of boundary b (R191, R198, R299). -/
def originateCycle (r : Ring) (b : Nat) (s : State) : State :=
  let s := settleDual r s
  let p := s.ring.at r
  let heal := p.dual && p.heal
  let f := cycleFrame s r b heal .fwd
  let out := if p.dual then [(Pair.fwd, f), (Pair.bwd, cycleFrame s r b heal .bwd)] else [(Pair.fwd, f)]
  let s := updRing r (fun p => noteSent b s.clk.now f out
    { p with healSent := p.healSent || heal, heal := p.heal && !heal }) s
  let s := { s with free := s.free + 1, test := { s.test with sealWrong := persists 0x0501 s } }
  if carriesRenew f then sentRenewal b s else s

/-- The rings a candidate is a candidate for (R229 RING_MASK). -/
def claimMask (s : State) : Byte :=
  BitVec.ofNat 8 ((rings.filter (fun r => (s.ring.at r).claim.state == .claiming)).foldl (fun m r => m + 2 ^ r.val) 0)

/-- A candidate sends the CLAIM frame of boundary b on both transmitters and a CLAIM record (R228, R229, R295). -/
def originateClaim (r : Ring) (b : Nat) (s : State) : State :=
  let c := (s.ring.at r).claim
  let body : ClaimBody :=
    { seq := BitVec.ofNat 16 c.next, mask := claimMask s, seenEpoch := c.seenEpoch, seenRank := c.seenRank }
  let f := claimFrame s r b body .fwd
  let s := updRing r (fun p => { p with
    frames := p.frames + 2, sentRing := b, tx := [(.fwd, f), (.bwd, claimFrame s r b body .bwd)]
    claim := { c with
      next := c.next + 1, seq := body.seq, sent := (b, s.clk.now, c.next) :: c.sent
      first := some (c.first.getD s.clk.now) } }) s
  send (.claim { epoch := s.crown.epoch, body := body }) s

/-- Test mode ends at a boundary (R206). -/
def leaveTest (r : Ring) (s : State) : State :=
  let p := s.ring.at r
  if p.testOn && (!p.testReq || p.testLeave || s.crown.state == .candidate || crowned s) then
    updRing r (fun p => { p with testOn := false, testLeave := false, sent := none }) s
  else s

/-- The port in test mode sends the TEST frame of boundary b. -/
def originateTest (r : Ring) (b : Nat) (s : State) : State :=
  let f := testFrame s r b
  updRing r (noteSent b s.clk.now f [(.fwd, f)]) s

/-- A claim attempt begins on a ring (R228). -/
def beginClaim (r : Ring) (s : State) : State :=
  updRing r (fun p => { p with claim := { state := .claiming } }) s

/-- A crowned module claims a ring it has abandoned again, with the same epoch (R311). -/
def reclaim (r : Ring) (s : State) : State :=
  let p := s.ring.at r
  if crowned s && p.toWin && p.claim.state == .abandoned then beginClaim r s else s

/-- What a port originates at a boundary (R191, R206, R228). -/
def portBoundary (r : Ring) (s : State) : State :=
  let s := reclaim r (leaveTest r s)
  match roleOf s r with
  | .standby => s
  | .through => s
  | role =>
    let d := decideOrigin r s
    match d.2 with
    | none => d.1
    | some b =>
      let p := d.1.ring.at r
      if p.sentRing = b ∧ (p.sent.isSome ∨ p.claim.sent ≠ []) then d.1
      else if role = .master then originateCycle r b d.1
      else if p.testOn then originateTest r b d.1
      else originateClaim r b d.1

/-- The beacon flags that stand until a beacon, of a CYCLE or TEST frame, has carried them (R213, R216, R217). -/
def clearBeacons (before after : State) : State :=
  if rings.any (fun r => (roleOf after r == .master || (after.ring.at r).testOn) && (after.ring.at r).sentRing != (before.ring.at r).sentRing) then
    { after with tb := { after.tb with stepBeacon := false, handBeacon := false } }
  else after

/-! ### Entering CROWNED by claims -/

/-- The module enters CROWNED by claims (R301, R311, R312, R318): its lease runs from now; a start restarts the program,
a takeover goes on from followed state. -/
def enterCrowned (s : State) : State :=
  let now := ringNow s
  let nextFrame := (now / max 1 (tRing s) + 1) * tRing s
  let s := setCrown .crowned { s with crown := { s.crown with
    tAck := now, lease := leaseNs s, closed := false, solo := false, takes := satAdd s.crown.takes 1 0xFFF
    heldFrom := s.clk.lifeUs, claimAt := none, ho := none, view := none, partnerLocked := false
    changeCycle := s.keep.lastCommit.getD 0 + 1 } }
  let s := doorStart (bumpCounter 3 { s with vote := { s.vote with committed := false, haltRestart := none } })
  if s.crown.byStart then startProgram nextFrame s
  else { s with cyc := { s.cyc with
      on := true, takeover := true, firstAt := nextFrame, phase := .idle, b := 0, bPrev := 0, res := none } }

/-- With no ring in use the candidate claims over the partner link alone (R311). -/
def claimByRecord (s : State) : State :=
  if s.crown.state = .candidate ∧ anyRing s = false then
    match nearBoundary (tRing s) (ringNow s) with
    | none => s
    | some b =>
      match s.crown.claimAt with
      | some t0 =>
        if t0 + 8 * tRing s ≤ b then enterCrowned s
        else if b ≤ t0 + (s.crown.claimSeq - 1) * tRing s then s
        else
          let body : ClaimBody := { seq := BitVec.ofNat 16 s.crown.claimSeq, mask := 0, seenEpoch := 0, seenRank := 0 }
          send (.claim { epoch := s.crown.epoch, body := body })
            { s with crown := { s.crown with claimSeq := s.crown.claimSeq + 1 } }
      | none =>
        let body : ClaimBody := { seq := 0, mask := 0, seenEpoch := 0, seenRank := 0 }
        send (.claim { epoch := s.crown.epoch, body := body })
          { s with crown := { s.crown with claimSeq := 1, claimAt := some b } }
  else s

/-- RING_CYCLE_BOUNDARY: every port originates what its role has it originate (R191). -/
def ringBoundary (s : State) : State :=
  let s' := rings.foldl (fun s r => portBoundary r s) s
  claimByRecord (clearBeacons s s')

end Sys2Proof.Machine
end

