-- ==== Sys2Proof/Machine/RingTake.lean ====
section
/-! DEFINITION. Frames that return to the master, and the return deadline (R188 to R202, R208, R219, R302). -/
namespace Sys2Proof.Machine

/-! ### Renewals -/

/-- A frame's section of an address. -/
def secOf (f : Frame) (addr : Nat) : Option Sec := f.secs.find? (fun x => x.addr.toNat = addr)

/-- Section 255 of a CYCLE frame carries a renewal that verifies (R299). -/
def renewalIn (r : Ring) (f : Frame) : Bool :=
  f.hdr.ftype == ftCycle && hdrOk r f.hdr && !isWrapped f && carriesRenew f
    && (match secOf f 255 with
        | some x => sealsOf255 r f.hdr x
        | none => false)

/-- The crown unit reads section 255 (R303). -/
def readRenewal (r : Ring) (f : Frame) (s : State) : State :=
  if renewalIn r f then takeAcked f.hdr.ringTime.toNat f.hdr.epoch s else s

/-! ### Freshness and the copies taken -/

/-- Everything R194 compares but the checks: header bytes other than FLAGS and HDR_CHECK, every output block, and the
section layout. -/
def sameBlocks (a b : Frame) : Bool :=
  let key := fun (h : Hdr) => { h with flags := 0, check := 0 }
  let blk := fun (x : Sec) => (x.addr, x.olen, x.ilen, x.state, x.out, x.oseq, x.seals, x.inp.length)
  key a.hdr == key b.hdr && a.secs.map blk == b.secs.map blk

/-- How a returned section reads (R188). -/
inductive Freshness where
  | fresh | stale | error
deriving DecidableEq, Repr

/-- A section's freshness against the FRESH that was sent. -/
def freshness (sent got : W16) : Freshness :=
  if got = sent + 1 then .fresh else if got = sent then .stale else .error

/-- What the copies taken of a frame show of a section: each copy's pair, section and freshness. -/
def shown (sent : Frame) (addr : Nat) (copies : List (Pair × Frame)) : List (Pair × Sec × Freshness) :=
  match secOf sent addr with
  | none => []
  | some x0 => copies.filterMap (fun c => (secOf c.2 addr).map (fun x => (c.1, x, freshness x0.fresh x.fresh)))

/-- The section's counters after a frame whose taken copies show it so (R190, R200, R209). A run goes on in a frame with
an error in any taken copy and ends at a taken copy without one. A frame of which no copy was taken breaks the three
consecutive frames, and does not end a run already reported (DEDUCED, log entry 40). -/
def countNode (xs : List (Pair × Sec × Freshness)) (c : NodeCnt) : NodeCnt :=
  let errs := (xs.filter (fun x => x.2.2 == .error)).length
  let stales := (xs.filter (fun x => x.2.2 == .stale)).length
  { c with
    err := satAdd c.err errs 0xFF, stale := satAdd c.stale stales 0xFFFF
    run := if 0 < errs then c.run + 1 else if xs.isEmpty && decide (3 ≤ c.run) then c.run else 0 }

/-- The section taken fresh becomes the master's echo (R189, R195). -/
def takeFresh (pr : Pair) (x : Sec) (c : NodeCnt) : NodeCnt :=
  { c with fresh := x.fresh, iseq := x.iseq, inp := x.inp, chk1 := x.chk1, chk2 := x.chk2, ever := true, age := 0
           line := if pr = .fwd then 1 else 2 }

/-- What the holder learns from section 255 (R300, R302, R319): an acknowledgement, the standby's state and flags. -/
def takeStandby (h : Hdr) (x : Sec) (s : State) : State :=
  let inp := x.inp
  let ack := leAt inp 8 8
  let st := leAt inp 20 1
  let flags : Byte := BitVec.ofNat 8 (leAt inp 21 1)
  let vl := leAt inp 22 1
  let s := { s with crown := { s.crown with
    partner := st % 16
    released := (s.crown.released || flags.getLsbD 0) && !(st == 4)
    partnerLocked := flags.getLsbD 1
    partnerVoting := ⟨vl % 2 = 1, vl / 2 % 2 = 1, vl / 4 % 2 = 1⟩ } }
  if ack ≠ 0 ∧ ack = h.ringTime.toNat then acknowledge ack false s else s

/-- One section of a frame is settled from the copies taken (R188, R190, R195, R200). -/
def takeSection (r : Ring) (sent : Frame) (copies : List (Pair × Frame)) (serve : Bool) (addr : Nat) (s : State) : State :=
  let xs := shown sent addr copies
  let fresh := xs.filter (fun x => x.2.2 == .fresh)
  let c0 := nodeCnt (s.ring.at r) addr
  let c := countNode xs c0
  let s := updRing r (fun p => { p with nodes := kvPut p.nodes addr c }) s
  let s := if c.run = 3 ∧ c0.run = 2 then fire (19 + 4 * r.val) (record 0 .dupAddr [r.val, addr] s) else s
  match fresh with
  | [(pr, x, _)] =>
    let s := updRing r (fun p => { p with nodes := kvPut p.nodes addr (takeFresh pr x c) }) s
    if !serve then s
    else if addr = 255 then (if partChecks r sent.hdr x then takeStandby sent.hdr x s else s)
    else offerPart r sent.hdr x s
  | _ :: _ :: _ => updRing r (fun p => { p with conflict := satAdd p.conflict 1 0xFFFF }) s
  | [] => s

/-- The addresses of a ring's frame: 255, then the nodes. -/
def frameAddrs (p : RingPort) : List Nat := 255 :: p.table.map SecEntry.addr

/-- Every section of a frame is settled. `serve` is false in test mode, whose frames serve no lane (R206). -/
def takeCopies (r : Ring) (copies : List (Pair × Frame)) (serve : Bool) (s : State) : State :=
  match (s.ring.at r).sent with
  | none => s
  | some f => (frameAddrs (s.ring.at r)).foldl (fun s a => takeSection r f copies serve a s) s

/-- The predicted wrapped round trip (R208). -/
def wrapPred (p : RingPort) : Nat := 2 * p.roundMax - bytesNs p.table - 400

/-- The budget limit crossed or not (R208): RING_BUDGET once for each crossing. -/
def settleBudget (r : Ring) (s : State) : State :=
  let p := s.ring.at r
  let high := decide (tRing s - 10000 < wrapPred p)
  let s := updRing r (fun p => { p with overLimit := high }) s
  if high && !p.overLimit then fire (17 + 4 * r.val) (record 0 .ringBudget [r.val, wrapPred p] s) else s

/-- The round trip of a copy taken in single transmission (R208). -/
def measureRound (r : Ring) (s : State) : State :=
  let ns := s.clk.now - (s.ring.at r).sentAt
  settleBudget r (updRing r (fun p => { p with round := ns, roundMax := max p.roundMax ns }) s)

/-- The copies of the frame in flight that have been taken. -/
def takenCopies (p : RingPort) : List (Pair × Frame) :=
  (p.copyF.map (fun f => (Pair.fwd, f))).toList ++ (p.copyB.map (fun f => (Pair.bwd, f))).toList

/-- A copy of the master's own frame is complete (R194). -/
def judgeCopy (r : Ring) (pr : Pair) (f sent : Frame) (p : RingPort) : RingPort :=
  let ok := frameOk r f
  let same := sameBlocks f sent
  let p := { p with
    heardF := p.heardF || pr == .fwd, heardB := p.heardB || pr == .bwd
    check := if ok then p.check else satAdd p.check 1 0xFFFF
    altered := if ok && !same then satAdd p.altered 1 0xFFFF else p.altered
    wrapF := if ok && pr == .fwd then f.trl.wrap else p.wrapF
    wrapB := if ok && pr == .bwd then f.trl.wrap else p.wrapB
    dualPend := p.dualPend || (ok && isWrapped f && !p.dual) }
  if ok && same then (if pr = .fwd then { p with copyF := some f } else { p with copyB := some f }) else p

/-- The master's own copy returns in time (R194, R200, R302). -/
def returnOwn (r : Ring) (pr : Pair) (f sent : Frame) (serve : Bool) (s : State) : State :=
  let p0 := s.ring.at r
  if (pr = .fwd && p0.heardF) || (pr = .bwd && p0.heardB) then s else
  let s := updRing r (judgeCopy r pr f sent) s
  let p := s.ring.at r
  if p.dual then
    if p.heardF && p.heardB then takeCopies r (takenCopies p) serve s else s
  else
    let mine := (takenCopies p).filter (fun c => c.1 == pr)
    if mine.isEmpty then s else
    let s := takeCopies r mine serve s
    let s := if pr = .fwd then measureRound r s else s
    if serve && carriesRenew sent then acknowledge p.sentRing true s else s

/-- The beacon fields of a CYCLE or TEST frame received (R217, R235). -/
def noteBeacon (f : Frame) (p : RingPort) : RingPort :=
  if f.hdr.ftype == ftCycle || f.hdr.ftype == ftTest then
    { p with beaconSeq := f.hdr.beaconSeq, tmFlags := f.hdr.tmFlags, tmRank := f.hdr.tmRank }
  else p

/-- A foreign frame at the master (R191, R219, R303): its section 255 is read; one of higher priority closes origination. -/
def returnForeign (r : Ring) (f : Frame) (s : State) : State :=
  let s := updRing r (noteBeacon f) (readRenewal r f (if checksOk r f then seeEpoch f.hdr.epoch s else s))
  if (f.hdr.ftype == ftCycle || f.hdr.ftype == ftClaim)
      && hasPriority f.hdr.epoch f.hdr.masterId s.crown.epoch s.fuse.rank then expireLease s
  else s

/-- A returned copy is whole at the master's receiver by the return deadline. -/
def inTime (s : State) (r : Ring) : Bool :=
  decide (ringNow s + 2000 ≤ (s.ring.at r).sentRing + ringCycle s r)

/-- A frame reaches a port that originates CYCLE or TEST frames (R191, R194). -/
def returnFrame (r : Ring) (pr : Pair) (f : Frame) (s : State) : State :=
  let s := updRing r (fun p => { p with lastStart := some s.clk.now }) s
  let foreign := hdrOk r f.hdr && (f.hdr.masterId != s.fuse.rank || f.hdr.epoch != (if (s.ring.at r).testOn then 0 else s.crown.epoch))
  if foreign then (if roleOf s r = .master then returnForeign r f s else s)
  else if f.hdr.ftype == ftClaim && hdrOk r f.hdr then s
  else
    match (s.ring.at r).sent with
    | none => s
    | some g => if inTime s r then returnOwn r pr f g (roleOf s r == .master) s else s

/-! ### The return deadline -/

/-- Every wrapping station has set HEAL_READY in the copies taken (R201). With the break next to the master one copy does
not come back and one station wraps, so a copy that was never heard does not count against it (DEDUCED, log entry 168). -/
def healReadyAll (p : RingPort) : Bool :=
  let cs := (takenCopies p).map Prod.snd
  (!p.heardF || p.copyF.isSome) && (!p.heardB || p.copyB.isSome) && cs.any isWrapped
    && cs.all (fun f => !isWrapped f || f.trl.flags.getLsbD 1)

/-- Both copies came back unwrapped and taken (R201). -/
def cleanFrame (p : RingPort) : Bool :=
  let cs := (takenCopies p).map Prod.snd
  decide (cs.length = 2) && cs.all (fun f => !isWrapped f)

/-- What the deadline of a frame settles on a port (R194, R198, R201). -/
def deadlinePort (now : Nat) (p : RingPort) : RingPort :=
  let missing := if p.dual then b2n (!p.heardF) + b2n (!p.heardB) else b2n (!p.heardF && !p.heardB)
  { p with
    merged := true, late := satAdd p.late missing 0xFFFF
    dualPend := p.dualPend || (!p.dual && !p.heardF && !p.testOn)
    cleanRun := if p.dual && cleanFrame p then p.cleanRun + 1 else 0
    healSince := if p.dual && healReadyAll p then some (p.healSince.getD now) else none }

/-- The return deadline of a port's frame passes (R194, R271). -/
def deadline (r : Ring) (s : State) : State :=
  let p := s.ring.at r
  let live := roleOf s r == .master || (roleOf s r == .origin && p.testOn)
  if !live || p.sent.isNone || p.merged || decide (ringNow s + 2000 < p.sentRing + ringCycle s r) then s
  else
    let missed := if p.dual then !(p.heardF && p.heardB) else (takenCopies p).isEmpty
    let s := if missed then takeCopies r (takenCopies p) (roleOf s r == .master) s else s
    let s := updRing r (deadlinePort s.clk.now) s
    if roleOf s r = .master then evalDoors r s else s

/-- Every copy sent of a frame came back, with every field section fresh and section 255 written in none (R302). -/
def noStandbyOn (s : State) (r : Ring) : Bool :=
  let p := s.ring.at r
  p.merged && decide ((takenCopies p).length = (if p.dual then 2 else 1)) && p.table.all (fun e => decide ((nodeCnt p e.addr).age = 0))
    && (match p.sent with
        | some f => (shown f 255 (takenCopies p)).all (fun x => x.2.2 == .stale)
        | none => false)

/-- The third case of R302: on every ring in use, one boundary's copies show that the standby reaches no field node. -/
def ackAlone (s : State) : State :=
  let us := rings.filter (inUse s)
  match us with
  | [] => s
  | r0 :: _ =>
    let b := (s.ring.at r0).sentRing
    if crowned s && us.all (fun r => roleOf s r == .master && decide ((s.ring.at r).sentRing = b) && noStandbyOn s r)
        && us.any (fun r => ((s.ring.at r).sent.map carriesRenew).getD false) then acknowledge b true s
    else s

/-- RETURN_DEADLINE on every port. -/
def returnDeadlines (s : State) : State := ackAlone (rings.foldl (fun s r => deadline r s) s)

end Sys2Proof.Machine
end

