-- ==== Sys2Proof/Machine/RingPass.lean ====
section
/-! DEFINITION. Frames at a port that is not master: the lock logic, the guardian's decision, section 255, forwarding and
wrapping (R185 to R187, R193, R196 to R201, R220 to R227, R299, R303, R319, R556), and claims (R230 to R234). -/
namespace Sys2Proof.Machine

/-! ### The time window (R220 to R223, R556) -/

/-- A frame that takes part in the lock logic, apart from its being the copy processed (R556). -/
def lockFrame (r : Ring) (f : Frame) : Bool :=
  hdrOk r f.hdr && (f.hdr.ftype == ftCycle || f.hdr.ftype == ftTest) && !isWrapped f

/-- The copy a station processes of two with one RING_TIME (R199). -/
def firstCopy (p : RingPort) (f : Frame) : Bool := p.lastSeen != some f.hdr.ringTime

/-- The reference of a pair. -/
def refOf (p : RingPort) (pr : Pair) : Option (Nat × W64) := if pr = .fwd then p.refF else p.refB

/-- Sets the reference of a pair. -/
def putRef (pr : Pair) (x : Nat × W64) (p : RingPort) : RingPort :=
  if pr = .fwd then { p with refF := some x } else { p with refB := some x }

/-- The other pair. -/
def otherPair : Pair → Pair
  | .fwd => .bwd
  | .bwd => .fwd

/-- Ring cycles since a reference and the deviation of an arrival from its prediction (R220): reference
+ m x T_ring x (1 + ppb / 10^9), with the m that brings the prediction nearest. -/
def predict (cycle : Nat) (ppb : Int) (ref : Nat × W64) (arrived : Nat) : Int × Int :=
  let step : Int := (cycle : Int) * (1000000000 + ppb)
  if step ≤ 0 then (0, (arrived : Int) - ref.1) else
  let m := roundDiv (((arrived : Int) - ref.1) * 1000000000) step.toNat
  (m, roundDiv (((arrived : Int) - ref.1) * 1000000000 - m * step) 1000000000)

/-- How a start delimiter arrived (R220, R221): within tolerance or not, its deviation, and the RING_TIME its reference
leads to; without a reference on either pair there is no prediction. -/
structure Arrival where
  within : Bool
  dev : Int
  due : Option W64
  fresh : Bool

/-- Judges an arrival on a pair. -/
def judgeArrival (cycle : Nat) (ppb : Int) (pr : Pair) (arrived : Nat) (p : RingPort) : Arrival :=
  let due := fun (ref : Nat × W64) (m : Int) => ref.2 + BitVec.ofInt 64 (m * cycle)
  match refOf p pr with
  | some ref =>
    let x := predict cycle ppb ref arrived
    { within := decide (x.2.natAbs ≤ 1500), dev := x.2, due := some (due ref x.1), fresh := false }
  | none =>
    match refOf p (otherPair pr) with
    | some ref =>
      let x := predict cycle ppb ref arrived
      { within := decide (2 * x.2.natAbs ≤ cycle), dev := x.2, due := some (due ref x.1), fresh := true }
    | none => { within := false, dev := 0, due := none, fresh := true }

/-- A beacon within tolerance, its start delimiter apart (R222): EPOCH not lower than the highest accepted. -/
def beaconOk (f : Frame) (epoch : W32) (a : Arrival) : Bool :=
  a.within && (f.hdr.ftype == ftTest || decide (epoch.toNat ≤ f.hdr.epoch.toNat)) && a.due == some f.hdr.ringTime
    && !f.hdr.tmFlags.getLsbD 0

/-- The lock state after a frame that takes part in the lock logic (R223). -/
def lockStep (ok within step : Bool) : Lock → Lock
  | .unlocked => .relock 0
  | .relock c => if !within || step then .relock 0 else if ok then (if c < 2 then .relock (c + 1) else .locked) else .relock c
  | .locked => if !within || step then .relock 0 else .locked

/-- The port's lock logic on a frame that takes part in it (R221, R223, R227): state, reference, and the deviation where
R220 gives one (R235). -/
def updateLock (r : Ring) (pr : Pair) (f : Frame) (arrived : Nat) (a : Arrival) (s : State) : State :=
  let p := s.ring.at r
  let step := f.hdr.tmFlags.getLsbD 0
  let ok := beaconOk f s.crown.followed a
  let l := lockStep ok a.within step p.lock
  let rebase := p.lock == .unlocked || !a.within || step || a.fresh
  let lost := p.lock == .locked && l != .locked
  let p1 := { p with
    lock := l, relocks := satAdd p.relocks (b2n lost) 0xFFFF
    devF := if pr = .fwd ∧ a.fresh = false then a.dev else p.devF
    devB := if pr = .bwd ∧ a.fresh = false then a.dev else p.devB }
  let p2 := if rebase then putRef pr (arrived, f.hdr.ringTime) p1 else p1
  let p3 := if p.lock = .unlocked then
      (if pr = .fwd then { p2 with refB := none } else { p2 with refF := none })
    else p2
  recordIf lost 0 .relock [r.val, (BitVec.ofInt 32 a.dev).toNat, b2n (pr == .bwd)] (updRing r (fun _ => p3) s)

/-- The other copy of a frame (R556): within its bound it updates its pair's reference and does nothing else. -/
def otherCopy (r : Ring) (pr : Pair) (f : Frame) (arrived : Nat) (a : Arrival) (s : State) : State :=
  if a.within && (s.ring.at r).lock != .unlocked then updRing r (putRef pr (arrived, f.hdr.ringTime)) s else s

/-! ### Renewals and section 255 -/

/-- The input part the standby writes into section 255 (R319); RELEASE was sent when hold-up began (R536). -/
def standbyInput (s : State) (took : Bool) (h : Hdr) : List Byte :=
  leBytes 4 s.fuse.rank.toNat ++ leBytes 4 s.crown.followed.toNat ++ leBytes 8 (if took then h.ringTime.toNat else 0)
    ++ leBytes 4 s.crown.matched.toNat
    ++ [BitVec.ofNat 8 s.crown.state.code
       , BitVec.ofNat 8 (b2n s.pwr.holdup + 2 * b2n s.tb.locked + 4 * b2n (s.pl.sync0 || s.pl.sync1))
       , BitVec.ofNat 8 (Tri.mask ⟨votes s .a, votes s .b, votes s .c⟩), 0]
    ++ leBytes 4 (crownRefuse s) ++ List.replicate 12 0

/-- The standby's writing of section 255 (R188, R245, R246, R319). -/
def writeStandby (r : Ring) (h : Hdr) (iseq : W16) (part : List Byte) (x : Sec) : Sec :=
  let fresh := x.fresh + 1
  { x with
    fresh := fresh, iseq := iseq, inp := part
    chk1 := ichk 1 r.val 255 40 h.epoch h.beaconSeq fresh iseq part
    chk2 := ichk 2 r.val 255 40 h.epoch h.beaconSeq fresh iseq part }

/-- A change at the window's place, which is the first section by its offset from the start delimiter (R183, R184, R224). -/
def writeFirst (f : Sec → Sec) : List Sec → List Sec
  | [] => []
  | x :: xs => f x :: xs

/-- The standby's window in a frame (R218, R224), but for its lock and the arrival: a CYCLE frame of the followed epoch
whose header verifies, at least two lanes in VOTING state. -/
def windowIn (s : State) (r : Ring) (f : Frame) : Bool :=
  f.hdr.ftype == ftCycle && hdrOk r f.hdr && !isWrapped f && f.hdr.epoch == s.crown.followed
    && decide (2 ≤ (voters s).length)

/-! ### Forwarding and wrapping -/

/-- The frame as a station that processed it sends it on (R185, R186): HOPS, UPSTREAM_BAD, the trailer's check. -/
def passOn (r : Ring) (hop bad : Bool) (f : Frame) : Frame :=
  sealTrl r { f with trl := { f.trl with
    hops := if hop then f.trl.hops + 1 else f.trl.hops
    flags := if bad then f.trl.flags ||| 1 else f.trl.flags } }

/-- A wrapping station turns the frame back (R196, R201): WRAPPED, its address 255, HEAL_READY. -/
def turnBack (r : Ring) (ready : Bool) (f : Frame) : Frame :=
  let h := sealHdr r { f.hdr with flags := f.hdr.flags ||| 1 }
  sealTrl r { f with hdr := h, trl := { f.trl with
    wrap := 255, flags := if ready then f.trl.flags ||| 2 else f.trl.flags } }

/-- A processed frame leaves the port: on the pair it came on, or turned back onto the other (R196); a wrapped station
unwraps after the first frame with HEAL = 1 that it turns back (R201). -/
def leavePort (r : Ring) (pr : Pair) (f : Frame) (s : State) : State :=
  let p := s.ring.at r
  if p.wrapped.isSome then
    let heal := f.hdr.flags.getLsbD 3
    updRing r (fun p => { p with
      tx := [(otherPair pr, turnBack r p.healReady f)]
      wrapped := if heal then none else p.wrapped, healReady := p.healReady && !heal }) s
  else updRing r (fun p => { p with tx := [(pr, f)] }) s

/-- A frame leaves a standby port, unless its stream has ended or lost sync inside an open window (R225). -/
def sendOn (r : Ring) (pr : Pair) (cut : Bool) (f : Frame) (s : State) : State :=
  if cut then updRing r (fun p => { p with tx := [] }) s else leavePort r pr f s

/-- The guardian's decision in a frame (R224, R227): both channels have one, and a closed one counts while LOCKED. -/
def decideWindow (locked isOpen : Bool) (p : RingPort) : RingPort :=
  { p with g1 := isOpen, g2 := isOpen, closed := satAdd p.closed (b2n (locked && !isOpen)) 0xFFFF }

/-- The second copy of a CLAIM frame sent on both pairs with one RING_TIME (R199). -/
def secondClaim (p : RingPort) (f : Frame) : Bool :=
  f.hdr.ftype == ftClaim && !isWrapped f && p.claimSeen == some (f.hdr.masterId, f.hdr.ringTime)

/-- A standby port receives a frame (R192). A second copy is forwarded as it is, but for UPSTREAM_BAD (R186, R199). -/
def standbyReceive (r : Ring) (pr : Pair) (f : Frame) (arrived : Nat) (ppb : Int) (cut : Bool) (s : State) : State :=
  let p := s.ring.at r
  if p.wrapped = some pr then updRing r (fun p => { p with tx := [] }) s
  else
    let bad := !(hdrOk r f.hdr && trlOk r f)
    let same := if bad then passOn r false true f else f
    let locked := p.lock == .locked
    let a := judgeArrival (tRing s) ppb pr arrived p
    if secondClaim p f then sendOn r pr cut same (updRing r (decideWindow locked false) s)
    else if !lockFrame r f then
      let seen := if f.hdr.ftype = ftClaim ∧ isWrapped f = false then some (f.hdr.masterId, f.hdr.ringTime) else p.claimSeen
      sendOn r pr cut (passOn r (!isWrapped f) bad f) (updRing r (fun p => { decideWindow locked false p with claimSeen := seen }) s)
    else if !firstCopy p f then sendOn r pr cut same (otherCopy r pr f arrived a (updRing r (decideWindow locked false) s))
    else
      let took := renewalIn r f && takesRenewal f.hdr.epoch s
      let s := readRenewal r f s
      let isOpen := locked && a.within && windowIn s r f
      let s := updRing r (fun q => noteBeacon f { decideWindow locked isOpen q with
        lastSeen := some f.hdr.ringTime, sbIseq := if isOpen then q.sbIseq + 1 else q.sbIseq }) (updateLock r pr f arrived a s)
      let f := if isOpen then
          { f with secs := writeFirst (writeStandby r f.hdr (s.ring.at r).sbIseq (standbyInput s took f.hdr)) f.secs }
        else f
      sendOn r pr (cut && isOpen) (passOn r true bad f) s

/-! ### Claims at a candidate -/

/-- T_rt (R232): the longest round trip measured, or T_round,wrap with the declared cable when none returned within a
ring cycle. -/
def tRt (s : State) (r : Ring) : Nat :=
  let p := s.ring.at r
  if p.claim.ownBack.isNone then wrapRound p.table (Config.cableNs r.val) else p.claim.rt

/-- An attempt ends (R234): RING_CLAIM and its cell. -/
def endClaim (r : Ring) (x : ClaimState) (s : State) : State :=
  let s := updRing r (fun p => { p with claim := { p.claim with state := x } }) s
  let c := (s.ring.at r).claim
  let code := match x with
    | .won => 2
    | .withdrawn => 3
    | .abandoned => 4
    | .clone => 5
    | .claiming => 1
    | .idle => 0
  fire (18 + 4 * r.val) (record 0 .claimEnd [r.val, code, c.seq.toNat, tRt s r, c.seenEpoch.toNat, c.seenRank.toNat] s)

/-- Every claiming ring's attempt ends withdrawn (R311). -/
def withdrawAll (s : State) : State :=
  rings.foldl (fun s r => if (s.ring.at r).claim.state = .claiming then endClaim r .withdrawn s else s) s

/-- The crown unit withdraws its candidacy (R311); a crowned module with a ring still claiming withdraws on that ring. -/
def withdraw (winner : W32) (s : State) : State :=
  if s.crown.state = .candidate then withdrawCandidate winner (withdrawAll s) else s

/-- A foreign CLAIM or CYCLE frame at a candidate whose checks verify (R229, R231, R232); a crowned module that still
claims a ring has then seen a higher epoch (R158 CROWN_LOSS, R219). -/
def foreignAtCandidate (r : Ring) (f : Frame) (s : State) : State :=
  if !checksOk r f then s
  else
    let e := f.hdr.epoch
    let m := f.hdr.masterId
    let c := (s.ring.at r).claim
    let higher := f.hdr.ftype == ftClaim && (c.seenRank == 0 || hasPriority e m c.seenEpoch c.seenRank)
    let s := updRing r (fun p => { p with claim := { p.claim with
      seenEpoch := if higher then e else c.seenEpoch, seenRank := if higher then m else c.seenRank } }) s
    if hasPriority e m s.crown.epoch s.fuse.rank then
      (if s.crown.state = .candidate then withdraw m s else expireLease (endClaim r .withdrawn s))
    else s

/-- A claim of its own epoch and rank at a candidate: one it sent is removed and its round trip measured; one it did not
send ends the attempt as a clone (R230, R231). -/
def ownClaim (r : Ring) (pr : Pair) (f : Frame) (s : State) : State :=
  let c := (s.ring.at r).claim
  match c.sent.find? (fun x => x.1 = f.hdr.ringTime.toNat) with
  | some x =>
    updRing r (fun p => { p with tx := [], claim := { p.claim with
      rt := max p.claim.rt (s.clk.now - x.2.1), ownBack := some (p.claim.ownBack.getD s.clk.now) } }) s
  | none =>
    let s := updRing r (fun p => { p with tx := [(pr, f)] }) s
    if c.state = .claiming then
      withdraw f.hdr.masterId (endClaim r .clone (record 0 .claimClone [r.val] s))
    else s

/-- A frame at a port that claims or has claimed (R230 to R232): its own claims are removed, every foreign frame is
forwarded unchanged and restarts the silence. -/
def candidateReceive (r : Ring) (pr : Pair) (f : Frame) (s : State) : State :=
  let own := f.hdr.masterId == s.fuse.rank && f.hdr.epoch == s.crown.epoch && f.hdr.ftype == ftClaim
  if own && hdrOk r f.hdr then ownClaim r pr f s
  else
    let s := updRing r (fun p => { p with
      tx := [(pr, f)], claim := { p.claim with foreign := some s.clk.now } }) s
    let s := if hdrOk r f.hdr then updRing r (noteBeacon f) s else s
    let s := readRenewal r f s
    if f.hdr.ftype == ftClaim || f.hdr.ftype == ftCycle then foreignAtCandidate r f s else s

/-- A claim the module sent and has since withdrawn returns (R230). -/
def ownOldClaim (s : State) (r : Ring) (f : Frame) : Bool :=
  let c := (s.ring.at r).claim
  f.hdr.ftype == ftClaim && hdrOk r f.hdr && f.hdr.masterId == s.fuse.rank
    && c.sent.any (fun x => x.1 = f.hdr.ringTime.toNat)

/-- A start delimiter the port did not send ends test mode at the next boundary and is counted, once (R206). -/
def testReceive (r : Ring) (pr : Pair) (f : Frame) (s : State) : State :=
  if hdrOk r f.hdr && f.hdr.masterId == s.fuse.rank && f.hdr.ftype == ftTest then returnFrame r pr f s
  else readRenewal r f (updRing r (fun p => { p with
    testReq := false, testLeave := true, late := satAdd p.late (b2n (!p.testLeave)) 0xFFFF, tx := [] }) s)

/-- What the self-test controller notes of frames on the rings (R497, R499). -/
def noteFrame (r : Ring) (f : Frame) (s : State) : State :=
  if f.hdr.ftype == ftCycle then
    { s with test := { s.test with
        frameAt := s.clk.now
        dualAt := if f.hdr.flags.getLsbD 4 then s.test.dualAt.put r (some s.clk.now) else s.test.dualAt } }
  else s

/-- An injected fault fails HDR_CHECK of a frame that a port of this ring receives, but for one in repeat-through, which
checks none (R509, R510). -/
def failsHeader (r : Ring) (s : State) : Bool :=
  (injected 0x0603 s).any (fun i => i.arg == r.val) && roleOf s r != .through

/-- The frame as the port's checks find it. -/
def spoilt (bad : Bool) (r : Ring) (f : Frame) : Frame := if bad then { f with hdr := { f.hdr with check := ~~~(hdrCheck r f.hdr) } } else f

/-- A port that is not master receives a frame, whole or `cut` off inside section 255; EPOCH_KEPT rises to an epoch seen
(R304). -/
def portReceive (r : Ring) (pr : Pair) (f : Frame) (arrived : Nat) (ppb : Int) (cut : Bool) (s : State) : State :=
  if (s.ring.at r).silent || s.test.looped.at r then s else
  let bad := failsHeader r s
  let f := spoilt bad r f
  let s := if bad then spendOnce 0x0603 s else s
  let s := noteFrame r f (updRing r (fun p => { p with lastStart := some arrived }) s)
  let s := if checksOk r f && (f.hdr.ftype == ftCycle || f.hdr.ftype == ftClaim) && f.hdr.masterId != s.fuse.rank
      && s.crown.state != .off then seeEpoch f.hdr.epoch s
    else s
  match roleOf s r with
  | .master => if cut then s else returnFrame r pr f s
  | .origin => if cut then s else if (s.ring.at r).testOn then testReceive r pr f s else candidateReceive r pr f s
  | .through => readRenewal r f (updRing r (fun p => { p with tx := if cut then [] else [(pr, f)] }) s)
  | .standby =>
    if ownOldClaim s r f then updRing r (fun p => { p with tx := [] }) s
    else standbyReceive r pr f arrived ppb cut s

/-! ### Winning and abandoning -/

/-- The instant the silence counts from (R232). -/
def silentFrom (s : State) (r : Ring) : Option Nat :=
  let c := (s.ring.at r).claim
  match c.first with
  | none => none
  | some t0 => some (max (c.foreign.getD 0) (c.ownBack.getD t0))

/-- The silence has lasted 3 x T_rt (R232); with no claim back within one ring cycle it counts from the first claim. -/
def silenceWon (s : State) (r : Ring) : Bool :=
  match silentFrom s r with
  | none => false
  | some t0 =>
    decide (t0 + 3 * tRt s r ≤ s.clk.now)
      && ((s.ring.at r).claim.ownBack.isSome || decide ((s.ring.at r).claim.first.getD 0 + tRing s ≤ s.clk.now))

/-- The candidate enters CROWNED when it has won at least one ring and withdrawn on none; with every ring abandoned it
enters OUT (R311). -/
def settleCandidate (s : State) : State :=
  if s.crown.state ≠ .candidate then s else
  let us := rings.filter (inUse s)
  let st := fun (r : Ring) => (s.ring.at r).claim.state
  if us.any (fun r => st r == .won) && us.all (fun r => st r != .withdrawn && st r != .clone) then enterCrowned s
  else if !us.isEmpty && us.all (fun r => st r == .abandoned) then enterOut s
  else s

/-- A candidate wins a ring (R232): its first CYCLE frame goes out on both transmitters (R202). -/
def winRing (r : Ring) (s : State) : State :=
  let s := endClaim r .won s
  let s := enterDual r (updRing r (fun p => { p with toWin := false, sent := none }) s)
  settleCandidate s

/-- A candidate abandons a ring (R233). -/
def abandonRing (r : Ring) (s : State) : State :=
  settleCandidate (endClaim r .abandoned (record 0 .claimTimeout [r.val] s))

end Sys2Proof.Machine
end

