-- ==== Sys2Proof/Machine/Ring.lean ====
section
/-! DEFINITION. The commands of the ring ports and the time base (R176 to R236). -/
namespace Sys2Proof.Machine

/-- RING_CYCLE_BOUNDARY (R191, R228). -/
def execRingCycleBoundary (t : Nat) (s : State) : Host.Outcome State Fault Refusal :=
  .next (settleHalt (ringBoundary (elapse t s)))

/-- RING_FRAME_RECEIVE (R192): `arrived` is the local arrival instant of the start delimiter, `ppb` the station's
estimate of its clock rate against ring time (R220), `cut` whether the stream ended or lost sync inside the input block of
section 255 (R225), `invalid` the invalid code groups since the receiver's latest report (R209). -/
def execRingFrameReceive (t : Nat) (r : Ring) (p : Pair) (f : Frame) (arrived : Nat) (ppb : Int) (s : State)
    (cut : Bool := false) (invalid : Nat := 0) : Host.Outcome State Fault Refusal :=
  .next (settleHalt (portReceive r p f arrived ppb cut (countInvalid r p invalid (elapse t s))))

/-- RING_FRAME_RETURN (R194) at a port that originates CYCLE or TEST frames. -/
def execRingFrameReturn (t : Nat) (r : Ring) (p : Pair) (f : Frame) (s : State) (invalid : Nat := 0) :
    Host.Outcome State Fault Refusal :=
  let s := countInvalid r p invalid (elapse t s)
  let bad := failsHeader r s
  let f := spoilt bad r f
  let s := if bad then spendOnce 0x0603 s else s
  .next (settleHalt (
    if roleOf s r = .master then returnFrame r p f s
    else if roleOf s r = .origin ∧ (s.ring.at r).testOn then testReceive r p f s
    else s))

/-- RETURN_DEADLINE (R194, R271). -/
def execReturnDeadline (t : Nat) (s : State) : Host.Outcome State Fault Refusal :=
  .next (settleHalt (returnDeadlines (elapse t s)))

/-! ### Links -/

/-- LINK_SYNC_LOST (R179, R196): the receiver of pair p has lost sync at its fourth invalid code group. -/
def execLinkSyncLost (t : Nat) (r : Ring) (p : Pair) (invalid : Nat) (s : State) : Host.Outcome State Fault Refusal :=
  .next (wrapPort r p (updRing r (fun x =>
    if p = .fwd then { x with syncF := false } else { x with syncB := false }) (countInvalid r p invalid (elapse t s))))

/-- A wrapped port whose broken side regains sync while the other side is broken wraps on that one: its good receiver is
then the regained one (R196; DEDUCED, log entry 77). -/
def regainSide (p : Pair) (x : RingPort) : RingPort :=
  let other := if p = .fwd then !x.syncB || x.faultB else !x.syncF || x.faultF
  if x.wrapped = some p ∧ other = true then { x with wrapped := some (otherPair p), healReady := false } else x

/-- LINK_SYNC_REGAINED (R179): a port already wrapped stays so until the ring heals (R201); one that stands with its other
side broken wraps now (R196). -/
def execLinkSyncRegained (t : Nat) (r : Ring) (p : Pair) (s : State) (invalid : Nat := 0) : Host.Outcome State Fault Refusal :=
  .next (wrapIfBroken (updRing r (fun x =>
    regainSide p (if p = .fwd then { x with syncF := true, faultF := false, sinceF := max t s.clk.now }
    else { x with syncB := true, faultB := false, sinceB := max t s.clk.now })) (countInvalid r p invalid (elapse t s))) r)

/-- LINK_FAULT_RECEIVED (R196). -/
def execLinkFaultReceived (t : Nat) (r : Ring) (p : Pair) (s : State) : Host.Outcome State Fault Refusal :=
  .next (wrapPort r p (updRing r (fun x =>
    if p = .fwd then { x with faultF := true, sinceF := max t s.clk.now }
    else { x with faultB := true, sinceB := max t s.clk.now }) (elapse t s)))

/-- HEAL_READY_TIMER (R201): sync held on the broken side with no link fault for 100 ms. -/
def execHealReadyTimer (t : Nat) (r : Ring) (s : State) : Host.Outcome State Fault Refusal :=
  .next (updRing r (fun x =>
    match x.wrapped with
    | some .fwd => if x.syncF && decide (x.sinceF + 100000000 ≤ max t s.clk.now) then { x with healReady := true, faultF := false } else x
    | some .bwd => if x.syncB && decide (x.sinceB + 100000000 ≤ max t s.clk.now) then { x with healReady := true, faultB := false } else x
    | none => x) (elapse t s))

/-- HEAL_TIMER (R201): HEAL_READY seen from every wrapping station for 2 s. -/
def execHealTimer (t : Nat) (r : Ring) (s : State) : Host.Outcome State Fault Refusal :=
  .next (updRing r (fun x =>
    match x.healSince with
    | some t0 => if x.dual && decide (t0 + 2000000000 ≤ max t s.clk.now) then { x with heal := true } else x
    | none => x) (elapse t s))

/-! ### Test mode, silence and claims -/

/-- No start delimiter on either pair for d ns. -/
def silentFor (p : RingPort) (now d : Nat) : Bool :=
  match p.lastStart with
  | none => true
  | some t0 => decide (t0 + d ≤ now)

/-- RING_TEST_START (R206). -/
def execRingTestStart (t : Nat) (r : Ring) (s : State) : Host.Outcome State Fault Refusal :=
  let s := elapse t s
  .next (
    let p := s.ring.at r
    if p.testReq && !crowned s && roleOf s r == .standby && silentFor p s.clk.now 64000000 then
      updRing r (fun p => { p with testOn := true, testLeave := false, sent := none }) s
    else s)

/-- LOCK_SILENCE_TIMEOUT (R223): no start delimiter on either pair for 8 ms of local time. -/
def execLockSilenceTimeout (t : Nat) (r : Ring) (s : State) : Host.Outcome State Fault Refusal :=
  let s := elapse t s
  .next (if silentFor (s.ring.at r) s.clk.now 8000000 then
      updRing r (fun p => { p with lock := .unlocked, refF := none, refB := none }) s
    else s)

/-- RING_CANDIDATE_START (R228). -/
def execRingCandidateStart (t : Nat) (r : Ring) (s : State) : Host.Outcome State Fault Refusal :=
  let s := elapse t s
  .next (
    let p := s.ring.at r
    let taking := s.crown.state == .candidate || (crowned s && p.toWin)
    if taking && inUse s r && p.claim.state == .idle && silentFor p s.clk.now (2 * tRing s) then beginClaim r s else s)

/-- CLAIM_FRAME_RECEIVE (R230, R231): a port receives a CLAIM frame. -/
def execClaimFrameReceive (t : Nat) (r : Ring) (p : Pair) (f : Frame) (s : State) : Host.Outcome State Fault Refusal :=
  .next (settleHalt (portReceive r p f (max t s.clk.now) 0 false (elapse t s)))

/-- CLAIM_SILENCE_WIN (R232). -/
def execClaimSilenceWin (t : Nat) (r : Ring) (s : State) : Host.Outcome State Fault Refusal :=
  let s := elapse t s
  .next (if (s.ring.at r).claim.state = .claiming ∧ silenceWon s r = true then winRing r s else s)

/-- CLAIM_ABANDON (R233): 64 ring cycles since the first claim. -/
def execClaimAbandon (t : Nat) (r : Ring) (s : State) : Host.Outcome State Fault Refusal :=
  let s := elapse t s
  .next (
    match (s.ring.at r).claim.state, (s.ring.at r).claim.first with
    | .claiming, some t0 => if t0 + 64 * tRing s ≤ s.clk.now then abandonRing r s else s
    | _, _ => s)

/-! ### The time base -/

/-- The lane that ranks first among the time sources (R211). -/
def firstSource (s : State) : Option Lane := (lanes.filter (inService s)).head?

/-- The time-master lane changes (R213): HANDOVER in the next beacon of a module that sends beacons; on the crowned module
source 6 and a cell. -/
def handTime (old new : Lane) (s : State) : State :=
  let s := { s with tb := { s.tb with tm := some new, handBeacon := crowned s || rings.any (fun r => (s.ring.at r).testOn) } }
  if crowned s then
    fire 6 (record 0 .timeMaster [old.num, new.num]
      { s with tb := { s.tb with handovers := satAdd s.tb.handovers 1 0xFFFF } })
  else s

/-- The time-master lane at a 125 µs measurement: the lane that ranks first (R211), a change being a handover without a
step (R213). -/
def settleTimeMaster (s : State) : State :=
  match s.tb.tm, firstSource s with
  | none, x => { s with tb := { s.tb with tm := x } }
  | some l, some n => if l = n then s else handTime l n s
  | some _, none => s

/-- The ranking at a commit (R211): a module without a time-master lane has its first one from there on. -/
def rankTime (s : State) : State := if s.tb.tm.isNone then { s with tb := { s.tb with tm := firstSource s } } else s

/-- The deviation a lane's counter shows against the time-master lane's (R212). -/
def laneDev (s : State) (dev : Tri Int) (l : Lane) : Int := if s.tb.tm = some l then 0 else dev.at l

/-- A lane corrects its counter by slewing, at most 200 ppm (R212). -/
def slewLane (l : Lane) (dev : Int) (s : State) : State :=
  if s.tb.tm = some l then s else
  let ppb := clampI 200000 (Config.slewPpb l.num dev)
  { s with clk := { s.clk with ring := s.clk.ring.upd l (fun c => { c with slewPpb := ppb }) } }

/-- One lane's measurement (R212): beyond 40 ns twice in a row is a clock out of range, told once until it is back. -/
def measureLane (dev : Tri Int) (s : State) (l : Lane) : State :=
  let d := laneDev s dev l
  let far := if 40 < d.natAbs then s.tb.far.at l + 1 else 0
  let s := slewLane l d { s with tb := { s.tb with
    dev := s.tb.dev.put l (clampI 127 d), far := s.tb.far.put l far } }
  if 2 ≤ far ∧ (laneOf s l).clockIn = true ∧ (laneOf s l).ready = true ∧ (inService s l ∨ lstate s l = .rejoining ∨ lstate s l = .starting)
  then reflex 0x03 l s else s

/-- LANE_TIME_MEASURE (R212 to R214): `dev` is each lane's deviation in ns against the time-master lane's counter; a TIME
record goes out with it. -/
def execLaneTimeMeasure (t : Nat) (dev : Tri Int) (s : State) : Host.Outcome State Fault Refusal :=
  let s := lanes.foldl (measureLane dev) (settleTimeMaster (elapse t s))
  .next (if s.rst.stage = .ready then send (.time (ringNow s)) s else s)

end Sys2Proof.Machine
end

