-- ==== Sys2Proof/Machine/Checks.lean ====
section
/-! DEFINITION. The commands of the check units (R385 to R399). -/
namespace Sys2Proof.Machine

/-- Changes one lane's check units. -/
def updPort (l : Lane) (f : ChkLane → ChkLane) (s : State) : State := { s with port := s.port.upd l f }

/-- The bytes an open context has absorbed; a closed one opens with none (R387). -/
def ctxBytes (p : ChkLane) (c : Nat) : List Byte := (kvGet p.ctx c).getD []

/-- A context absorbs bytes, opening first when it is closed (R387). -/
def absorb (c : Nat) (b : List Byte) (p : ChkLane) : ChkLane := { p with ctx := kvPut p.ctx c (ctxBytes p c ++ b) }

/-- PORT_BYTE_WRITE (R387). -/
def execPortByteWrite (t : Nat) (l : Lane) (ctx : Fin 32) (x : Byte) (s : State) : Host.Outcome State Fault Refusal :=
  .next (updPort l (absorb ctx [x]) (elapse t s))

/-- PORT_HALF_WRITE (R387). -/
def execPortHalfWrite (t : Nat) (l : Lane) (ctx : Fin 32) (x : W16) (s : State) : Host.Outcome State Fault Refusal :=
  .next (updPort l (absorb ctx (leBytes 2 x.toNat)) (elapse t s))

/-- PORT_WORD_WRITE (R387). -/
def execPortWordWrite (t : Nat) (l : Lane) (ctx : Fin 32) (x : W32) (s : State) : Host.Outcome State Fault Refusal :=
  .next (updPort l (absorb ctx (leBytes 4 x.toNat)) (elapse t s))

/-- PORT_COPY (R387): the target takes the source's state and byte count, closed when the source is closed. -/
def execPortCopy (t : Nat) (l : Lane) (src dst : Fin 32) (s : State) : Host.Outcome State Fault Refusal :=
  .next (updPort l (fun p =>
    { p with ctx := match kvGet p.ctx src with
        | some b => kvPut p.ctx dst b
        | none => kvErase p.ctx dst }) (elapse t s))

/-- PORT_SPLICE (R387): the target absorbs every byte the source has absorbed. -/
def execPortSplice (t : Nat) (l : Lane) (src dst : Fin 32) (s : State) : Host.Outcome State Fault Refusal :=
  .next (updPort l (fun p => absorb dst (ctxBytes p src) p) (elapse t s))

/-- PORT_READ (R387): the check value of the context, which is then closed. -/
def execPortRead (t : Nat) (l : Lane) (ctx : Fin 32) (s : State) : Host.Outcome State Fault Refusal :=
  .next (updPort l (fun p => { p with readOut := crc32c (ctxBytes p ctx), ctx := kvErase p.ctx ctx }) (elapse t s))

/-! ### The scan engine -/

/-- A request finds a free entry (R392): 8 in all, 2 of them for class 0. -/
def scanRoom (p : ChkLane) (r : ScanReq) : Bool :=
  decide (p.queue.length < 8) && (r.cls == 0 || decide ((p.queue.filter (fun x => x.cls != 0)).length < 6))

/-- Moves each stalled request whose entry has become free into the queue, in order (R392). -/
def admitStalled (p : ChkLane) : List ScanReq → ChkLane
  | [] => p
  | r :: rs =>
    if scanRoom p r then admitStalled { p with queue := p.queue ++ [r] } rs
    else admitStalled { p with stalled := p.stalled ++ [r] } rs

/-- SCAN_REQUEST (R390, R392): a request of 1 to 2^24 words queues, or its requester stalls. -/
def execScanRequest (t : Nat) (l : Lane) (r : ScanReq) (s : State) : Host.Outcome State Fault Refusal :=
  .next (updPort l (fun p =>
    if r.len = 0 ∨ 2 ^ 24 < r.len then p
    else if scanRoom p r then { p with queue := p.queue ++ [r] } else { p with stalled := p.stalled ++ [r] }) (elapse t s))

/-- The request the engine serves: the first of the lowest class (R392). -/
def scanHead (q : List ScanReq) : Option ScanReq :=
  (q.find? (fun r => r.cls == 0)).orElse (fun _ => (q.find? (fun r => r.cls == 1)).orElse (fun _ => q.head?))

/-- Two 32-bit cells as one word. -/
def pairWord (lo hi : W32) : W64 := (hi ++ lo).setWidth 64

/-- The words a request reads (R390); a stream of the committed image ends with the fault word (R391); DRAM and the receive
buffers give the words the command brings. -/
def scanWords (s : State) (l : Lane) (r : ScanReq) (given : List W64) : List W64 :=
  let st := s.st.at l
  match r.src with
  | .noun => tabSlice 0 st.noun r.start r.len
  | .timer => (List.range r.len).map (fun i =>
      pairWord (tabGet 0 st.timer (2 * (r.start + i))) (tabGet 0 st.timer (2 * (r.start + i) + 1)))
  | .output => tabSlice 0 st.out r.start r.len
  | .committed => tabSlice 0 s.cyc.img r.start r.len ++ [s.cyc.imgFault]
  | .insn => tabSlice 0 (((activeProg s l).map (fun p => p.words)).getD []) r.start r.len
  | .dram | .copyBuf | .plBuf => given.take r.len

/-- SCAN_DONE (R390, R392): the request served completes with its check value; with CONT it goes on from what its
requester's earlier request absorbed. A suspended class-2 request does not complete. -/
def execScanDone (t : Nat) (l : Lane) (words : List W64) (s : State) : Host.Outcome State Fault Refusal :=
  let s := elapse t s
  .next (match scanHead (s.port.at l).queue with
    | none => s
    | some r =>
      if r.cls = 2 ∧ (s.port.at l).susp then s else
      let fold := leBytes 4 r.tag.toNat ++ leBytes 4 r.a.toNat ++ leBytes 4 r.b.toNat ++ leBytes 4 0
      let pre := if r.cont then (kvGet (s.port.at l).absorbed r.who).getD [] else fold
      let all := pre ++ (scanWords s l r words).flatMap wordBytes
      updPort l (fun p =>
        let p := { p with
          queue := p.queue.erase r, absorbed := kvPut p.absorbed r.who all, scanOut := some (r.who, crc32c all) }
        admitStalled { p with stalled := [] } p.stalled) s)

/-! ### Stored structures -/

/-- The lanes that take part in a re-read (R395): STARTING, VOTING or REJOINING. -/
def rereads (s : State) (found : Tri (Option Reread)) : List (Lane × Reread) :=
  lanes.filterMap (fun l =>
    if lstate s l = .starting ∨ lstate s l = .voting ∨ lstate s l = .rejoining then (found.at l).map (fun r => (l, r))
    else none)

/-- Some value that at least two of the sound lanes share. -/
def sharedValue : List (Lane × Reread) → Option W32
  | [] => none
  | x :: xs => if x.2.sound ∧ xs.any (fun y => y.2.sound && y.2.value == x.2.value) then some x.2.value else sharedValue xs

/-- A retentive slot by its place: twice the lane's number plus the slot. -/
def updPlace (place : Nat) (f : RetCopy → RetCopy) (s : State) : State :=
  updSlot (Lane.ofNum (place / 2)) (decide (place % 2 = 1)) f s

/-- The repaired check value is written back where the structure lies (R394, R395): a code store structure at its
byte address, or the retentive slot of a lane, whose words the lanes could read. -/
def writeCheck (code place : Nat) (v : W32) (s : State) : State :=
  if code = 3 then updPlace place (fun c => { c with check := v, spoilt := false }) s
  else storeWrite place (leBytes 4 v.toNat) s

/-- The read again passes: a retentive slot counts as read without an error (R128, R395). -/
def passCheckAgain (code : Nat) (place : Nat) (s : State) : State :=
  if code = 3 then updPlace place (fun c => { c with spoilt := false }) s else s

/-- A bad structure: a retentive slot takes no part in R126 (R395). -/
def markBad (code place : Nat) (s : State) : State :=
  let s := { s with chk := { s.chk with bad := satAdd s.chk.bad 1 0xFFFF } }
  if code = 3 then updPlace place (fun c => { c with spoilt := true }) s else s

/-- STORED_CHECK_FAIL (R395, R396). -/
def execStoredCheckFail (t : Nat) (code : Fin 4) (place : Nat) (stored : W32) (found : Tri (Option Reread))
    (abandoned : Bool) (s : State) : Host.Outcome State Fault Refusal :=
  let s := elapse t s
  .next (
    let xs := rereads s found
    let soundMask := xs.foldl (fun m x => if x.2.sound then m + 2 ^ x.1.num else m) 0
    let note := fun (out : Nat) (new : W32) (s : State) =>
      { s with chk := { s.chk with
          last := pack [(1, 31), (out, 24), (soundMask, 20), (code.val, 0)], lastOld := stored, lastNew := new } }
    if abandoned then note 3 stored s
    else if code.val ≠ 3 ∧ s.upd.lock.isSome = true then s
    else if 2 ≤ (xs.filter (fun x => x.2.value == stored)).length then passCheckAgain code place s
    else if 2 ≤ (xs.filter (fun x => x.2.sound)).length then
      match sharedValue xs with
      | some v =>
        let s := note 0 v { s with chk := { s.chk with repaired := satAdd s.chk.repaired 1 0xFFFF } }
        record 0 .checkRepaired [code.val, stored.toNat, v.toNat, soundMask] (writeCheck code place v s)
      | none => note 1 stored (markBad code place s)
    else note 2 stored (markBad code place s))

/-! ### The host test context -/

/-- The open test context absorbs bytes (R399); a closed one opens first. -/
def testAbsorb (b : List Byte) (s : State) : State :=
  { s with chk := { s.chk with test := some (s.chk.test.getD [] ++ b) } }

/-- CHK_TEST_RESULT: 0 while the context has never been opened. -/
def testResult (s : State) : W32 :=
  match s.chk.test with
  | some b => crc32c b
  | none => 0

/-- CHK_TEST_OPEN (R399). -/
def execChkTestOpen (t : Nat) (h : HostId) (s : State) : Host.Outcome State Fault Refusal :=
  .next (hostWrite h 0x0F0040 (fun s => done { s with chk := { s.chk with test := some [] } }) (elapse t s))

/-- CHK_TEST_WORD (R399). -/
def execChkTestWord (t : Nat) (h : HostId) (x : W32) (s : State) : Host.Outcome State Fault Refusal :=
  .next (hostWrite h 0x0F0044 (fun s => done (testAbsorb (leBytes 4 x.toNat) s)) (elapse t s))

/-- CHK_TEST_HALF (R399). -/
def execChkTestHalf (t : Nat) (h : HostId) (x : W16) (s : State) : Host.Outcome State Fault Refusal :=
  .next (hostWrite h 0x0F0048 (fun s => done (testAbsorb (leBytes 2 x.toNat) s)) (elapse t s))

/-- CHK_TEST_BYTE (R399). -/
def execChkTestByte (t : Nat) (h : HostId) (x : Byte) (s : State) : Host.Outcome State Fault Refusal :=
  .next (hostWrite h 0x0F004C (fun s => done (testAbsorb [x] s)) (elapse t s))

end Sys2Proof.Machine
end

