-- ==== Sys2Proof/Machine/Flags.lean ====
section
/-! DEFINITION. What a verb's form allows, its clocks, the trap conditions of R61 to R87 with the one recorded, and the
fault word of R85. -/
namespace Sys2Proof.Machine

/-- The verb table of R63; none is an illegal code (R62). -/
def verbForm (c : BitVec 6) : Option VerbForm :=
  match c.toNat with
  | 0x01 | 0x02 | 0x03 | 0x04 | 0x05 | 0x06 | 0x07 | 0x08 | 0x14 | 0x15 => some ⟨true, true, .any, .zero⟩
  | 0x09 | 0x16 | 0x17 => some ⟨true, true, .none, .zero⟩
  | 0x0A => some ⟨true, true, .none, .bit0⟩
  | 0x10 | 0x11 | 0x12 | 0x13 => some ⟨true, true, .store, .zero⟩
  | 0x18 | 0x19 | 0x1A | 0x1B => some ⟨true, true, .timer, .preset⟩
  | 0x1C => some ⟨true, false, .timer, .zero⟩
  | 0x1D | 0x1E => some ⟨true, true, .edge, .zero⟩
  | 0x20 | 0x23 | 0x24 | 0x26 | 0x27 | 0x28 | 0x29 | 0x3C => some ⟨false, true, .anyNoTimer, .zero⟩
  | 0x21 => some ⟨false, true, .store, .zero⟩
  | 0x22 | 0x25 | 0x2A | 0x2B => some ⟨false, true, .none, .imm⟩
  | 0x2C => some ⟨true, false, .none, .zero⟩
  | 0x2D | 0x2E => some ⟨false, true, .none, .zero⟩
  | 0x30 | 0x33 => some ⟨true, false, .none, .imm⟩
  | 0x31 | 0x32 => some ⟨true, true, .none, .imm⟩
  | 0x34 | 0x35 | 0x38 | 0x39 | 0x3A | 0x3B => some ⟨true, false, .none, .zero⟩
  | 0x3D => some ⟨true, false, .none, .fault⟩
  | _ => none

/-- The trap causes of R87, by their codes. -/
def trapIllegalVerb : Nat := 0x01
def trapIllegalForm : Nat := 0x02
def trapOperandRange : Nat := 0x03
def trapReadOnly : Nat := 0x04
def trapFlowBackward : Nat := 0x05
def trapCallTarget : Nat := 0x06
def trapFlowGuard : Nat := 0x07
def trapClauseOverflow : Nat := 0x10
def trapClauseUnderflow : Nat := 0x11
def trapClauseOpenAtEnd : Nat := 0x12
def trapCallOverflow : Nat := 0x13
def trapCallUnderflow : Nat := 0x14
def trapEndInSubroutine : Nat := 0x15
def trapStoreEcc : Nat := 0x20

/-- The LANE_FAULT flag of a trap cause (R87): ILLEGAL 2, STACK 1, ECC_UNCORR 4. -/
def trapFlag (c : Nat) : Nat := if c < 0x10 then 2 else if c < 0x20 then 1 else 4

/-- OP2 departs from the verb's form (R61, R64, R69, R84). -/
def op2Bad (v : VWord) : Op2Form → Bool
  | .zero => v.op2 != 0
  | .bit0 => (v.op2 >>> 1) != 0
  | .preset => (v.op2 >>> 26) != 0
  | .imm => false
  | .fault => (v.op2.extractLsb' 16 14) != 0 || (v.op2.extractLsb' 30 2) == 3#2

/-- The word departs from the verb's form (R61), but for a store's SPACE 0b01 or 0b11. -/
def formBad (v : VWord) (f : VerbForm) : Bool :=
  !(if v.p then f.p1 else f.p0) || op2Bad v f.op2 ||
    (match f.operand with
    | .none => v.space != 0 || v.addr != 0
    | .any => false
    | .anyNoTimer => timerHalf v
    | .store => false
    | .timer => !timerHalf v
    | .edge => !edgeHalf v)

/-- A store names SPACE 0b01 or 0b11 (R65, R76). -/
def readOnly (v : VWord) (f : VerbForm) : Bool := f.operand == .store && (v.space == 1#2 || v.space == 3#2)

/-- The verb is a timer verb (R63 class timer). -/
def isTimerVerb (c : BitVec 6) : Bool := decide (0x18 ≤ c.toNat) && decide (c.toNat ≤ 0x1C)

/-- The cells a plural timer verb reaches: the enabled columns of the 64 from cell c on. -/
def enabledCells (m : W64) (c : Nat) : List Nat :=
  (List.range 64).filterMap (fun j => if m.getLsbD j then some (c + j) else none)

/-- The cells an operand in the timer half reaches: a timer verb reaches the enabled columns only (R50, log entry 8), a
plural load, logic or OPEN verb reads all 64 cells, those of disabled columns too (DESIGN CHOICE, log entry 8). -/
def cellsOf (e : Engine) (v : VWord) : List Nat :=
  if v.p then (if isTimerVerb v.verb then enabledCells e.cmask (lowAddr v) else (List.range 64).map (lowAddr v + ·))
  else [lowAddr v]

/-- The operand reaches a word that holds an uncorrectable error (R52). -/
def eccHit (w : Work) (v : VWord) : Bool :=
  if timerHalf v then (cellsOf w.eng v).any (fun c => w.st.bad.contains (.timer c))
  else w.st.bad.contains (operandWord v)

/-- A timer verb reaches a cell whose BASE is 0b11 (R69). -/
def baseHit (w : Work) (v : VWord) : Bool :=
  isTimerVerb v.verb && timerHalf v && (cellsOf w.eng v).any (fun c => (readTimer w.st c).base == 3#2)

/-- The instruction at an index of a program holds ENTRY (R78 to R80); a bank word beyond the image holds none (DESIGN
CHOICE, log entry 156). -/
def isEntry (p : Program) (i : Nat) : Bool := decide (i < p.insnCount) && (vword (tabGet 0 p.words i)).verb == 0x35#6

/-- The condition of JC or JNC holds (R77). -/
def jumpTaken (e : Engine) (v : VWord) : Bool :=
  let hit := if v.p then (e.acc &&& e.cmask) != 0 else e.acc.getLsbD 0
  if v.verb = 0x31#6 then hit else if v.verb = 0x32#6 then !hit else true

/-- The lane clocks of a verb (R63). -/
def verbClocks (e : Engine) (v : VWord) : Nat :=
  let c := v.verb.toNat
  if c = 0x30 ∨ c = 0x33 ∨ c = 0x34 then 3
  else if c = 0x31 ∨ c = 0x32 then (if jumpTaken e v then 3 else 1)
  else if v.p ∧ timerHalf v ∧ (c ≤ 0x08 ∨ c = 0x14 ∨ c = 0x15 ∨ isTimerVerb v.verb) then 4
  else 1

/-- The flow and stack conditions under which a verb traps (R67, R78 to R81). -/
def flowTraps (p : Program) (e : Engine) (v : VWord) : List Nat :=
  let t := v.op2.toNat
  match v.verb.toNat with
  | 0x14 | 0x15 => if 32 ≤ e.clause.length then [trapClauseOverflow] else []
  | 0x16 | 0x17 => if e.clause.isEmpty then [trapClauseUnderflow] else []
  | 0x30 | 0x31 | 0x32 =>
    if e.pc.toNat < t ∧ t < p.insnCount then (if isEntry p t then [trapCallTarget] else []) else [trapFlowBackward]
  | 0x33 => (if isEntry p t then [] else [trapCallTarget]) ++ (if 8 ≤ e.call.length then [trapCallOverflow] else [])
  | 0x34 => if e.call.isEmpty then [trapCallUnderflow] else []
  | 0x35 => if e.viaCall then [] else [trapCallTarget]
  | 0x38 => (if e.clause.isEmpty then [] else [trapClauseOpenAtEnd]) ++ (if e.call.isEmpty then [] else [trapEndInSubroutine])
  | _ => []

/-- A jump or a call reads its target word, which must not hold an uncorrectable error (R52, R78, R79). -/
def targetBad (bank : Bool) (w : Work) (v : VWord) : Bool :=
  decide (0x30 ≤ v.verb.toNat) && decide (v.verb.toNat ≤ 0x33) && w.st.bad.contains (.insn bank v.op2.toNat)

/-- Every trap condition a word meets (R61 to R82); a word that cannot be read meets STORE_ECC alone. -/
def trapsOf (p : Program) (bank : Bool) (w : Work) (v : VWord) : List Nat :=
  if w.st.bad.contains (.insn bank w.eng.pc.toNat) then [trapStoreEcc] else
  match verbForm v.verb with
  | none => [trapIllegalVerb]
  | some f =>
    (if formBad v f then [trapIllegalForm] else [])
    ++ (if f.operand ≠ .none ∧ inRange v = false then [trapOperandRange] else [])
    ++ (if baseHit w v then [trapOperandRange] else [])
    ++ (if readOnly v f then [trapReadOnly] else [])
    ++ flowTraps p w.eng v
    ++ (if p.wcet < w.eng.clocks + verbClocks w.eng v then [trapFlowGuard] else [])
    ++ (if f.operand ≠ .none ∧ eccHit w v then [trapStoreEcc] else [])
    ++ (if targetBad bank w v then [trapStoreEcc] else [])

/-- The cause recorded: the lowest code among the conditions met (R86). -/
def trapOf (p : Program) (bank : Bool) (w : Work) (v : VWord) : Option Nat :=
  match trapsOf p bank w v with
  | [] => none
  | c :: cs => some (cs.foldl min c)

/-- A lane's logic engine traps (R86, R87): nothing else takes place, the engine stops, the cause and the index are
recorded, and a lane fault is raised. -/
def trap (l : Lane) (cause : Nat) (sweep : Bool) (s : State) : State :=
  let bank := (s.bank.at l).active
  let index := if sweep then 0 else (s.eng.at l).pc.toNat
  let s := { s with eng := s.eng.upd l (fun e => { e with run := .stopped }) }
  let s := updLane l (fun r => { r with
    trap := pack [(1, 31), (cause, 0)]
    trapIndex := pack [(b2n bank, 31), (b2n sweep, 30), (index, 0)] }) s
  laneFault l (trapFlag cause) s

/-- A word of a lane's on-chip stores holds an uncorrectable error from now on (R52, R517): an engine that runs has read it
and traps, and without one the lane fault stands alone. -/
def badWord (x : StoreLoc) (l : Lane) (s : State) : State :=
  let s := { s with st := s.st.upd l (fun st => { st with bad := x :: st.bad }) }
  if (s.eng.at l).run = .running then trap l trapStoreEcc false s else laneFault l 4 s

/-- The fault word after a FAULT of a class and code is taken (R84, R85). -/
def addFault (fw : W64) (cls : BitVec 2) (code : BitVec 16) : W64 :=
  let n := (fw.extractLsb' 16 8).toNat
  let fw := if n = 0 then merge 0xFFFF fw (code.setWidth 64) else fw
  let fw := merge 0xFF0000 fw (BitVec.ofNat 64 (min (n + 1) 255) <<< 16)
  let fw := if cls = 1#2 then putBit fw 62 true else fw
  if cls = 2#2 then putBit fw 63 true else fw

end Sys2Proof.Machine
end

