-- ==== Sys2Proof/Machine/StoreOps.lean ====
section
/-! DEFINITION. What the code store holds (R394, R444, R445, R457 to R462): option copies, the firmware header, program
banks (R88, R122, R322, R325) read from their bytes. -/
namespace Sys2Proof.Machine

/-- Every byte of a list is zero. -/
def zeros (b : List Byte) : Bool := b.all (· == 0)

/-- A table of a list of values from key k on, in one pass. -/
def tabOf {α : Type} [DecidableEq α] (d : α) : Nat → List α → Tab α
  | _, [] => []
  | k, v :: vs => if v = d then tabOf d (k + 1) vs else (k, v) :: tabOf d (k + 1) vs

/-- n words of w bytes each from a list of bytes. -/
def wordsOf (w : Nat) : Nat → List Byte → List Nat
  | 0, _ => []
  | n + 1, b => leNat (b.take w) :: wordsOf w n (b.drop w)

/-! ### Options (R444, R445) -/

/-- The code store addresses of the option copies (R458). -/
def optAddr (n : Nat) : Nat := if n = 0 then 0x40000 else 0x60000

/-- 128 option bytes are valid (R444, R445). -/
def optionsValid (b : List Byte) : Bool :=
  decide (b.length = 128) && decide (leAt b 2 1 = 1) && decide (leAt b 3 1 < 16) && zeros (b.drop 12)

/-- A good option copy: its 128 bytes (R445). -/
def goodOptions (s : State) (n : Nat) : Option (List Byte) :=
  let a := optAddr n
  let b := storeBytes s a 128
  if optionsValid b && decide ((checkOf 0x0E a 0 b).toNat = leNat (storeBytes s (a + 128) 4)) then some b else none

/-- Sequence number x is newer than y under R11 taken modulo 2^16 (R445, R473). -/
def newerSeq (x y : Nat) : Bool :=
  let d := (x + 0x10000 - y % 0x10000) % 0x10000
  decide (1 ≤ d) && decide (d ≤ 0x7FFF)

/-! ### The firmware header (R461) -/

/-- The code store address of the firmware header. -/
def fwAddr : Nat := 0x400000

/-- A firmware header is well formed: MAGIC, LENGTH, zero bytes. -/
def fwHeaderOk (b : List Byte) : Bool :=
  decide (b.length = 256) && decide (leAt b 0 4 = 0x57465456) && decide (1 ≤ leAt b 8 4) && decide (leAt b 8 4 ≤ 33554176)
    && zeros (sub b 28 100) && zeros (b.drop 192)

/-- The code store's firmware header, when it is well formed. -/
def fwHeader (s : State) : Option (List Byte) :=
  let b := storeBytes s fwAddr 256
  if fwHeaderOk b then some b else none

/-- The check of a firmware image (R386, R461). -/
def fwImageCheck (h img : List Byte) : W32 := checkOf 0x0C (leAt h 8 4) (leAt h 4 4) img

/-- The bytes a firmware signature covers (R461). -/
def fwSigned (h img : List Byte) : List Byte := h.take 24 ++ sub h 28 100 ++ img

/-! ### Program images (R88, R122, R322, R325) -/

/-- The code store addresses of a bank and of its mirror (R458). -/
def bankAddr (n : Bool) : Nat := if n then 0x3400000 else 0x2400000
def mirrorAddr (n : Bool) : Nat := if n then 0x3C00000 else 0x2C00000

/-- The check of a program image (R386). -/
def imgCheckOf (img : List Byte) : W32 := checkOf 0x02 img.length (leAt img 88 4) img

/-- HDR_CHECK verifies (R88, R386). -/
def hdrCheckOk (img : List Byte) : Bool := decide ((checkOf 0x01 0 0 (img.take 120)).toNat = leAt img 120 4)

/-- An entry of a state map (R326). -/
def mapEntry (b : List Byte) : MapEntry :=
  let w := leAt b 0 8
  { kind := w / 2 ^ 60, units := w / 2 ^ 48 % 2 ^ 12 + 1, old := w / 2 ^ 18 % 2 ^ 18, new := w % 2 ^ 18
    mask := BitVec.ofNat 64 (leAt b 8 8) }

/-- The entries of a state map. -/
def mapEntries : Nat → List Byte → List MapEntry
  | 0, _ => []
  | n + 1, b => mapEntry b :: mapEntries n (b.drop 16)

/-- The state map of an image, at an offset and of a length in bytes, both from header word 8 (R88, R325). A map whose
header and entries do not fill its length is malformed (DESIGN CHOICE, log entry 174). -/
def stateMap (img : List Byte) (off len : Nat) : StateMap :=
  let b := img.drop off
  let n := leAt b 0 2
  let gaps := (List.range n).all (fun i => decide (leAt b (32 + 16 * i) 8 / 2 ^ 36 % 2 ^ 12 = 0))
  { fromId := BitVec.ofNat 64 (leAt b 8 8), xclocks := leAt b 16 4, entries := mapEntries n (b.drop 32)
    checkOk := decide ((checkOf 0x03 n 0 (b.take 24 ++ sub b 32 (16 * n))).toNat = leAt b 24 4)
    formOk := decide (leAt b 4 4 = 0x53544D50) && decide (leAt b 2 2 = 0) && decide (leAt b 20 4 = 0) && decide (leAt b 28 4 = 0)
      && decide (len = 32 + 16 * n) && gaps }

/-- The placement table of an image (R103, R105): Famet's format. It names nodes, 1 to 254, and bits of the field input
image, words 0x0000 to 0x0FFF (R57). -/
def placementOf (b : List Byte) : List Place :=
  (Config.placement b).filterMap (fun x =>
    if h : x.1 < 4 ∧ 1 ≤ x.2.1 ∧ x.2.1 ≤ 254 ∧ x.2.2.2.1 < 0x40000 then some { ring := ⟨x.1, h.1⟩, addr := x.2.1, src := x.2.2.1, dst := x.2.2.2.1, safe := x.2.2.2.2 }
    else none)

/-- A program read from its image (R88). -/
def programOf (img : List Byte) : Program :=
  let n := leAt img 8 8
  let timer := leAt img 40 4
  let top := leAt img 24 8
  let mapOff := leAt img 68 4
  let mapLen := leAt img 64 4
  { insnCount := n, wcet := leAt img 16 4, nounTop := top, retStart := leAt img 32 8 / 2 ^ 32 % 2 ^ 18
    retLen := leAt img 32 8 % 2 ^ 18, subrCount := leAt img 72 1, build := BitVec.ofNat 64 (leAt img 80 8)
    id := BitVec.ofNat 64 (leAt img 88 8)
    words := tabOf 0 0 ((wordsOf 8 n (img.drop 128)).map (BitVec.ofNat 64))
    timerImg := tabOf 0 0 ((wordsOf 4 65536 (img.drop timer)).map (BitVec.ofNat 32))
    nounImg := tabOf 0 0 ((wordsOf 8 top (img.drop (timer + 0x40000))).map (BitVec.ofNat 64))
    safe := tabOf 0 0 ((wordsOf 8 4096 (img.drop (leAt img 48 4))).map (BitVec.ofNat 64))
    placement := placementOf (img.drop (leAt img 56 4))
    map := if mapOff = 0 ∧ mapLen = 0 then none else some (stateMap img mapOff mapLen), imgCheck := imgCheckOf img }

/-- The header fields keep to R88. -/
def headerOk (img : List Byte) : Bool :=
  decide (128 ≤ img.length) && decide (leAt img 4 4 = 0x434C4155) && decide (leAt img 2 2 = 3) && decide (leAt img 0 2 = 0x10)
    && decide (1 ≤ leAt img 8 8) && decide (leAt img 8 8 ≤ 0x40000) && decide (1 ≤ leAt img 24 8)
    && decide (leAt img 24 8 ≤ 0x40000) && zeros (sub img 96 24)

/-- The limits of R122. -/
def limitsOk (p : Program) : Bool :=
  decide (p.retLen ≤ 0x2000) && decide (p.retStart + p.retLen ≤ p.nounTop)
    && decide ((p.timerImg.filter (fun e => (timerCell e.2).ret)).length ≤ 4096)
    && p.timerImg.all (fun e => (timerCell e.2).base != 3#2) && decide (4097 ≤ p.wcet)

/-- The length of the image in a bank. -/
def bankLen (s : State) (n : Bool) : Nat := if n then s.dir.len1 else s.dir.len0

/-- The image of a bank of the code store: its IMG_CHECK verifies, or its data equal the mirror's byte for byte, so that the
check value alone is repaired and the image is accepted (R394, R395, R459); else the bank is bad. -/
def bankImage (s : State) (n : Bool) : Option (List Byte) :=
  let len := bankLen s n
  let img := storeBytes s (bankAddr n) len
  if len = 0 then none
  else if (imgCheckOf img).toNat = leNat (storeBytes s (bankAddr n + len) 4) ∨ img = storeBytes s (mirrorAddr n) len then some img
  else none

/-- The program a lane loads from a bank of the code store (R88, R122, R323); none when it is refused. -/
def loadProgram (s : State) (n : Bool) : Option Program :=
  match bankImage s n with
  | none => none
  | some img =>
    if hdrCheckOk img && headerOk img && limitsOk (programOf img) then some (programOf img) else none

/-! ### Staging (R328, R340) -/

/-- Two entries of a state map write the same unit (R328). -/
def entryClash (a b : MapEntry) : Bool :=
  let noun := fun (e : MapEntry) => decide (1 ≤ e.kind) && decide (e.kind ≤ 3)
  ((noun a && noun b) || (a.kind == 5 && b.kind == 5 || a.kind == 4 && b.kind == 4))
    && decide (a.new < b.new + b.units) && decide (b.new < a.new + a.units) && (a.kind == 4 || (a.mask &&& b.mask) != 0)

/-- No entry of a list clashes with a later one. -/
def noClash : List MapEntry → Bool
  | [] => true
  | e :: es => es.all (fun x => !entryClash e x) && noClash es

/-- One entry keeps to R326 and R328. -/
def entryOk (old new : Program) (e : MapEntry) : Bool :=
  match e.kind with
  | 1 | 2 => decide (e.old + e.units ≤ old.nounTop) && decide (e.new + e.units ≤ new.nounTop)
  | 3 => decide (e.old = 0) && decide (e.new + e.units ≤ new.nounTop)
  | 4 => decide (e.old + e.units ≤ 0x10000) && decide (e.new + e.units ≤ 0x10000) && e.mask == 0
  | 5 => decide (e.old + e.units ≤ 0x1000) && decide (e.new + e.units ≤ 0x1000)
  | _ => false

/-- The units of the entries that satisfy p. -/
def unitsWhere (es : List MapEntry) (p : MapEntry → Bool) : Nat := (es.filter p).foldl (fun n e => n + e.units) 0

/-- An entry that carries whole words where they stand. -/
def keeps (e : MapEntry) : Bool := e.old == e.new && e.mask == 0xFFFFFFFFFFFFFFFF

/-- The translation length X (R340). -/
def xClocks (old new : Program) (es : List MapEntry) : Nat :=
  let noun := fun (e : MapEntry) => e.kind == 1 || e.kind == 2
  let kn := unitsWhere es (fun e => noun e && keeps e)
  let ko := unitsWhere es (fun e => e.kind == 5 && keeps e)
  let mn := unitsWhere es (fun e => noun e && e.old != e.new)
  let mt := unitsWhere es (fun e => e.kind == 4 && e.old != e.new)
  let mo := unitsWhere es (fun e => e.kind == 5 && e.old != e.new)
  let p := unitsWhere es (fun e => e.kind == 3)
  let rt := (new.timerImg.filter (fun e => (timerCell e.2).ret)).length
  64 + (new.nounTop - kn) + (old.nounTop - new.nounTop) + 2 * mn + 32768 + 2 * mt + (4096 - ko) + 2 * mo + p
    + new.retLen + (rt + 1) / 2

/-- The reason a bank is not staged (R328); 0 when none holds. The conditions are taken in the order of their codes,
SAME_ID last. -/
def stageReason (s : State) (old : Program) (img : Option (List Byte)) : Nat :=
  match img with
  | none => 3
  | some b =>
    let new := programOf b
    match new.map with
    | none => 1
    | some m =>
      let bad := !headerOk b || !limitsOk new || !m.formOk || !m.entries.all (entryOk old new) || !noClash m.entries
        || decide (m.entries.length < 1) || decide (8192 < m.entries.length)
        || decide (4096 < unitsWhere m.entries (fun e => e.kind == 3)) || m.xclocks != xClocks old new m.entries
      let absent := new.placement.any (fun x => !((s.ring.at x.ring).table.any (fun e => e.addr == x.addr)))
      if m.fromId ≠ old.id then 2
      else if !hdrCheckOk b || !m.checkOk then 3
      else if bad then 4
      else if budget s < m.xclocks + new.wcet then 5
      else if absent then 6
      else if new.id = old.id then 0xC
      else 0

end Sys2Proof.Machine
end

