-- ==== Sys2Proof/Machine/FollowOps.lean ====
section
/-! DEFINITION. Following (R305 to R310), the program exchange as the records bring it (R329 to R335), handovers and
rotation (R313 to R317). -/
namespace Sys2Proof.Machine

/-- A command joins those held in order of acceptance; one from the host port goes before those that Ethernet completed in
the same clock (R111). -/
def holdCmd (c : HeldCmd) (cs : List HeldCmd) : List HeldCmd :=
  let late := if c.eth then [] else (cs.reverse.takeWhile (fun x => x.eth && x.when == c.when)).reverse
  cs.take (cs.length - late.length) ++ c :: late

/-! ### Comparing commits (R308) -/

/-- The standby's commit differs from the holder's (R308): OUT, a cell on both modules. A module that is proving goes on
until one cycle matches (R310), and a frozen one leaves FROZEN by R305 alone. -/
def followMismatch (cycle : W32) (s : State) : State :=
  if s.crown.state ≠ .inStep then s else
  let cell := newCell s (Note.source .followMismatch) (.note .followMismatch [cycle.toNat])
  let s := record 0 .followMismatch [cycle.toNat] s
  enterOut { s with comb := { s.comb with events := s.comb.events ++ [cell] } }

/-- The module compares its commits with the holder's: PROVING, IN_STEP or FROZEN. -/
def compares (s : State) : Bool := s.crown.state == .proving || following s

/-- A cycle that the holder committed as NORMAL stays uncompared: the fourth in a row counts as a mismatch (R308). -/
def countUncompared (cycle : W32) (s : State) : State :=
  let n := s.crown.uncompared + 1
  let s := { s with crown := { s.crown with uncompared := n } }
  if 4 ≤ n then followMismatch cycle s else s

/-- L(n + 1) has passed for the module's own cycle n (R95, R308). -/
def compareLate (n : W32) (s : State) : Bool :=
  decide ((if s.cyc.n = n then s.cyc.b + tProg s else s.cyc.b) + 4000 < ringNow s)

/-- A NORMAL commit of the holder against the module's own of the same cycle (R308). -/
def compareNormal (b : CommitBody) (own : OwnCommit) (s : State) : State :=
  match own.digest with
  | none => countUncompared b.cycle s
  | some d =>
    if compareLate b.cycle s then countUncompared b.cycle s
    else if d = b.digest then
      let s := { s with crown := { s.crown with matched := b.cycle, uncompared := 0 } }
      if s.crown.state = .proving then setCrown .inStep s else s
    else followMismatch b.cycle s

/-- Both commits of a cycle are at hand (R308). -/
def compareCommits (s : State) : State :=
  match s.crown.heard, s.crown.own with
  | some b, some own =>
    if compares s && b.cycle == own.cycle then
      let s := { s with crown := { s.crown with heard := none } }
      if b.kind = .normal then compareNormal b own s else s
    else s
  | _, _ => s

/-- The holder's commit heard before this one found none of the module's own to compare with (R308). -/
def missedCommit (s : State) : State :=
  match s.crown.heard with
  | some b =>
    if compares s && b.kind == .normal then countUncompared b.cycle { s with crown := { s.crown with heard := none } } else s
  | none => s

/-! ### Proving a copy (R310) -/

/-- The lanes that receive a resynchronisation copy: ready in STARTING, or voting. -/
def copyLanes (s : State) : List Lane :=
  lanes.filter (fun l => votes s l || (lstate s l == .starting && (laneOf s l).ready))

/-- State word i of a copy (R147): noun words, then timer cells two to a word. -/
def putStateWord (top i : Nat) (w : W64) (st : Stores) : Stores :=
  if i < top then { st with noun := tabSet 0 st.noun i w }
  else
    let c := 2 * (i - top)
    { st with timer := tabSet 0 (tabSet 0 st.timer c (w.extractLsb' 0 32)) (c + 1) (w.extractLsb' 32 32) }

/-- Pass 0: every state word in order. -/
def applyAll (top : Nat) : Nat → List W64 → Stores → Stores
  | _, [], st => st
  | i, w :: ws, st => applyAll top (i + 1) ws (putStateWord top i w st)

/-- A later pass: for each group of 64 state words a bitmap word, then the words it marks (R148). Works through columns j
of the group from word `base`, with `fuel` words left to read. -/
def applyMarked (top : Nat) : Nat → Nat → Nat → W64 → List W64 → Stores → Stores
  | 0, _, _, _, _, st => st
  | fuel + 1, base, 64, _, m :: ws, st => applyMarked top fuel (base + 64) 0 m ws st
  | _ + 1, _, 64, _, [], st => st
  | fuel + 1, base, j, m, ws, st =>
    if m.getLsbD j then
      match ws with
      | w :: ws => applyMarked top fuel base (j + 1) m ws (putStateWord top (base + j) w st)
      | [] => st
    else applyMarked top fuel base (j + 1) m ws st

/-- A pass's words written into a lane's stores. -/
def applyPass (top pass : Nat) (ws : List W64) (st : Stores) : Stores :=
  if pass = 0 then applyAll top 0 ws st
  else
    match ws with
    | [] => st
    | m :: rest => applyMarked top (65 * (rest.length + 1) + 65 * ((top + 32768) / 64 + 1)) 0 0 m rest st

/-- The state words of a lane in the order of R147; of two timer cells the even one lies low (DESIGN CHOICE, log entry 163).
-/
def stateWord (top : Nat) (noun : Tab W64) (timer : Tab W32) (i : Nat) : W64 :=
  if i < top then tabGet 0 noun i
  else ((tabGet 0 timer (2 * (i - top) + 1)) ++ (tabGet 0 timer (2 * (i - top)))).setWidth 64

/-- NOUN_TOP of the active program. -/
def nounTop (s : State) : Nat := ((moduleProg s).map (fun p => p.nounTop)).getD 0

/-- The check of a resynchronisation pass (R310). -/
def copyCheck (pass : Nat) (cycle : W32) (ws : List W64) : W32 := checkOf 0x08 pass cycle.toNat (ws.flatMap wordBytes)

/-- The final pass is good (R310): PROVING from the next cycle; the program counts as resynchronised, with WARM_FAIL 0
(DESIGN CHOICE, log entry 161). -/
def beginProving (b : CopyBody) (s : State) : State :=
  let bm := b.snapAt / max 1 (tProg s) * tProg s
  let s := setCrown .proving { s with
    crown := { s.crown with own := none, heard := none, uncompared := 0 }
    cyc := { s.cyc with
      on := true, n := b.cycle, b := bm, bPrev := bm - tProg s, firstAt := bm + tProg s, first := .none, ebZero := false
      phase := .idle, res := none, takeover := false, prevSkipped := false, restartCommit := true
      img := ((moduleProg s).map (fun p => p.safe)).getD [], imgFault := 0, imgCycle := b.cycle }
    glb := { s.glb with restartType := 3, warmFail := 0, restartCycle := b.cycle + 1, skipConsec := 0 } }
  (copyLanes s).foldl (fun s l => { s with
    eng := s.eng.put l {}
    lane := s.lane.upd l (fun r => { r with primes := [], skipConsec := 0 }) }) s

/-- A COPY pass reaches a module in COPYING (R310). -/
def takePass (b : CopyBody) (s : State) : State :=
  if b.pass ≠ s.crown.pass ∨ b.check ≠ copyCheck b.pass b.cycle b.words then enterSeeking s
  else
    let top := nounTop s
    let s := (copyLanes s).foldl (fun s l => { s with st := s.st.upd l (applyPass top b.pass b.words) }) s
    let s := { s with crown := { s.crown with pass := b.pass + 1, combSeq := some b.combSeq } }
    if ringNow s < (b.snapAt / max 1 (tProg s) + 1) * tProg s + 4000 then beginProving b s
    else if 64 ≤ b.pass + 1 then enterSeeking s
    else s

/-- A module in SEEKING may begin a copy with this record (R305, R310). -/
def copyBegins (b : CopyBody) (s : State) : Bool :=
  s.crown.state == .seeking && s.crown.renewed && s.crown.statusSent && decide (refusalReasons s = 0)
    && !s.crown.hold && decide (b.pass = 0)

/-- Puts a program into a lane's bank. -/
def putBank (n : Bool) (p : Option Program) (b : Banks) : Banks := if n then { b with bank1 := p } else { b with bank0 := p }

/-- The inactive bank becomes the active one, in the keep domain first; the bank directory follows (R322). A lane that had
reported ready without staging it loads it from the code store (R323, R346; DEDUCED, log entry 172). -/
def activateBank (s : State) : State :=
  let n := !s.keep.bank
  let p := loadProgram s n
  let s := unstage { s with
    bank := s.bank.map (fun l x =>
      { (if x.staged || !(laneOf s l).ready then x else putBank n p x) with active := n, result := 0 }) }
  { s with keep := { s.keep with bank := n }, px := { s.px with dirAt := some s.clk.now } }

/-- A module in SEEKING makes its staged inactive bank active when the holder's COPY names its program (R335); nothing is
staged any more, so the exchange state is IDLE (DESIGN CHOICE, log entry 171). -/
def adoptBank (b : CopyBody) (s : State) : State :=
  if programId s ≠ b.activeId
      ∧ lanes.any (fun l => (s.bank.at l).staged && ((inactiveProg s l).map (fun p => p.id)) == some b.activeId) then
    setPx .idle 0 (activateBank s)
  else s

/-- A COPY record (R310, R335, R482). -/
def takeCopy (b : CopyBody) (s : State) : State :=
  if s.crown.state = .seeking then
    let new := adoptBank b s
    if copyBegins b new && programId new == b.activeId && !s.upd.pairMismatch then
      takePass b (setCrown .copying { new with crown := { new.crown with pass := 0 } })
    else s
  else if s.crown.state = .copying then takePass b s
  else s

/-! ### The exchange word (R330 to R335) -/

/-- GO for h has been sent or received (R333, R335, R337): the staged bank becomes the active one at C(h). GO names its
IMG_CHECK (R330). -/
def switchBanks (s : State) : State :=
  let s := bumpCounter 5 (setPx .switching 0 { s with px := { s.px with goCheck := stagedCheck s } })
  let s := activateBank { s with px := { s.px with
    swap := true, lastH := s.px.h, hSkipped := s.cyc.prevSkipped, switches := satAdd s.px.switches 1 0xFFFF } }
  { s with cyc := { s.cyc with first := .exchange } }

/-- Ring time is at or before B(h + 1) − 1 µs (R335). -/
def goInTime (s : State) : Bool := s.cyc.n == s.px.h && decide (ringNow s + 1000 ≤ s.cyc.b + tProg s)

/-- A standby that holds COMMIT(h) with GO and has made its own commit of h switches, or enters OUT: with fewer than two
lanes that hold the staged bank, or when the record came too late (R335, R337). -/
def settleGo (s : State) : State :=
  let w := s.px.partner
  if !crowned s && s.px.state == .agreed && w.state == .go && w.cycle == s.px.h && s.px.partnerCycle == s.px.h
      && w.img == stagedCheck s && s.keep.lastCommit == some s.px.h then
    (if !goInTime s then enterOut (cancelPx 0x0B s)
     else if 2 ≤ (stagedLanes s).length then switchBanks s
     else enterOut (cancelPx 0x07 s))
  else s

/-- The partner has cancelled (R334): nothing is told back. -/
def cancelled (reason : Nat) (s : State) : State :=
  let s := cancelPx reason s
  { s with px := { s.px with cancel := none } }

/-- The standby acts on the holder's exchange word (R329, R334, R335). -/
def followExchange (b : CommitBody) (s : State) : State :=
  let s := { s with px := { s.px with partner := b.xw, partnerCycle := b.cycle } }
  if crowned s then s else
  match b.xw.state with
  | .agreed =>
    if s.px.state = .staged ∧ b.xw.img = stagedCheck s ∧ s.crown.state = .inStep then
      setPx .agreed 0 { s with px := { s.px with h := b.xw.cycle } }
    else s
  | .go => settleGo s
  | .cancel => cancelled b.xw.reason s
  | _ => s

/-! ### STATUS -/

/-- A LEASE record (R298, R299, R303). -/
def takeLease (b : LeaseBody) (s : State) : State :=
  let s := { s with crown := { s.crown with settingsDiff := !settingsAgree s b, partner := 8 } }
  if b.renew then takeAcked b.ts b.epoch s else s

/-- A STATUS record (R302, R310, R329). -/
def takeStatus (b : StatusBody) (s : State) : State :=
  let s := { s with
    crown := { s.crown with
      partner := b.state % 16, partnerVoting := b.voting, partnerDeg := b.degraded, partnerTest := b.testing
      partnerRejoin := b.xw.rejoin, released := s.crown.released && decide (b.state ≠ 4) }
    px := { s.px with partner := b.xw, partnerCycle := b.cycle } }
  let s := if b.xw.state = .cancel then cancelled b.xw.reason s else s
  if crowned s then
    let asks := decide (b.state = 1) && decide (b.refuse.toNat / 2 = 0)
    let sending := if b.state = 2 then s.crown.sending
      else if asks then some {} else none
    { s with crown := { s.crown with sending := sending } }
  else s

/-! ### Handover and rotation (R313 to R317) -/

/-- What postpones an offer (R313, R316). -/
def offerPostponed (why : OfferWhy) (s : State) : Bool :=
  let two := fun (v : Tri Bool) => decide (2 ≤ (lanes.filter (fun l => v.at l)).length)
  decide (s.crown.partner ≠ 4) || s.crown.partnerRejoin || s.crown.partnerTest || s.vote.mode == .halted
    || !decide (2 ≤ (voters s).length) || !two s.crown.partnerVoting
    || (why != .degraded && (s.vote.rejoin.isSome || s.vote.mode == .degraded || s.crown.partnerDeg
          || s.px.state == .agreed || s.px.state == .switching))

/-- The holder offers a handover, at least 8 program cycles ahead, or postpones it (R313, R316). -/
def offerHandover (why : OfferWhy) (s : State) : State :=
  if s.crown.ho.isSome then s
  else if offerPostponed why s then
    { s with crown := { s.crown with
        retry := some why, retryAt := s.clk.now
        postponed := if why = .degraded then s.crown.postponed else satAdd s.crown.postponed 1 0xFFFF } }
  else
    let h := s.keep.lastCommit.getD 0 + 9
    send (.offer h (s.crown.epoch + 1))
      { s with crown := { s.crown with ho := some { h := h, why := why }, retry := none } }

/-- The standby takes the crown at an orderly handover (R313): it stores the epoch and enters CROWNED. Its first beacon has
STEP 0 and, as the time master is then its own, HANDOVER 1 (R217; DEDUCED, log entry 166). -/
def takeByHandover (s : State) : State :=
  let e := s.crown.followed + 1
  let h := (s.crown.ho.map (fun x => x.h)).getD 0
  let now := ringNow s
  let s := seqJump (seeEpoch e s)
  let s := setCrown .crowned { s with crown := { s.crown with
    epoch := e, tAck := now, lastTs := 0, lease := leaseNs s, closed := false, solo := false, view := none, ho := none
    handovers := satAdd s.crown.handovers 1 0xFFF, heldFrom := s.clk.lifeUs, changeCycle := h + 1, byStart := false
    firstLatch := true, partnerLocked := false } }
  let s := cancelPx 0x09 (onCandidate (bumpCounter 4 s))
  setPermits { s with
    tb := { s.tb with stepBeacon := false, handBeacon := true }
    door := { s.door with cx := s.door.cx.map (fun x => (x.1, breakQuiet x.2)), cy := s.door.cy.map (fun x => (x.1, breakQuiet x.2)) }
    vote := { s.vote with committed := true, haltRestart := none }
    ring := s.ring.map (fun _ p => { p with
      toWin := false, wrapped := none, healReady := false, sent := none, claim := { p.claim with state := .idle } }) }

/-- COMMIT(h) and the standby's own commit of h are both at hand (R313, R314). -/
def settleHandover (s : State) : State :=
  match s.crown.ho, s.crown.own with
  | some x, some own =>
    if s.crown.state = .inStep ∧ x.accepted = true ∧ own.cycle = x.h ∧ x.digest.isSome then
      (if own.digest = x.digest then takeByHandover s else { s with crown := { s.crown with ho := none } })
    else s
  | _, _ => s

/-- The holder ceases to hold at C(h) (R313, R314): it has sent COMMIT, its permits go low, it counts as IN_STEP. -/
def giveCrown (x : Handover) (digest : W32) (s : State) : State :=
  let s := send (.handover x.h digest) s
  let s := leaveDualAll s
  let s := setCrown .inStep { s with crown := { s.crown with
    followed := s.crown.epoch, view := some (s.crown.lastTs + leaseNs s), ho := none, sending := none
    handovers := satAdd s.crown.handovers 1 0xFFF, own := none, heard := none, uncompared := 0, parts := []
    latch := none, matched := x.h, finalLatch := true, degRestart := x.why == .degraded || s.vote.graceEnd.isSome
    rotStop := x.why != .degraded && s.vote.graceEnd.isNone
    waitFrom := s.clk.now } }
  dropPermits (cancelPx 0x09 (bumpCounter 4 s))

/-- A handover that the holder withdraws (R313). -/
def cancelHandover (x : Handover) (s : State) : State :=
  send (.cancel x.h) { s with crown := { s.crown with
    ho := none, retry := some x.why, retryAt := s.clk.now } }

end Sys2Proof.Machine
end

