-- ==== Sys2Proof/Machine/Latch.lean ====
section
/-! DEFINITION. The input latch (R57, R58, R92 to R113, R173, R252 to R254, R306): NODE_LOST, the command image, the
lanes' input images, and the LATCH record. -/
namespace Sys2Proof.Machine

/-- A lane takes part in the program cycle: it votes, or it starts with the restart whose first commit is still to come
(R145; log entry 7). -/
def takesPart (s : State) (l : Lane) : Bool :=
  votes s l || (s.cyc.restartCommit && lstate s l == .starting && (laneOf s l).ready)

/-- The lanes that take part in the program cycle. -/
def partLanes (s : State) : List Lane := lanes.filter (takesPart s)

/-- A lane latches inputs. -/
def latches (s : State) (l : Lane) : Bool := takesParts (laneOf s l) && (laneOf s l).ready

/-! ### NODE_LOST -/

/-- The join request is the latest part accepted. -/
def joinLatest (v : NodeView) : Bool :=
  match v.join, v.part with
  | some j, some p => decide (p.1 < j.1)
  | some _, none => true
  | none, _ => false

/-- The ring time of the frame of the latest part accepted. -/
def latestAt (v : NodeView) : Option Nat :=
  if joinLatest v then v.join.map Prod.fst else v.part.map (fun p => p.1)

/-- The latest part lies within the frames of R95 for a latch at b. -/
def inFrames (s : State) (b : Nat) (v : NodeView) : Bool :=
  match latestAt v with
  | some x => decide (b ≤ x + tProg s) && decide (x + tRing s ≤ b)
  | none => false

/-- The age test of R253. -/
def youngEnough (s : State) (r : Ring) (b : Nat) (v : NodeView) : Bool :=
  decide ((BitVec.ofNat 16 (seqAt s b) - v.beacon).toNat ≤ ageLimit s r)

/-- The input part that serves the latch at b, if one does (R103, R105, R253, R254). -/
def servingPart (s : State) (r : Ring) (b : Nat) (v : NodeView) : Option (List Byte) :=
  if inFrames s b v && youngEnough s r b v && !joinLatest v then v.part.map (fun p => p.2.2) else none

/-- JTAG of an ISTAT (R238). -/
def jtagOf (istat : W16) : Byte := istat.extractLsb' 8 8

/-- A node's view after a latch that `part` serves or not (R105, R107, R243). -/
def latchView (part : Option (List Byte)) (v : NodeView) : NodeView :=
  if part.isSome then { v with lost := false, join := none, tag := none }
  else { v with lost := true, tag := v.join.map (fun j => jtagOf j.2) }

/-- One node at a latch: its view, the lane's counters, and the part placed. -/
def latchNode (s : State) (b : Nat) (r : Ring) (e : SecEntry) (tg : Telegrams) : Telegrams × Option (List Byte) :=
  let v := viewOf tg (nodeKey r e.addr)
  let part := servingPart s r b v
  let aged := inFrames s b v && !youngEnough s r b v
  ({ tg with
      nodes := kvPut tg.nodes (nodeKey r e.addr) (latchView part v)
      aged := satAdd tg.aged (b2n aged) 0xFFFF
      rejoined := satAdd tg.rejoined (b2n (v.lost && part.isSome)) 0xFFFF
      lostNow := tg.lostNow + b2n part.isNone }, part)

/-- The nodes of the section tables in force. -/
def allNodes (s : State) : List (Ring × SecEntry) := rings.flatMap (fun r => (s.ring.at r).table.map (fun e => (r, e)))

/-- Every node at a latch of one lane: its telegrams and the parts placed by node key. -/
def latchNodes (s : State) (b : Nat) (tg : Telegrams) : Telegrams × List (Nat × List Byte) :=
  (allNodes s).foldl (fun acc x =>
    let r := latchNode s b x.1 x.2 acc.1
    (r.1, match r.2 with
      | some p => kvPut acc.2 (nodeKey x.1 x.2.addr) p
      | none => acc.2)) ({ tg with lostNow := 0, parts := 0 }, [])

/-! ### The image -/

/-- Sets one bit of a word of an image. -/
def setImageBit (t : Tab W64) (w j : Nat) (b : Bool) : Tab W64 := tabSet 0 t w (putBit (tabGet 0 t w) j b)

/-- Bit k of a list of bytes. -/
def bitOf (b : List Byte) (k : Nat) : Bool := (b.getD (k / 8) 0).getLsbD (k % 8)

/-- A placed bit, or its safe value, with the node's NODE_LOST bit (R57, R103 to R105). -/
def placeBit (parts : List (Nat × List Byte)) (t : Tab W64) (x : Place) : Tab W64 :=
  match kvGet parts (nodeKey x.ring x.addr) with
  | some p => setImageBit t (x.dst / 64) (x.dst % 64) (bitOf p x.src)
  | none => setImageBit (setImageBit t (x.dst / 64) (x.dst % 64) x.safe) (0x1200 + 4 * x.ring.val + x.addr / 64) (x.addr % 64) true

/-- Takes the commands due at a latch, one per slot in order of acceptance (R108 to R111): the command image, the
commands that stay held, and how many are deferred for the first time. -/
def takeCmds (limit : Nat) : List HeldCmd → List Nat → Tab W64 → Tab W64 × List HeldCmd × Nat
  | [], _, img => (img, [], 0)
  | c :: cs, taken, img =>
    if limit < c.when then
      let r := takeCmds limit cs taken img
      (r.1, c :: r.2.1, r.2.2)
    else if taken.contains c.slot then
      let r := takeCmds limit cs taken img
      (r.1, { c with deferred := true } :: r.2.1, r.2.2 + b2n (!c.deferred))
    else takeCmds limit cs (c.slot :: taken) (tabSet 0 img (0x1000 + c.slot) c.value)

/-- The commands enter the latch at b (R109). -/
def latchCmds (s : State) : State × Tab W64 :=
  let r := takeCmds (s.cyc.b - 2000) s.cyc.cmds [] []
  ({ s with
      cyc := { s.cyc with cmds := r.2.1 }
      glb := { s.glb with cmdDeferred := satAdd s.glb.cmdDeferred r.2.2 0xFFFF } }, r.1)

/-- Word 0x1211 of a lane (R57, R173). -/
def vinWord (s : State) (l : Lane) : W16 :=
  let ev := s.vin.ev.at l
  BitVec.ofNat 16 ((List.range 8).foldl (fun n i =>
    let x := nthD {} ev i
    n + b2n x.closed * 2 ^ i + b2n (decide (x.cause ≠ 0)) * 2 ^ (8 + i)) 0)

/-- Word 0x1210 at a latch of the module's own (R58). At the latch of B(h + 1) after an orderly handover, which the old
holder makes for both, CROWNED reads 0 (DESIGN CHOICE, log entry 159). -/
def cycleFlagsWord (s : State) : W64 :=
  BitVec.ofNat 64 (b2n (s.cyc.first == .cold) + 2 * b2n (s.cyc.first == .warm) + 4 * b2n (s.cyc.first == .exchange)
    + 8 * b2n (crowned s) + 16 * b2n (s.vote.mode == .degraded) + 32 * b2n s.cyc.prevSkipped + 64 * b2n s.cyc.safeStop)

/-- Words 0x1210 to 0x1237 (R57, R96, R266) over an image. -/
def moduleWords (x : LatchLane) (n : W32) (b : Nat) (t : Tab W64) : Tab W64 :=
  let t := tabSet 0 (tabSet 0 t 0x1210 x.flags) 0x1211 (x.vin.setWidth 64)
  let t := tabSet 0 (tabSet 0 t 0x1212 (n.setWidth 64)) 0x1213 (BitVec.ofNat 64 b)
  tabSetList 0 t 0x1220 x.door

/-- A lane's input image changes at the latch; while the lane still runs the phase of the cycle before, it keeps the image
of that phase, and the new one waits (R57, R115). -/
def putImage (running : Bool) (img : Tab W64) (st : Stores) : Stores :=
  if running then { st with latched := some img } else { st with inp := img, latched := none }

/-- One lane's latch: NODE_LOST, its field inputs, commands and module words. -/
def latchLane (cmds : Tab W64) (x : LatchLane) (s : State) (l : Lane) : State :=
  let r := latchNodes s s.cyc.b (s.tg.at l)
  let places := ((activeProg s l).map (fun p => p.placement)).getD []
  let img := places.foldl (placeBit r.2) cmds
  { s with
    tg := s.tg.put l r.1
    st := s.st.upd l (putImage ((s.eng.at l).run == .running) (moduleWords x s.cyc.n s.cyc.b img)) }

/-- What the module's own LATCH record says for a lane. -/
def ownLatchLane (s : State) (l : Lane) : LatchLane :=
  { count := (s.tg.at l).parts, vin := vinWord s l, flags := cycleFlagsWord s, door := doorWords s.door }

/-- The LATCH record of cycle n (R295). -/
def latchBody (s : State) : LatchBody :=
  { cycle := s.cyc.n, b := s.cyc.b, lanes := ⟨ownLatchLane s .a, ownLatchLane s .b, ownLatchLane s .c⟩
    took := ⟨latches s .a, latches s .b, latches s .c⟩ }

/-- The module builds its image from its own lanes' parts; the holder sends LATCH while it is not HALTED
(R295, R312, R313). -/
def ownLatch (s : State) : State :=
  let x := latchBody s
  let tell := hasPartner s && s.vote.mode != .halted
  let s := if tell then send (.latch x) s else s
  let c := latchCmds s
  let s := lanes.foldl (fun s l => if latches s l then latchLane c.2 (x.lanes.at l) s l else s) c.1
  { s with cyc := { s.cyc with first := .none, latchSent := tell, imaged := true } }

/-! ### Following -/

/-- A part the holder's lane accepted enters the standby lane's view (R306). -/
def takePart (b : PartBody) (tg : Telegrams) : Telegrams :=
  let key := nodeKey b.ring b.addr
  let istat : W16 := BitVec.ofNat 16 (leAt b.part 0 2)
  let v := { viewOf tg key with iseq := b.iseq, istat := istat, beacon := b.beacon }
  if istat.getLsbD 1 then
    { tg with nodes := kvPut tg.nodes key { v with join := some (b.ringTime, istat) }
              joinReq := satAdd tg.joinReq 1 0xFFFF }
  else { tg with nodes := kvPut tg.nodes key { v with part := some (b.ringTime, b.beacon, b.part) } }

/-- The holder lane whose records a standby lane uses (R306). -/
def sourceLane (s : State) (x : LatchBody) (l : Lane) : Lane :=
  if x.took.at l then l else ((lanes.filter (fun m => s.crown.partnerVoting.at m && x.took.at m)).head?).getD l

/-- One standby lane's latch from the holder's records (R306). -/
def followLane (cmds : Tab W64) (x : LatchBody) (s : State) (l : Lane) : State :=
  let m := sourceLane s x l
  let ps := (s.crown.parts.filter (fun p => p.lanes.at m)).take (x.lanes.at m).count
  let s := { s with tg := s.tg.upd l (fun tg => ps.foldl (fun tg p => takePart p tg) tg) }
  latchLane cmds (x.lanes.at m) s l

/-- The latch of cycle n from the holder's records, at the latest at L(n) (R306). -/
def followLatch (x : LatchBody) (s : State) : State :=
  let c := latchCmds s
  let s := lanes.foldl (fun s l => if latches s l then followLane c.2 x s l else s) c.1
  { s with
    crown := { s.crown with
      parts := s.crown.parts.filter (fun p => decide (s.cyc.b ≤ p.ringTime)), latch := none, firstLatch := false }
    cyc := { s.cyc with first := .none, latchSent := false, imaged := true } }

/-! ### The instant -/

/-- The crown unit's state lets the program run: the holder, or a standby that proves or follows (R305, R306). -/
def runsCycles (s : State) : Bool := crowned s || s.crown.state == .proving || s.crown.state == .inStep

/-- The program-cycle boundary at or before a ring time. -/
def boundaryAt (s : State) (x : Nat) : Nat := x / max 1 (tProg s) * tProg s

/-- Cycles that pass between the latest commit and the first latch after taking the crown from followed state (R312). -/
def gapCycles (s : State) : Nat := 9998 * (s.clk.lifeUs - s.cyc.commitLife) * 1000 / (10000 * max 1 (tProg s))

/-- B(n) is reached: the cycle's number and instants (R92, R124, R312). -/
def openCycle (b : Nat) (s : State) : State :=
  let gap := if s.cyc.takeover then gapCycles s else 0
  let n := (if s.cyc.takeover then s.keep.lastCommit.getD 0 else s.cyc.n) + 1 + BitVec.ofNat 32 gap
  { s with
    crown := { s.crown with changeCycle := if s.cyc.takeover then n else s.crown.changeCycle }
    cyc := { s.cyc with
      n := n
      bPrev := s.cyc.b, b := b, phase := .latched, latchNow := s.clk.lifeUs
      prevSkipped := s.cyc.prevSkipped || decide (0 < gap), imaged := false }
    glb := { s.glb with skipTotal := satAdd s.glb.skipTotal gap 0xFFFF, skipConsec := satAdd s.glb.skipConsec gap 7 } }

/-- INPUT_LATCH at B(n) (R93 to R96). The module that handed the crown over at C(n - 1) still latches for both (R313). -/
def inputLatch (s : State) : State :=
  let x := ringNow s
  let b := boundaryAt s x
  if s.cyc.on && s.cyc.phase == .idle && runsCycles s && decide (x < b + 4000) && b != s.cyc.b
      && decide (s.cyc.firstAt ≤ b) && decide (0 < tProg s) then
    let s := openCycle b s
    if (crowned s && !s.crown.firstLatch) || s.crown.finalLatch then
      let s := ownLatch s
      rings.foldl wrapIfBroken { s with crown := { s.crown with finalLatch := false } }
    else s
  else s

end Sys2Proof.Machine
end

