-- ==== Sys2Proof/Machine/RejoinOps.lean ====
section
/-! DEFINITION. Rejoin (R145 to R152) and the resynchronisation passes a holder sends (R310). -/
namespace Sys2Proof.Machine

/-- The entries into REJOINING of the preceding 24 h of life clock (R145). -/
def recentRejoins (s : State) (l : Lane) : List Nat :=
  (laneOf s l).rejoins.filter (fun x => decide (s.clk.lifeUs < x + 86400000000))

/-- A lane that is ready after a vote-ordered lane reset while others vote waits to rejoin (R145). -/
def waitsToRejoin (s : State) (l : Lane) : Bool :=
  lstate s l == .starting && (laneOf s l).ready && (laneOf s l).voteReset && !(voters s).isEmpty

/-- A ready lane that has used its three attempts is HELD_OUT (R145). -/
def holdOut (s : State) (l : Lane) : State :=
  if lstate s l == .starting && (laneOf s l).ready && decide (3 ≤ (recentRejoins s l).length) then setLState l .heldOut s else s

/-- A lane enters REJOINING with its donor and checker (R145, R146). -/
def enterRejoin (l : Lane) (s : State) : State :=
  let vs := voters s
  let s := updLane l (fun r => { r with rejoins := s.clk.lifeUs :: recentRejoins s l }) s
  setLState l .rejoining { s with vote := { s.vote with
    rejoin := some { lane := l, donor := vs.headD .a, checker := vs[1]? } } }

/-- The next rejoin starts when the conditions of R145 hold. -/
def tryRejoin (s : State) : State :=
  let s := lanes.foldl holdOut s
  if s.vote.rejoin.isSome || s.vote.hold || s.vote.pxHold then s
  else
    match lanes.find? (waitsToRejoin s) with
    | some l => enterRejoin l s
    | none => s

/-- Words of the state copied: NOUN_TOP noun words and 65,536 timer cells two to a word (R147). -/
def stateLen (s : State) : Nat := nounTop s + 32768

/-- The words a pass sends (R148): all, or per group of 64 a bitmap of the words that differ between the snapshot and the
one before, then those words; the values are those of (vn, vt). -/
def passWords (top pass : Nat) (dn pn vn : Tab W64) (dt pt vt : Tab W32) : List W64 :=
  let n := top + 32768
  if pass = 0 then (List.range n).map (stateWord top vn vt)
  else (List.range ((n + 63) / 64)).flatMap (fun g =>
    let marked := (List.range 64).filter (fun j =>
      decide (64 * g + j < n) && stateWord top dn dt (64 * g + j) != stateWord top pn pt (64 * g + j))
    marked.foldl (fun w j => putBit w j true) 0 :: marked.map (fun j => stateWord top vn vt (64 * g + j)))

/-- The check of a rejoin pass (R149). -/
def passCheck (pass : Nat) (cycle : W32) (ws : List W64) : W32 := checkOf 0x07 pass cycle.toNat (ws.flatMap wordBytes)

/-- The donor's END starts a pass with its snapshot; the checker's END by D keeps its own of the cycle of the pass, and
apart from it that of a later END (R148, R149). -/
def snapAtEnd (l : Lane) (s : State) : State :=
  match s.vote.rejoin with
  | none => s
  | some r =>
    let e := s.eng.at l
    let st := s.st.at l
    let b := if e.cycle = s.cyc.n then s.cyc.b else s.cyc.bPrev
    if r.proving then s
    else if r.donor = l ∧ r.inPass = false then
      { s with vote := { s.vote with rejoin := some { r with
          inPass := true, snapCycle := e.cycle, snapB := b, prevNoun := r.noun, prevTimer := r.timer
          noun := st.noun, timer := st.timer, cycles := 0, chk := r.chkNext, chkNext := none } } }
    else if r.checker = some l ∧ s.cyc.skipping.at l = false then
      let x := some (e.cycle, st.noun, st.timer)
      { s with vote := { s.vote with rejoin := some (
          if r.inPass && e.cycle == r.snapCycle then { r with chk := x } else { r with chkNext := x }) } }
    else s

/-- The checker's value of the pass is still awaited (R149). -/
def awaitsChecker (s : State) (r : Rejoin) : Bool :=
  match r.checker with
  | none => false
  | some _ => !(decide (r.chk.map Prod.fst = some r.snapCycle)) && r.snapCycle == s.cyc.n && s.cyc.phase == .logic

/-- The pass is good (R149): the donor's value, the rejoining lane's and, where it is taken, the checker's are equal; `err`
is what a fault of the lane or its path changes in the rejoining lane's. -/
def passGood (err : W32) (s : State) (r : Rejoin) : Bool :=
  let donor := passCheck r.pass r.snapCycle (passWords (nounTop s) r.pass r.noun r.prevNoun r.noun r.timer r.prevTimer r.timer)
  donor ^^^ err == donor && (match r.chk with
    | some (c, cn, ct) =>
      c != r.snapCycle
        || passCheck r.pass r.snapCycle (passWords (nounTop s) r.pass r.noun r.prevNoun cn r.timer r.prevTimer ct) == donor
    | none => true)

/-- A pass ends (R148 to R151). -/
def passEnd (err : W32) (s : State) : State :=
  match s.vote.rejoin with
  | none => s
  | some r =>
    if r.proving || !r.inPass || s.cyc.phase == .voting || s.cyc.phase == .voted || awaitsChecker s r then s
    else if !passGood err s r then failRejoin s
    else
      let ws := passWords (nounTop s) r.pass r.noun r.prevNoun r.noun r.timer r.prevTimer r.timer
      let s := { s with st := s.st.upd r.lane (applyPass (nounTop s) r.pass ws) }
      let final := decide (ringNow s ≤ r.snapB + tProg s + 4000) && !(s.cyc.phase == .logic && s.cyc.n != r.snapCycle)
      if final then
        { s with
          vote := { s.vote with rejoin := some { r with proving := true, inPass := false, proven := 0 } }
          eng := s.eng.put r.lane {}
          lane := s.lane.upd r.lane (fun x => { x with primes := [], skipConsec := 0 }) }
      else if 63 ≤ r.pass then failRejoin s
      else { s with vote := { s.vote with rejoin := some { r with pass := r.pass + 1, inPass := false } } }

/-- Pass 0 has lasted 8 program cycles (R151). -/
def rejoinTimeout (s : State) : State :=
  match s.vote.rejoin with
  | some r => if !r.proving && r.inPass && decide (r.pass = 0) && decide (8 ≤ r.cycles) then failRejoin s else s
  | none => s

/-- The donor's END sends the next pass of a resynchronisation copy (R310). -/
def sendCopy (l : Lane) (s : State) : State :=
  match s.crown.sending with
  | none => s
  | some x =>
    if !crowned s || (voters s).head? != some l then s
    else
      let st := s.st.at l
      let ws := passWords (nounTop s) x.pass st.noun x.noun st.noun st.timer x.timer st.timer
      let c := (s.eng.at l).cycle
      let body : CopyBody :=
        { pass := x.pass, cycle := c, snapAt := ringNow s, words := ws, check := copyCheck x.pass c ws
          combSeq := s.comb.nextSeq - 1, activeId := programId s
          stagedId := ((stagedLanes s).head?.bind (fun m => (inactiveProg s m).map (fun p => p.id))).getD 0 }
      send (.copy body) { s with crown := { s.crown with
        sending := if 63 ≤ x.pass then none else some { pass := x.pass + 1, noun := st.noun, timer := st.timer } } }

end Sys2Proof.Machine
end

