-- ==== Sys2Proof/Machine/SettingsOps.lean ====
section
/-! DEFINITION. Settings copies (R462 to R473): their bytes read into a settings block, with every test a good copy
passes. -/
namespace Sys2Proof.Machine

/-- A record of a settings body (R463). -/
structure SetRecord where
  tag : Nat
  count : Nat
  body : List Byte
deriving DecidableEq, Repr

/-- The records of a body, packed without gaps (R463); `fuel` bounds their number. -/
def setRecords : Nat → List Byte → Option (List SetRecord)
  | _, [] => some []
  | 0, _ => none
  | fuel + 1, b =>
    let n := leAt b 4 4
    if b.length < 8 + n ∨ n % 8 ≠ 0 then none
    else (setRecords fuel (b.drop (8 + n))).map (fun rs =>
      { tag := leAt b 0 2, count := leAt b 2 2, body := sub b 8 n } :: rs)

/-- Values that rise. -/
def rising : List Nat → Bool
  | [] => true
  | [_] => true
  | x :: y :: ys => decide (x < y) && rising (y :: ys)

/-- Two entries of a list agree in f. -/
def repeats {α : Type} (f : α → Nat) : List α → Bool
  | [] => false
  | x :: xs => xs.any (fun y => decide (f y = f x)) || repeats f xs

/-- n entries of w bytes each after a fixed part of `off` bytes; a body of another length has none (R472). -/
def entriesOf (w off n : Nat) (b : List Byte) : Option (List (List Byte)) :=
  let len := off + w * n
  if b.length = (len + 7) / 8 * 8 ∧ zeros (b.drop len) = true then
    some ((List.range n).map (fun i => sub b (off + w * i) w))
  else none

/-- The record with a tag. -/
def recordAt (rs : List SetRecord) (tag : Nat) : Option SetRecord := rs.find? (fun r => r.tag = tag)

/-! ### CORE (R465) -/

/-- T_ring in ns of a profile (R41). -/
def profileRing (p : Nat) : Nat := if p = 1 then 125000 else 250000

/-- A CORE body keeps to its ranges. -/
def coreOk (b : List Byte) : Bool :=
  let u := fun k n => leAt b k n
  let tp := u 1 1 * profileRing (u 0 1)
  decide (b.length = 32) && inBounds 0 2 (u 0 1) && inBounds 1 64 (u 1 1) && decide (250000 ≤ tp) && inBounds 1 8 (u 2 1)
    && inBounds 0 1 (u 3 1) && inBounds 10 2000 (u 4 2) && inBounds 1 4320 (u 6 2) && inBounds 2 64 (u 8 1)
    && decide (4 * tp ≤ u 8 1 * 1000000) && inBounds 0 1 (u 9 1) && (u 10 2 == 0 || inBounds 24 672 (u 10 2))
    && inBounds 2 15 (u 12 1) && inBounds 2 15 (u 13 1) && inBounds 2 15 (u 14 1) && inBounds 2 15 (u 15 1)
    && inBounds 100 5000 (u 16 2) && inBounds 1 60 (u 18 1) && zeros (b.drop 19)

/-- The fields of a CORE body. -/
def readCore (b : List Byte) (x : Settings) : Settings :=
  let u := fun k n => leAt b k n
  { x with
    profile := u 0 1, k := u 1 1, debounce := u 2 1, partner := u 3 1 == 1, discrepMs := u 4 2, degMin := u 6 2
    leaseMs := u 8 1, autoReturn := u 9 1 == 1, rotHours := u 10 2, ages := ⟨u 12 1, u 13 1, u 14 1, u 15 1⟩
    tripHold := u 16 2, telemMin := u 18 1 }

/-! ### Section tables (R466, R204) -/

/-- One section entry keeps to its ranges. -/
def sectionOk (e : List Byte) : Bool :=
  inBounds 1 254 (leAt e 0 1) && inBounds 2 128 (leAt e 1 1) && inBounds 2 128 (leAt e 2 1) && inBounds 0 1 (leAt e 3 1)

/-- A section entry. -/
def readSection (e : List Byte) : SecEntry := { addr := leAt e 0 1, olen := leAt e 1 1, ilen := leAt e 2 1 }

/-- The section entries of a ring: those in force and the retired ones. -/
def sectionTable (rs : List SetRecord) (r : Nat) : Option (List SecEntry × List SecEntry) :=
  match recordAt rs (0x10 + r) with
  | none => some ([], [])
  | some x =>
    match entriesOf 4 0 x.count x.body with
    | none => none
    | some es =>
      if es.all sectionOk && rising (es.map (fun e => leAt e 0 1)) then
        some ((es.filter (fun e => leAt e 3 1 == 0)).map readSection, (es.filter (fun e => leAt e 3 1 == 1)).map readSection)
      else none

/-- The limits of R204 on one ring: frame length, cycle budget with no cable, and a ring that the profile uses. -/
def ringLimits (profile r : Nat) (t : List SecEntry) : Bool :=
  t.isEmpty || (decide (t.length ≤ 254) && decide (frameLen t ≤ 40960) && (profile != 1 || decide (r < 2))
    && decide (16 * frameLen t + 5 * (2 * (t.length + 1) * 96 + 400) ≤ 5 * (profileRing profile - 10000)))

/-- The limits of R204. -/
def sectionLimits (x : Settings) : Bool :=
  let all := x.sections.p0 ++ x.sections.p1 ++ x.sections.p2 ++ x.sections.p3
  rings.all (fun r => ringLimits x.profile r.val (x.sections.at r)) && decide (all.length ≤ 1016)
    && decide (all.foldl (fun n e => n + e.olen) 0 ≤ 32768) && decide (all.foldl (fun n e => n + e.ilen) 0 ≤ 32768)

/-! ### The door table (R467, R268 to R270) -/

/-- The integer square root of n below 2^k squared. -/
def isqrt (n : Nat) : Nat → Nat → Nat
  | 0, r => r
  | k + 1, r => if (r + 2 ^ k) * (r + 2 ^ k) ≤ n then isqrt n k (r + 2 ^ k) else isqrt n k r

/-- SPD_LIM (R269): floor(LEAVES x 1,000 x sqrt(2 x E_LIM / MASS)). -/
def spdLimOf (leaves eLim mass : Nat) : Nat := isqrt (leaves * leaves * 1000000 * 2 * eLim / max 1 mass) 20 0

/-- A ring number from a byte. -/
def ringOf (n : Nat) : Ring := if n = 0 then 0 else if n = 1 then 1 else if n = 2 then 2 else 3

/-- PTI_SRC and STAFF_SRC keep to R467. -/
def doorSourcesOk (e : List Byte) : Bool :=
  let u := fun k => leAt e k 1
  (if u 32 = 0 then zeros (sub e 33 3) else u 32 == 1 && inBounds 0 3 (u 33) && inBounds 1 254 (u 34) && inBounds 0 7 (u 35))
    && (if u 36 = 0 then zeros (sub e 37 3)
        else if u 36 = 1 then inBounds 0 7 (u 37) && zeros (sub e 38 2)
        else u 36 == 2 && inBounds 0 3 (u 37) && inBounds 1 254 (u 38) && inBounds 0 63 (u 39))

/-- A door entry keeps to the ranges of R268 and R467. -/
def doorOk (e : List Byte) : Bool :=
  let u := fun k n => leAt e k n
  inBounds 0 3 (u 0 1) && inBounds 1 254 (u 1 1) && inBounds 0 7 (u 2 1) && inBounds 0 1 (u 3 1) && inBounds 0 511 (u 4 2)
    && inBounds 1 2 (u 6 1) && inBounds 50 100 (u 7 1) && inBounds 100 2000 (u 8 2) && inBounds 10 200 (u 10 2)
    && inBounds 5000 40000 (u 12 2) && inBounds 0 2000 (u 14 2) && inBounds 5 200 (u 16 2) && inBounds 10 500 (u 18 2)
    && inBounds 10 200 (u 20 2) && inBounds 5 100 (u 22 2) && inBounds 0 1000 (u 24 2) && inBounds 1 15 (u 26 1)
    && inBounds 1 60 (u 27 1) && inBounds 5 200 (u 28 2) && zeros (sub e 30 2) && doorSourcesOk e

/-- A door entry with its derived SPD_LIM. -/
def readDoor (e : List Byte) : DoorEntry :=
  let u := fun k n => leAt e k n
  { ring := ringOf (u 0 1), addr := u 1 1, unit := u 2 1, retired := u 3 1 == 1, gunit := u 4 2, leaves := u 6 1
    proofOpen := u 7 1, mass := u 8 2, eLim := u 10 2, full := u 12 2, win := u 14 2, closedTol := u 16 2, posTol := u 18 2
    spdTol := u 20 2, dirTol := u 22 2, dirGrace := u 24 2, disc := u 26 1, degMax := u 27 1, plausTol := u 28 2
    pti := if u 32 1 = 1 then some (ringOf (u 33 1), u 34 1, u 35 1) else none
    staff := if u 36 1 = 1 then some (.vin (u 37 1))
      else if u 36 1 = 2 then some (.panel (ringOf (u 37 1)) (u 38 1) (u 39 1)) else none
    spdLim := spdLimOf (u 6 1) (u 10 2) (u 8 2) }

/-- The door table. -/
def doorTable (rs : List SetRecord) : Option (List DoorEntry) :=
  match recordAt rs 0x20 with
  | none => some []
  | some x =>
    match entriesOf 40 0 x.count x.body with
    | none => none
    | some es => if x.count ≤ 1024 ∧ es.all doorOk = true then some (es.map readDoor) else none

/-- A node is in the section table of its ring. -/
def nodeIn (x : Settings) (r : Ring) (addr : Nat) : Bool := (x.sections.at r).any (fun e => e.addr == addr)

/-- A node serves an element of a kind by that number (R270). -/
def servesKind (k : ElementKind) (r : Ring) (addr unit : Nat) : Bool :=
  decide (unit < ((Config.elements r.val addr).filter (fun x => x = k)).length)

/-- One entry in force keeps to R270. -/
def doorLimit (x : Settings) (e : DoorEntry) : Bool :=
  nodeIn x e.ring e.addr && decide (e.spdLim ≤ 32767) && decide (e.win * 100 < e.proofOpen * e.full)
    && (match e.pti with
      | some (r, a, u) => nodeIn x r a && servesKind .pti r a u
      | none => true)
    && (match e.staff with
      | some (.panel r a _) => nodeIn x r a && servesKind .panel r a 0
      | _ => true)

/-- The limits of R270 and R467, over the entries that are not retired. -/
def doorLimits (x : Settings) : Bool :=
  let ds := x.doors.filter (fun e => !e.retired)
  decide (ds.length ≤ 512) && !repeats (fun e => (e.ring.val * 256 + e.addr) * 8 + e.unit) ds && !repeats (fun e => e.gunit) ds
    && ds.all (doorLimit x)

/-! ### COMMAND, ROUTER, NETWORK, SNAP (R468 to R471, R373) -/

/-- A command entry keeps to R468. -/
def commandOk (e : List Byte) : Bool :=
  let u := fun k n => leAt e k n
  inBounds 0 1 (u 4 1) && inBounds 0 1 (u 5 1) && zeros (sub e 6 2)
    && (u 4 1 == 0 || (inBounds 0 3 (u 8 1) && zeros (sub e 9 3)))
    && inBounds 0 511 (u 12 2) && inBounds (u 12 2) 511 (u 14 2)

/-- A command entry. -/
def readCommand (e : List Byte) : CmdSource :=
  { id := BitVec.ofNat 32 (leAt e 0 4), ipv4 := leAt e 4 1 == 0, cal := leAt e 5 1 == 1, address := sub e 8 4
    first := leAt e 12 2, last := leAt e 14 2 }

/-- The command sources; the record is required. -/
def commandTable (rs : List SetRecord) : Option (List CmdSource) :=
  match recordAt rs 0x30 with
  | none => none
  | some x =>
    match entriesOf 16 0 x.count x.body with
    | none => none
    | some es =>
      if inBounds 1 16 x.count && es.all commandOk && !repeats (fun e => leAt e 0 4) es then some (es.map readCommand) else none

/-- A router entry keeps to R469. -/
def routerOk (e : List Byte) : Bool :=
  namedSource (leAt e 0 1) && inBounds 0 15 (leAt e 1 1) && inBounds 0 15 (leAt e 2 1) && inBounds 1 255 (leAt e 4 1)
    && zeros (sub e 5 1)

/-- A router entry. -/
def readRouter (e : List Byte) : RouterEntry :=
  { source := leAt e 0 1, mask := BitVec.ofNat 4 (leAt e 1 1), tier := leAt e 2 1, order := leAt e 3 1
    modCount := leAt e 4 1, modTime := leAt e 6 2 }

/-- The floors and router entries. -/
def routerTable (rs : List SetRecord) : Option (Option W16 × List RouterEntry) :=
  match recordAt rs 0x40 with
  | none => some (none, [])
  | some x =>
    match entriesOf 8 8 x.count x.body with
    | none => none
    | some es =>
      if x.count ≤ 191 ∧ zeros (sub x.body 2 6) = true ∧ es.all routerOk = true ∧ rising (es.map (fun e => leAt e 0 1)) = true then
        some (some (BitVec.ofNat 16 (leAt x.body 0 2)), es.map readRouter)
      else none

/-- The NETWORK body; the record is required. -/
def network (rs : List SetRecord) : Option (List Byte) :=
  match recordAt rs 0x50 with
  | none => none
  | some x =>
    if decide (x.count = 1) && decide (x.body.length = 24) && inBounds 0 4094 (leAt x.body 12 2) && inBounds 0 1 (leAt x.body 14 1)
        && inBounds 0 127 (leAt x.body 15 1) && zeros (x.body.drop 16) then some x.body else none

/-- A snapshot item keeps to R471. -/
def snapItemOk (e : List Byte) : Bool :=
  zeros (sub e 1 3) && (if leAt e 0 1 = 0 then decide (leAt e 4 4 < 0x1000000) && decide (leAt e 4 4 % 4 = 0)
    else leAt e 0 1 == 1 && decide (leAt e 4 4 ≤ 0x3FFFF))

/-- The snapshot list of a SNAP record; none of none when absent. -/
def snapList (rs : List SetRecord) (l : Nat) : Option (Option SnapList) :=
  match recordAt rs (0x60 + l) with
  | none => some none
  | some x =>
    let b := x.body
    match entriesOf 8 16 x.count b with
    | none => none
    | some es =>
      let trig := leAt b 0 1
      let noun := leAt b 8 4
      if inBounds 1 48 x.count && inBounds 0 15 trig && zeros (sub b 1 1) && inBounds 0 1024 (leAt b 4 2) && zeros (sub b 6 2)
          && zeros (sub b 12 4) && (if trig % 2 = 1 then decide (noun < 0x1000000) else noun == 0) && es.all snapItemOk then
        some (some { trig := trig, pre := leAt b 2 2, post := leAt b 4 2, noun := noun
                     items := es.map (fun e => (leAt e 0 1 == 1, leAt e 4 4)) })
      else none

/-- Cells of one capture of a list (R372). -/
def snapCells (x : SnapList) : Nat := (x.items.length + 25) / 26

/-- PRE keeps to R373 in every enabled list. -/
def snapLimits (xs : List (Option SnapList)) : Bool :=
  let on := xs.filterMap id
  on.all (fun x => decide (x.pre + 1 ≤ 4096 / (max 1 on.length * max 1 (snapCells x))))

/-! ### A copy (R462, R472, R473) -/

/-- Every tag is one of schema 7 and they rise (R463, R464). -/
def tagsOk (rs : List SetRecord) : Bool :=
  rising (rs.map (fun r => r.tag))
    && rs.all (fun r => r.tag == 1 || inBounds 0x10 0x13 r.tag || r.tag == 0x20 || r.tag == 0x30 || r.tag == 0x40
        || r.tag == 0x50 || inBounds 0x60 0x63 r.tag)

/-- The block of a body's records, when every test of R472 passes. -/
def readBody (x : Settings) (rs : List SetRecord) : Option Settings :=
  match recordAt rs 1, sectionTable rs 0, sectionTable rs 1, sectionTable rs 2, sectionTable rs 3, doorTable rs with
  | some core, some s0, some s1, some s2, some s3, some ds =>
    match commandTable rs, routerTable rs, network rs, snapList rs 0, snapList rs 1, snapList rs 2, snapList rs 3 with
    | some cs, some rt, some net, some l0, some l1, some l2, some l3 =>
      let x := { readCore core.body x with
        sections := ⟨s0.1, s1.1, s2.1, s3.1⟩, gone := ⟨s0.2, s1.2, s2.2, s3.2⟩, doors := ds, cmds := cs, floors := rt.1
        router := rt.2, net := net, snaps := [l0, l1, l2, l3] }
      if tagsOk rs && decide (core.count = 1) && coreOk core.body && sectionLimits x && doorLimits x && snapLimits x.snaps then
        some x
      else none
    | _, _, _, _, _, _, _ => none
  | _, _, _, _, _, _ => none

/-- A copy of `len` bytes, its CRC included (DEDUCED, log entry 44), has a header and a CRC that verifies (R462). -/
def copyCrcOk (b : List Byte) : Bool :=
  let n := leAt b 8 4
  decide (leAt b 0 4 = 0x53455454) && inBounds 36 0x100000 n && decide (b.length = n) && decide (leAt b 12 4 ≤ 1)
    && decide ((checkOf 0x04 (leAt b 4 2) n (b.take (n - 4))).toNat = leAt b (n - 4) 4)

/-- The header fields of a copy. -/
def readHeader (b : List Byte) : Settings :=
  { schema := leAt b 4 2, seq := leAt b 6 2, rolling := leAt b 12 4 == 1, id := BitVec.ofNat 64 (leAt b 16 8)
    fromId := BitVec.ofNat 64 (leAt b 24 8) }

/-- The block of a copy whose SCHEMA lies within a firmware's range, when the copy is good (R472, R473). This manual's
records are those of schema 7 (R464). -/
def readCopy (lo hi : Nat) (b : List Byte) : Option Settings :=
  let h := readHeader b
  if copyCrcOk b && decide (lo ≤ h.schema) && decide (h.schema ≤ hi) then
    (setRecords (b.length / 8) (sub b 32 (b.length - 36))).bind (readBody h)
  else none

/-- The bytes of a settings copy in the code store: as many as its header's LENGTH names. -/
def copyBytes (s : State) (n : Nat) : List Byte :=
  let a := if n = 0 then s.opt.set0 else s.opt.set1
  let len := leNat (storeBytes s (a + 8) 4)
  if len ≤ 0x100000 then storeBytes s a len else []

/-- The code store's good settings copy n for the running firmware (R473). -/
def goodCopy (s : State) (n : Nat) : Option Settings := readCopy s.upd.schemaMin s.upd.schemaMax (copyBytes s n)

/-- A copy whose CRC verifies but whose SCHEMA the running firmware does not read (R485). -/
def schemaOutside (s : State) (n : Nat) : Bool :=
  let b := copyBytes s n
  copyCrcOk b && !(decide (s.upd.schemaMin ≤ leAt b 4 2) && decide (leAt b 4 2 ≤ s.upd.schemaMax))

/-! ### A rolling block (R486) -/

/-- Section tables differ only by added and retired entries. -/
def rollSections (old new gone oldGone : List SecEntry) : Bool :=
  old.all (fun e => new.contains e || gone.contains e) && oldGone.all (fun e => gone.contains e)

/-- Door tables differ only by added, retired and changed entries, a retired one staying so; an added one takes a guard
unit the old table never used (R467). -/
def rollDoors (old new : List DoorEntry) : Bool :=
  old.all (fun e => new.any (fun x =>
    x.ring == e.ring && x.addr == e.addr && x.unit == e.unit && x.gunit == e.gunit && (x.retired || !e.retired)))
  && new.all (fun x =>
    old.any (fun e => x.ring == e.ring && x.addr == e.addr && x.unit == e.unit && x.gunit == e.gunit)
      || !old.any (fun e => x.gunit == e.gunit || (x.ring == e.ring && x.addr == e.addr && x.unit == e.unit)))

/-- A claim of ROLLING is true against the block it was built from (R486, R487). -/
def rollingTrue (old new : Settings) : Bool :=
  new.profile == old.profile && new.k == old.k && new.debounce == old.debounce && new.partner == old.partner
    && new.discrepMs == old.discrepMs && new.leaseMs == old.leaseMs && new.autoReturn == old.autoReturn
    && new.ages.p0 == old.ages.p0 && new.ages.p1 == old.ages.p1 && new.ages.p2 == old.ages.p2 && new.ages.p3 == old.ages.p3
    && new.tripHold == old.tripHold && new.telemMin == old.telemMin
    && rings.all (fun r => rollSections (old.sections.at r) (new.sections.at r) (new.gone.at r) (old.gone.at r))
    && rollDoors old.doors new.doors

end Sys2Proof.Machine
end

