-- ==== Sys2Proof/Machine/Regs.lean ====
section
/-! DEFINITION. What each host register reads (R12, R14, R15): block by block, from the offset; none where no register
lies. The first read of a register has the side effects of its row; reading here has none. -/
namespace Sys2Proof.Machine

/-- A number as a register word. -/
def word (n : Nat) : W32 := BitVec.ofNat 32 n

/-- Two 16-bit fields. -/
def halves (hi lo : Nat) : W32 := pack [(hi % 0x10000, 16), (lo % 0x10000, 0)]

/-- A flag per lane at bits k to k + 2. -/
def lanesAt (t : Tri Bool) (k : Nat) : Nat × Nat := (t.mask, k)

/-- The signed value of w bits. -/
def signed (w : Nat) (x : Int) : Nat := (BitVec.ofInt w x).toNat

/-- The lane number of an optional lane, 3 for none. -/
def laneCode (l : Option Lane) : Nat := (l.map Lane.num).getD 3

/-- The settings in force, or an empty block. -/
def setOf (s : State) : Settings := s.set.block.getD {}

/-! ### Identity and global (R45, R133, R347) -/

/-- The staged program: that of a lane which holds the inactive bank staged. -/
def stagedProg (s : State) : Option Program := (stagedLanes s).head?.bind (fun l => inactiveProg s l)

/-- PROGRAM_ID of the staged bank; 0 when none is staged. -/
def stagedId (s : State) : W64 := ((stagedProg s).map (fun p => p.id)).getD 0

def readGlb (s : State) (o : Nat) : Option W32 :=
  let g := s.glb
  match o with
  | 0x000 => some (pack [(0x56, 24), (0x03, 16), (if 85 ≤ s.fuse.caseMax then 0x45 else 0x43, 8), (if s.fuse.coat then 0x4B else 0, 0)])
  | 0x004 => some 0xB0
  | 0x008 => some (pack [(b2n g.valid, 31), (g.k, 8), (g.profile, 0)])
  | 0x00C => some g.commitCycle
  | 0x010 => some (pack [(g.svcMoves, 8), (b2n g.svcForced, 2), (g.svc.num, 0)])
  | 0x014 => some (word (budget s))
  | 0x018 => some (pack [(g.skipTotal, 16), (g.skipConsec, 0)])
  | 0x01C => some (pack [(g.warmFail, 8), (g.restartType, 0)])
  | 0x020 => some g.restartCycle
  | 0x024 => some (halves g.cmdDeferred g.cmdRefused)
  | 0x040 => some (pack [(s.px.reason, 16), (b2n s.keep.bank, 8), (s.px.state.code, 0)])
  | 0x044 => some 0
  | 0x048 => some s.px.target
  | 0x04C => some (if s.px.state = .agreed ∨ s.px.state = .switching then s.px.h else s.px.lastH)
  | 0x050 => some (word s.px.xclocks)
  | 0x054 => some ((programId s).extractLsb' 0 32)
  | 0x058 => some s.px.idHi
  | 0x05C => some ((stagedId s).extractLsb' 0 32)
  | 0x060 => some s.px.sidHi
  | 0x064 => some (halves s.px.switches s.px.cancels)
  | _ => none

/-! ### Reset controller (R456) and options (R457, R493) -/

/-- The stage as coded in RST_STAT (R440). -/
def Stage.code : Stage → Nat
  | .hold => 0
  | .clocks => 1
  | .options => 2
  | .pll => 3
  | .boot => 4
  | .selftest => 5
  | .load => 6
  | .ready => 7

/-- The shipped fuse state of a configurable ball (R447 to R448, R547, R548): row and column from 0. -/
def fuseState (row col : Nat) : Option Nat :=
  if row = 2 then
    if (7 ≤ col ∧ col ≤ 9) ∨ col = 12 then some 0
    else if 13 ≤ col ∧ col ≤ 16 then some 2
    else none
  else if row = 3 then
    if col = 5 ∨ col = 7 ∨ col = 8 then some 0
    else if 9 ≤ col ∧ col ≤ 13 then some 3
    else none
  else if 15 ≤ row ∧ row ≤ 20 then some 1
  else if row = 21 ∧ col ≤ 18 then some 1
  else none

/-- RST_FUSE of a ball index (R547). -/
def fuseWord (i : Nat) : W32 :=
  if i < 484 then
    match fuseState (i / 22) (i % 22) with
    | some x => pack [(1, 2), (x, 0)]
    | none => 0
  else 0

/-! ### Pins that show the state -/

/-- STAT_LANE_x (R546). -/
def statLane (s : State) (l : Lane) : Bool := votes s l

/-- STAT_CROWN (R546). -/
def statCrown (s : State) : Bool := crowned s

/-- STAT_HALT (R546). -/
def statHalt (s : State) : Bool := s.vote.mode == .halted

/-- The output level of test-pulse output i (R169, R449): low throughout a module reset, else high but for the low pulse of
20 µs that begins 10 + 30 i µs after each ring-cycle boundary. -/
def vtpHigh (s : State) (i : Fin 4) : Bool :=
  let x := ringNow s % max 1 (tRing s)
  s.rst.stage == .ready && !s.rst.recovery && !(decide (10000 + 30000 * i.val ≤ x) && decide (x < 30000 + 30000 * i.val))

/-- The fuse state a configurable ball takes (R448): high impedance until the fuses are read, then its fuse state until its
block is released; none for a ball that is not configurable or that its block drives. -/
def ballState (s : State) (i : Nat) : Option Nat :=
  if i < 484 then
    match fuseState (i / 22) (i % 22) with
    | some x => if hostOpen s then none else if s.rst.powered then some x else some 0
    | none => none
  else none

def readRst (s : State) (o : Nat) : Option W32 :=
  let k := s.keep
  let c := fun i => nthD 0 k.cnt i
  match o with
  | 0x000 => some (word k.lastCause)
  | 0x004 => some (pack [(k.modSrc, 16), (k.widest, 8), (k.laneSrc, 4), (k.laneOf, 0)])
  | 0x010 => some (halves (c 1) (c 0))
  | 0x014 => some (halves (c 3) (c 2))
  | 0x018 => some (halves (c 5) (c 4))
  | 0x01C => some (halves (c 7) (c 6))
  | 0x020 => some (halves 0 (c 8))
  | 0x030 => some (pack [((s.rst.plls).mask, 12), (b2n ((laneOf s .a).suspect || (laneOf s .b).suspect || (laneOf s .c).suspect), 8),
      (s.rst.boot, 4), (s.rst.stage.code, 0)])
  | 0x034 => some (word (min s.rst.bootMs 0xFFFFF))
  | 0x040 => some 0
  | 0x044 => some (pack [(b2n s.rst.level, 31), (s.rst.rejected, 0)])
  | 0x050 => some (word s.rst.fuseSel)
  | 0x054 => some (fuseWord s.rst.fuseSel)
  | _ => none

def readOpt (s : State) (o : Nat) : Option W32 :=
  let p := s.opt
  let b := setOf s
  match o with
  | 0x000 => some (pack [(b2n p.fail, 31), (p.why, 28), (p.used, 24), (p.bad, 20), (s.keep.attempts, 0)])
  | 0x004 => some (halves p.other p.seq)
  | 0x008 => some (p.flags.setWidth 32)
  | 0x100 => some (pack [(b.schema, 16), (b2n b.rolling, 9), (s.set.bad, 6), (s.set.used, 0)])
  | 0x104 => some (halves s.set.other b.seq)
  | 0x108 => some (b.id.extractLsb' 0 32)
  | 0x10C => some s.set.idHi
  | 0x110 => some (b.fromId.extractLsb' 0 32)
  | 0x114 => some s.set.fromHi
  | _ => none

/-! ### Event router, host port, Ethernet (R430) -/

/-- A bit per source 32 k + b for which p holds. -/
def sourceBits (s : State) (p : EvState → Bool) (k : Nat) : W32 :=
  s.evr.src.foldl (fun w x => if x.1 / 32 = k ∧ 0 < x.1 ∧ p x.2.state = true then putBit w (x.1 % 32) true else w) 0

/-- A source holds ACTIVE or ACTIVE_PENDING. -/
def isActive (x : EvState) : Bool := x == .active || x == .activePending

/-- A source holds PENDING or ACTIVE_PENDING. -/
def isPending (x : EvState) : Bool := x == .pending || x == .activePending

/-- EvState as coded in EVR_SRC_STAT. -/
def EvState.code : EvState → Nat
  | .idle => 0
  | .pending => 1
  | .active => 2
  | .activePending => 3

/-- EVR_RUNn. -/
def runWord (s : State) (n : HostId) : W32 :=
  pack [((s.evr.src.filter (fun x => isActive x.2.state && x.2.claimer == n)).length, 16), (runTier s.evr n, 0)]

/-- What EVR_CLAIMn shows before it is claimed (R422). -/
def claimShown (s : State) (n : HostId) : W32 :=
  match bestFor s.evr n with
  | some k => word k
  | none => if s.evr.irqSeen.getLsbD n then 255 else 0

/-- The selected source has configuration fields: a number that a chapter names (R418, R430). -/
def selShown (s : State) : Bool := namedSource s.evr.sel

/-- The counters of HP_CMD and ETH_CMD. -/
def cmdWord (c : CmdCounts) : W32 := pack [(c.accepted, 16), (c.stateRef, 12), (c.seq, 8), (c.source, 4), (c.check, 0)]

/-- A host number from an offset, four bytes apart. -/
def hostAt (o base : Nat) : HostId := Fin.ofNat 4 ((o - base) / 4)

def readEvr (s : State) (o : Nat) : Option W32 :=
  let e := s.evr
  let x := sourceOf s e.sel
  if o % 4 ≠ 0 then none
  else if 0x010 ≤ o ∧ o ≤ 0x01C then some (claimShown s (hostAt o 0x010))
  else if 0x020 ≤ o ∧ o ≤ 0x02C then some 0
  else if 0x030 ≤ o ∧ o ≤ 0x03C then some (runWord s (hostAt o 0x030))
  else if 0x040 ≤ o ∧ o ≤ 0x054 then some (sourceBits s isPending ((o - 0x040) / 4))
  else if 0x060 ≤ o ∧ o ≤ 0x074 then some (sourceBits s isActive ((o - 0x060) / 4))
  else if 0x110 ≤ o ∧ o ≤ 0x11C then some (s.hp.echo.at (hostAt o 0x110))
  else if 0x120 ≤ o ∧ o ≤ 0x12C then some (word (s.hp.echoAddr.at (hostAt o 0x120)))
  else match o with
  | 0x000 => some (pack [(e.floor.p3, 12), (e.floor.p2, 8), (e.floor.p1, 4), (e.floor.p0, 0)])
  | 0x004 => some (pack [(b2n (irq e 0) + 2 * b2n (irq e 1) + 4 * b2n (irq e 2) + 8 * b2n (irq e 3), 4), (e.idle.toNat, 0)])
  | 0x008 => some (word e.ignored)
  | 0x080 => some (word e.sel)
  | 0x084 => some (if selShown s then pack [(x.tier, 24), (x.modCount, 16), (x.mask.toNat, 8), (x.order, 0)] else 0)
  | 0x088 => some (if selShown s then word x.modTime else 0)
  | 0x08C => some (if selShown s then
      pack [(x.fires, 16), (b2n x.coalesced, 7), (if isActive x.state then x.claimer.val else 0, 4), (x.state.code, 0)] else 0)
  | 0x100 => some (pack [(s.hp.abandoned, 24), (s.hp.clash, 16), (s.hp.opcode, 8), (s.hp.check, 0)])
  | 0x104 => some (halves s.hp.busy s.hp.stateRef)
  | 0x108 => some (cmdWord s.hp.cmd)
  | 0x200 => some (pack [(b2n s.eth.comb0 + b2n s.eth.comb1 + b2n s.eth.upd, 4), (b2n s.eth.ptpOn, 2), (b2n s.eth.ptpLock, 1),
      (b2n s.eth.link, 0)])
  | 0x204 => some (cmdWord s.eth.cmd)
  | 0x208 => some (pack [(s.eth.dropConn, 24), (s.eth.dropFrames, 0)])
  | 0x20C => some (if s.eth.ptpLock then s.eth.ptpOff else 0)
  | _ => none

/-! ### Vote unit (R175) -/

/-- Mode as coded in VOTE_STAT. -/
def Mode.code : Mode → Nat
  | .off => 0
  | .full => 1
  | .degraded => 2
  | .halted => 3

/-- A lane is being reset while others vote (VOTE_REJOIN.PHASE 1). -/
def laneInReset (s : State) : Bool :=
  !(voters s).isEmpty && lanes.any (fun l =>
    lstate s l == .excluded || (lstate s l == .starting && !(laneOf s l).ready))

/-- VOTE_REJOIN. -/
def rejoinWord (s : State) : W32 :=
  match s.vote.rejoin with
  | some r => pack [(s.vote.aborts, 16), (r.pass, 10), (laneCode r.checker, 8), (r.donor.num, 6), (r.lane.num, 4),
      (if r.proving then 3 else 2, 0)]
  | none => pack [(s.vote.aborts, 16), (3, 8), (3, 6), (3, 4), (b2n (laneInReset s), 0)]

/-- A bit per local vital input A to H for which p holds on the service lane. -/
def vinBits (s : State) (p : VinEval → Bool) : Nat :=
  (List.range 8).foldl (fun n i => n + b2n (p (nthD {} (s.vin.ev.at s.glb.svc) i)) * 2 ^ i) 0

def readVote (s : State) (o : Nat) : Option W32 :=
  let v := s.vote
  match o with
  | 0x000 => some (pack [(b2n (votes s .a) + 2 * b2n (votes s .b) + 4 * b2n (votes s .c), 8), (v.mode.code, 0)])
  | 0x004 => some v.cycle
  | 0x008 => some (pack [(v.minority.c, 16), (v.minority.b, 8), (v.minority.a, 0)])
  | 0x00C => some (halves v.splitTwo v.splitThree)
  | 0x010 => some v.lastDis
  | 0x014 => some v.lastDisCycle
  | 0x018 => some (word v.degMinutes)
  | 0x01C => some (pack [(b2n v.degRun, 31), (degSeconds s % 0x40000, 0)])
  | 0x020 => some (rejoinWord s)
  | 0x024 => some (word (b2n (v.hold || v.pxHold)))
  | 0x040 => some (pack [(v.first, 8), lanesAt v.laneAct 4, (b2n (!v.modAct.isEmpty), 0)])
  | 0x044 => some (v.src.setWidth 32)
  | 0x048 => some v.firstCycle
  | 0x060 => some (pack [lanesAt v.readback 8, lanesAt v.seen 4, lanesAt v.permit 0])
  | 0x080 => some (pack [(vinBits s (fun x => x.differ.isSome), 16), (vinBits s (fun x => decide (x.cause ≠ 0)), 8),
      (vinBits s (fun x => x.closed), 0)])
  | 0x084 => some (word ((List.range 8).foldl (fun n i => n + (nthD {} (s.vin.ev.at s.glb.svc) i).cause * 16 ^ i) 0))
  | 0x088 => some (pack [(s.vin.discrepMs, 16), (s.vin.debounce, 0)])
  | _ => none

/-! ### Lane status (R46, R90, R134, R262, R348) -/

/-- LState as coded in LANE_STATE. -/
def LState.code : LState → Nat
  | .off => 0
  | .starting => 1
  | .voting => 2
  | .excluded => 3
  | .rejoining => 4
  | .heldOut => 5

/-- The selected node of LANE_TG_SEL is in its section table. -/
def tgShown (s : State) (g : Telegrams) : Bool :=
  g.selAddr != 0 && g.selAddr != 255 && (s.ring.at (ringOf g.selRing)).table.any (fun e => e.addr == g.selAddr)

/-- STATE of LANE_TG_NODE. -/
def nodeStateCode (v : NodeView) : Nat := if !v.lost then 0 else if v.join.isSome then 2 else 1

def readLane (s : State) (l : Lane) (o : Nat) : Option W32 :=
  let r := laneOf s l
  let g := s.tg.at l
  let v := viewOf g (nodeKey (ringOf g.selRing) g.selAddr)
  let b := s.bank.at l
  let a := (setOf s).ages
  match o with
  | 0x000 => some (match l with
    | .a => 0x100
    | .b => 0x10201
    | .c => 0x102)
  | 0x004 => some (pack [(b2n (s.glb.svc == l), 8), (min 3 (recentRejoins s l).length, 4), (r.state.code, 0)])
  | 0x008 => some (pack [(r.freqDev.toNat, 16), (b2n r.suspect, 6), (b2n r.stable, 5), (b2n r.pllLock, 4), (r.step, 0)])
  | 0x00C => some (pack [(min 0xFFFF r.vcoreMv, 16), (b2n r.feed, 2), (b2n r.vbackOk, 1), (b2n r.vmainOk, 0)])
  | 0x010 => some (r.fault.setWidth 32)
  | 0x014 => some r.cycle
  | 0x018 => some r.trap
  | 0x01C => some r.trapIndex
  | 0x020 => some (word r.run)
  | 0x024 => some (word r.runMax)
  | 0x028 => some 0
  | 0x02C => some (word (((activeProg s l).map (fun p => p.wcet)).getD 0))
  | 0x030 => some (pack [(r.callMax, 8), (r.clauseMax, 0)])
  | 0x034 => some (pack [(r.skipTotal, 16), (r.skipConsec, 0)])
  | 0x038 => some r.retCycle
  | 0x03C => some (pack [(b2n r.retSlot, 1), (b2n r.retValid, 0)])
  | 0x040 => some (if r.ready || !(r.voteReset || r.wdogReset) then pack [(a.p3, 12), (a.p2, 8), (a.p1, 4), (a.p0, 0)] else 0)
  | 0x044 => some (halves g.check g.seq)
  | 0x048 => some (halves g.aged g.joinReq)
  | 0x04C => some (pack [(g.rejoined, 16), (g.lostNow, 0)])
  | 0x050 => some (pack [(g.selRing, 8), (g.selAddr, 0)])
  | 0x054 => some (if tgShown s g then pack [(nodeStateCode v, 30), (v.istat.toNat, 0)] else 0)
  | 0x058 => some (if tgShown s g then halves v.iseq.toNat v.beacon.toNat else 0)
  | 0x05C => some (pack [(b2n b.staged, 9), (b2n b.active, 8), (b.result, 0)])
  | 0x060 => some b.check
  | 0x064 => some (word r.primes.length)
  | _ => none

/-! ### Ring ports (R209, R235) and the time base (R236) -/

/-- Role as coded in RINGn_STAT. -/
def Role.code : Role → Nat
  | .origin => 0
  | .master => 1
  | .standby => 2
  | .through => 3

/-- ClaimState as coded in RINGn_CLAIM. -/
def ClaimState.code : ClaimState → Nat
  | .idle => 0
  | .claiming => 1
  | .won => 2
  | .withdrawn => 3
  | .abandoned => 4
  | .clone => 5

/-- LOCK and COUNT of RINGn_GUARD. -/
def lockCode : Lock → Nat × Nat
  | .unlocked => (0, 0)
  | .relock n => (1, n)
  | .locked => (2, 0)

/-- The port as its registers show it: in SWIFT ports 2 and 3 as after reset but for SYNC and RINGn_LINK (R42). -/
def shownPort (s : State) (r : Ring) : RingPort :=
  let p := s.ring.at r
  if swiftIdle s r then { syncF := p.syncF, syncB := p.syncB, cvF := p.cvF, cvB := p.cvB } else p

/-- HEAL_PEND (R209): HEAL_READY seen from every wrapping station, its 2 s not yet over. -/
def healPending (s : State) (p : RingPort) : Bool :=
  match p.healSince with
  | some t0 => decide (s.clk.now < t0 + 2000000000)
  | none => false

def readRing (s : State) (r : Ring) (o : Nat) : Option W32 :=
  let p := shownPort s r
  let t := p.table
  let n := nodeCnt p p.nodeSel
  match o with
  | 0x000 => some (pack [(b2n (!t.isEmpty), 31), (t.length, 16), (if s.glb.valid ∧ s.glb.profile ≠ 1 then 1 else 0, 0)])
  | 0x004 => some (pack [((roleOf s r).code, 8), (b2n p.testOn, 6), (b2n (healPending s p), 5), (b2n p.dual, 4),
      (b2n p.wrapped.isSome, 3), (b2n p.syncB, 1), (b2n p.syncF, 0)])
  | 0x008 => some (pack [(p.wrapCount, 16), (p.wrapB.toNat, 8), (p.wrapF.toNat, 0)])
  | 0x00C => some (word (if t.isEmpty then 0 else frameLen t))
  | 0x010 => some (word p.round)
  | 0x014 => some (word p.roundMax)
  | 0x018 => some (word (if p.roundMax = 0 then 0 else 2 * p.roundMax - bytesNs t - 400))
  | 0x01C => some p.frames
  | 0x020 => some (halves p.late p.check)
  | 0x024 => some (halves p.conflict p.altered)
  | 0x028 => some (halves p.cvB p.cvF)
  | 0x040 => some (word p.nodeSel)
  | 0x044 => some (if t.any (fun e => e.addr == p.nodeSel) ∨ (p.nodeSel = 255 ∧ t.isEmpty = false) then
      pack [(b2n (t.any (fun e => e.addr == p.nodeSel)), 31), (n.line, 29), (n.err, 16), (n.stale, 0)] else 0)
  | 0x048 => some (pack [(p.testCycle, 4), (b2n p.testReq, 0)])
  | 0x100 => some (pack [(b2n p.gfault, 16), ((lockCode p.lock).1, 8), ((lockCode p.lock).2, 4), (b2n p.g2, 1), (b2n p.g1, 0)])
  | 0x104 => some (halves (signed 16 p.devB) (signed 16 p.devF))
  | 0x108 => some (halves p.relocks p.closed)
  | 0x10C => some (pack [(p.beaconSeq.toNat, 16), (p.tmFlags.toNat, 8), (p.tmRank.toNat, 0)])
  | 0x110 => some (pack [(p.claim.seq.toNat, 16), (p.claim.state.code, 0)])
  | 0x114 => some p.claim.seenEpoch
  | 0x118 => some p.claim.seenRank
  | 0x11C => some (word (if p.claim.first.isNone then 0 else tRt s r))
  | _ => none

/-- This module is the standby: it neither holds the crown, claims it, nor is OFF. -/
def isStandby (s : State) : Bool := !(crowned s) && s.crown.state != .off && s.crown.state != .candidate

def readTb (s : State) (o : Nat) : Option W32 :=
  let b := s.tb
  match o with
  | 0x000 => some (word (ringNow s))
  | 0x004 => some b.timeHi
  | 0x008 => some (pack [(b2n (isStandby s && b.locked), 8), (b2n b.stepped, 6), (backups s, 4), (laneCode b.tm, 0)])
  | 0x00C => some (pack [(signed 8 b.dev.c, 16), (signed 8 b.dev.b, 8), (signed 8 b.dev.a, 0)])
  | 0x010 => some (if isStandby s then word (signed 32 b.partnerOff) else 0)
  | 0x014 => some (word b.handovers)
  | _ => none

/-! ### Crown unit and partner link (R320) -/

/-- µs to the lease's or the view's end (CROWN_LEASE_LEFT). -/
def leaseLeft (s : State) : W32 :=
  let now := ringNow s
  if leaseValid s now then pack [(1, 31), (min 0xFFFFF ((s.crown.tAck + s.crown.lease - now) / 1000), 0)]
  else
    match s.crown.view with
    | some v => pack [(b2n (following s), 31), (min 0xFFFFF ((v + guardNs s - now) / 1000), 0)]
    | none => 0

/-- Hours to the next rotation offer. -/
def hoursLeft (s : State) : Nat :=
  if crowned s ∧ 0 < (setOf s).rotHours then
    (s.crown.heldFrom + (setOf s).rotHours * 3600000000 - s.clk.lifeUs) / 3600000000
  else 0

def readCrown (s : State) (o : Nat) : Option W32 :=
  let c := s.crown
  match o with
  | 0x000 => some (pack [(b2n c.solo, 15), (b2n c.released, 14), (c.partner, 8), (c.state.code, 0)])
  | 0x004 => some s.keep.epochKept
  | 0x008 => some s.fuse.rank
  | 0x00C => some c.partnerRank
  | 0x010 => some (pack [((setOf s).rotHours, 16), ((setOf s).leaseMs, 0)])
  | 0x014 => some (leaseLeft s)
  | 0x018 => some (word (crownRefuse s))
  | 0x01C => some c.matched
  | 0x020 => some (pack [(c.lowEpoch, 24), (c.takes, 12), (c.handovers, 0)])
  | 0x024 => some (halves (hoursLeft s) c.postponed)
  | 0x028 => some (word (2 * b2n c.hold))
  | 0x02C => some c.changeCycle
  | 0x040 => some (pack [(s.pl.load, 8), (b2n (s.pl.sync0 && s.pl.sync1), 2), (b2n s.pl.sync1, 1), (b2n s.pl.sync0, 0)])
  | 0x044 => some (halves s.pl.errCheck s.pl.errDup)
  | _ => none

/-! ### Comb (R383) and its window (R377) -/

/-- The challenge words shown: zero when none is valid (R383, R513). -/
def challengeWord (s : State) (c : Option Challenge) (k : Nat) : W32 :=
  match c with
  | some c => if s.clk.lifeUs < c.upTo then (c.value >>> (32 * k)).setWidth 32 else 0
  | none => 0

/-- COMBc_COUNT to COMBc_EPOCH. -/
def combWord (a : CombArr) (k : Nat) : W32 :=
  match k with
  | 0 => word a.count
  | 1 => word a.cap
  | 2 => a.gen
  | _ => pack [(fillPercent a, 16), (a.epoch, 0)]

/-- The lists the settings enable. -/
def snapEnabled (s : State) : Nat :=
  (List.range 4).foldl (fun m l => m + b2n ((nthD none (setOf s).snaps l).isSome) * 2 ^ l) 0

/-- The lists whose snapshot is being written. -/
def snapBusy (s : State) : Nat :=
  (List.range 4).foldl (fun m l => m + b2n (s.comb.snapRuns.any (fun r => r.list == l)) * 2 ^ l) 0

def readComb (s : State) (o : Nat) : Option W32 :=
  let c := s.comb
  if 0x020 ≤ o ∧ o < 0x050 ∧ o % 4 = 0 then some (combWord (c.arr ((o - 0x020) / 16)) ((o - 0x020) / 4 % 4))
  else if 0x080 ≤ o ∧ o ≤ 0x08C ∧ o % 4 = 0 then some (challengeWord s c.chal ((o - 0x080) / 4))
  else if 0x0C0 ≤ o ∧ o ≤ 0x0FC ∧ o % 4 = 0 then some 0
  else match o with
  | 0x000 =>
    let mode := fun (a : CombArr) => if c.state = .scanning then 0 else a.mode.code
    some (pack [(c.cat, 24), (b2n c.lwFull, 16), (mode c.c2, 12), (mode c.c1, 10), (mode c.c0, 8), (c.state.code, 0)])
  | 0x004 => some (word c.nextSeq)
  | 0x008 => some c.seqHi
  | 0x00C => some (pack [(c.queueMax, 16), (c.queue.length, 0)])
  | 0x010 => some (halves c.lossQueue c.lossStart)
  | 0x014 => some (halves c.badCheck c.badEcc)
  | 0x018 => some (pack [(nthD 0 c.refused 2, 20), (nthD 0 c.refused 1, 10), (nthD 0 c.refused 0, 0)])
  | 0x060 => some (pack [(c.frzMaxMs, 16), (b2n c.frzActive, 1), (b2n c.frzReq, 0)])
  | 0x064 => some (word c.curSel)
  | 0x068 => some (word c.cursor)
  | 0x070 => some (word c.mask.toNat)
  | 0x074 => some c.authOp
  | 0x100 => some (pack [(snapEnabled s, 8)])
  | 0x104 => some (pack [(c.snapMissed, 16), (snapBusy s, 0)])
  | 0x110 => some (pack [(c.lw.epoch, 9), (c.lw.count, 0)])
  | _ => none

/-- The payload of cell j of a capture (R372). -/
def snapData (list : Nat) (cycle : W32) (skipped : Bool) (values : List W64) (j : Nat) : List Byte :=
  [BitVec.ofNat 8 list, BitVec.ofNat 8 (26 * j), BitVec.ofNat 8 (b2n skipped), 0] ++ leBytes 4 cycle.toNat
    ++ (sub values (26 * j) 26).flatMap wordBytes

/-- Cell j of a capture as the brood buffer holds it (R373). -/
def broodCell (x : Brood) (j : Nat) : Cell :=
  { seq := 2 ^ 63 + x.num + j, life := x.life, cal := x.cal, cycle := x.cycle, source := 0x06
    payload := .bytes 0x09 (snapData x.list x.cycle x.skipped x.values j), calValid := decide (x.cal ≠ 0), partner := false
    verified := false, trunc := false }

/-- The lists the settings enable, in order. -/
def enabledLists (s : State) : List (Nat × SnapList) :=
  (List.range 4).filterMap (fun l => (nthD none (setOf s).snaps l).map (fun x => (l, x)))

/-- Cells of one capture of every enabled list (R372). -/
def broodTotal (s : State) : Nat := max 1 ((enabledLists s).foldl (fun n x => n + snapCells x.2) 0)

/-- A list's share of the brood buffer in cells (R373). -/
def broodShare (s : State) : Nat := 4096 / max 1 (enabledLists s).length

/-- The first index of a capture in the brood buffer: each list fills its own share in turn (log entry 45). -/
def broodPlace (s : State) (x : Brood) : Nat :=
  let rank := ((enabledLists s).filter (fun y => decide (y.1 < x.list))).length
  let cells := max 1 ((x.values.length + 25) / 26)
  rank * broodShare s + x.num / broodTotal s % max 1 (broodShare s / cells) * cells

/-- The brood cell at an index: the newest written there, unless it has been made absent (R373, R517). -/
def broodAt (s : State) (i : Nat) : Option Cell :=
  (s.comb.brood.reverse.find? (fun x =>
    decide (broodPlace s x ≤ i) && decide (i < broodPlace s x + (x.values.length + 25) / 26))).bind (fun x =>
      let j := i - broodPlace s x
      if x.gone.contains j then none else some (broodCell x j))

/-- Words of the comb read window (R377) at offset o: absent cells read all ones, indices beyond the source's capacity
zero. -/
def windowWord (s : State) (o : Nat) : W32 :=
  let i := s.comb.cursor + o / 256
  let k := o % 256 / 4
  let show' := fun (c : Nat) (x : Option Slot) =>
    match x with
    | some x => word (leAt (cellBytes c i x) (4 * k) 4)
    | none => 0xFFFFFFFF#32
  if s.comb.curSel ≤ 2 then
    let a := s.comb.arr s.comb.curSel
    if i < a.cap then show' s.comb.curSel (capped a i) else 0
  else if s.comb.curSel = 3 then (if i < 4096 then show' 3 ((broodAt s i).map (fun x => ⟨x, 0, 0, false⟩)) else 0)
  else if s.comb.curSel = 4 then
    (if i < s.comb.lw.cap then show' 4 (capped s.comb.lw i) else 0)
  else 0

/-! ### Check units (R399) and the door guard (R293) -/

/-- CHK_LANE_x. -/
def chkLaneWord (p : ChkLane) : W32 :=
  pack [(p.scanLoad, 24), (p.portLoad, 16), (p.kat.toNat, 6), (b2n (p.susp && p.queue.any (fun r => r.cls == 2)), 5),
    (p.queue.length, 0)]

def readChk (s : State) (o : Nat) : Option W32 :=
  match o with
  | 0x000 => some (chkLaneWord s.port.a)
  | 0x004 => some (chkLaneWord s.port.b)
  | 0x008 => some (chkLaneWord s.port.c)
  | 0x010 => some (halves s.chk.repaired s.chk.bad)
  | 0x014 => some s.chk.last
  | 0x018 => some s.chk.lastOld
  | 0x01C => some s.chk.lastNew
  | 0x020 => some s.chk.boot
  | 0x040 => some (word (2 * b2n s.chk.moved))
  | 0x044 => some 0
  | 0x048 => some 0
  | 0x04C => some 0
  | 0x050 => some (testResult s)
  | _ => none

/-- Units in force for which p holds in channel X (DG_NOW). -/
def unitsIn (s : State) (p : DoorChan → Bool) : Nat :=
  (s.door.table.filter (fun e => !e.retired && p (chanOf s.door 0 e.gunit))).length

def readDoorBlock (s : State) (o : Nat) : Option W32 :=
  let d := s.door
  let u := chanOf d 0 d.sel
  let e := doorEntry d d.sel
  match o with
  | 0x000 => some (pack [((d.table.filter (fun e => !e.retired)).length, 16), (d.tripHold, 0)])
  | 0x004 => some (pack [(b2n (decide (0 < unitsIn s (fun u => u.state == .tripped && u.cause == 10))), 9), (b2n d.gfault, 8),
      (if crowned s then 1 else if following s ∨ s.crown.state = .proving ∨ s.crown.state = .copying then 2 else 0, 0)])
  | 0x008 => some (halves (unitsIn s (fun u => u.state == .tripped)) (unitsIn s (fun u => u.proof == .unproven)))
  | 0x00C => some (halves (unitsIn s (fun u => u.state == .isolated)) (unitsIn s (fun u => u.state == .degraded)))
  | 0x010 => some (halves d.trips d.cleared)
  | 0x040 => some (word d.sel)
  | 0x044 => some (pack [(b2n e.isSome, 31), (u.state.code, 28), (u.proof.code, 26), (b2n u.failX + 2 * b2n u.failY, 24),
      (b2n u.conf, 23), (b2n u.grant, 22), (u.stale, 16), (u.cause, 0)])
  | 0x048 => some (halves u.y.pos.toNat u.x.pos.toNat)
  | 0x04C => some (halves u.y.spd.toNat u.x.spd.toNat)
  | 0x050 => some (match e with
    | some e => halves e.win e.spdLim
    | none => 0)
  | 0x054 => some (match e with
    | some e => pack [(e.ring.val, 16), (e.addr, 8), (e.unit, 0)]
    | none => 0)
  | 0x058 => some (pack [((e.map (fun e => if e.staff.isNone then 0 else e.degMax)).getD 0, 24),
      (min 3600 (tabGet 0 s.keep.degUsed d.sel / 1000000000), 0)])
  | 0x05C => some (word u.trips)
  | 0x060 => some 0
  | _ => none

/-! ### Update loader (R492) and self-test (R513) -/

/-- LOCK of UPD_STAT. -/
def lockOf : Option UpdSrc → Nat
  | none => 0
  | some .eth => 1
  | some .partner => 2

/-- VERSION of the code store's firmware header, 0 when not valid. -/
def storeVersion (s : State) : W32 := ((fwHeader s).map (fun h => word (leAt h 4 4))).getD 0

def readUpd (s : State) (o : Nat) : Option W32 :=
  let u := s.upd
  match o with
  | 0x000 => some (pack [(s.keep.reason, 16), (u.last, 8), (b2n u.pairMismatch, 7),
      (b2n ((fwHeader s).isSome && storeVersion s != u.fwRun), 6), (b2n s.rst.recovery, 5), (u.phase.code, 2), (lockOf u.lock, 0)])
  | 0x004 => some u.fwRun
  | 0x008 => some (storeVersion s)
  | 0x00C => some s.fuse.floor
  | 0x010 => some (halves u.pairMin u.pairLevel)
  | 0x014 => some (word u.bytes.length)
  | 0x018 => some (pack [(u.done, 16), (u.busy, 8), (u.failed, 0)])
  | 0x020 => some 0
  | 0x024 => some (word (b2n (setOf s).autoReturn))
  | _ => none

/-- TestState as coded in ST_STAT. -/
def TestState.code : TestState → Nat
  | .idle => 0
  | .running => 1
  | .stopped => 2

/-- The DONE mark of a complete self-test record (R502). -/
def doneMark : W32 := 0xD0E57E57

/-- A record passes (R502): every entry at its golden values, and DONE. -/
def recordPasses (r : TestRec) : Bool :=
  decide (r.entries.length = 11) && r.done == doneMark
    && (List.range 11).all (fun i => nthD (0, 0) r.entries i == Config.golden r.version i)

/-- Minutes since a record ended (ST_REC). -/
def recordAge (s : State) : Nat := min 0x3FFF ((s.clk.lifeUs - s.keep.testRec.stop) / 60000000)

/-- The entry that ST_ENT_SEL selects: of the start-up test shown, else of the record kept. -/
def shownEntry (s : State) : W32 × W32 := nthD (0, 0) (s.test.shown.getD s.keep.testRec.entries) s.test.entSel

/-- The golden values of the selected entry. -/
def goldenEntry (s : State) : W32 × W32 := if s.test.entSel ≤ 10 then Config.golden s.upd.fwRun s.test.entSel else (0, 0)

def readTest (s : State) (o : Nat) : Option W32 :=
  let x := s.test
  if 0x050 ≤ o ∧ o ≤ 0x05C ∧ o % 4 = 0 then some (challengeWord s x.chal ((o - 0x050) / 4))
  else if 0x080 ≤ o ∧ o ≤ 0x0BC ∧ o % 4 = 0 then some 0
  else match o with
  | 0x000 => some (pack [(b2n x.ovr, 18), (b2n x.session.isSome, 17), (b2n x.scanEn, 16), (x.kind, 10), (x.result, 8), (x.step, 4),
      (x.state.code, 0)])
  | 0x004 => some 0
  | 0x008 => some (pack [(x.short, 16), (x.sigFail, 0)])
  | 0x010 => some (pack [(b2n (recordPasses s.keep.testRec), 31), (b2n (s.keep.testRec.done == doneMark), 30), (recordAge s, 0)])
  | 0x020 => some (word x.entSel)
  | 0x024 => some (shownEntry s).1
  | 0x028 => some (goldenEntry s).1
  | 0x02C => some (shownEntry s).2
  | 0x030 => some (goldenEntry s).2
  | 0x040 => some (pack [(x.purpose.toNat, 8)])
  | 0x044 => some x.op
  | 0x100 => some x.injSel
  | 0x104 => some (pack [(x.injCount, 8)])
  | 0x108 => some (halves x.injRefused x.injDone)
  | 0x110 => some (word (b2n x.ovr))
  | 0x120 => some (pack [(x.atb1.toNat, 8), (x.atb0.toNat, 0)])
  | 0x130 => some 0x15603A57
  | _ => none

/-! ### Workers (R531), time-keeping (R532) and power (R554) -/

/-- SPARE_LOW (R518): a pool below a quarter of what it began with. -/
def spareLow (w : Wk) : Nat := b2n (decide (w.spareComb < 128)) + 2 * b2n (decide (w.spareCode < 376))

def readWk (s : State) (o : Nat) : Option W32 :=
  let w := s.wk
  let p := s.keep.plan
  match o with
  | 0x000 => some (pack [(p.step, 24), (b2n p.refresh, 20), (b2n p.dscrub, 19), (b2n p.nscrub, 18), (b2n p.verify, 17),
      (b2n w.warned, 16), (spareLow w, 0)])
  | 0x004 => some (halves w.ocCorr w.ocPass)
  | 0x008 => some (halves w.drCorr w.drPass)
  | 0x00C => some (halves w.retired w.relocated)
  | 0x010 => some (halves w.spareCode w.spareComb)
  | 0x040 => some (halves p.means.a w.slack.a)
  | 0x044 => some (halves p.means.b w.slack.b)
  | 0x048 => some (halves p.means.c w.slack.c)
  | 0x04C => some (halves w.forecast (signed 16 w.slope))
  | 0x050 => some (pack [(min 255 p.ro.c, 16), (min 255 p.ro.b, 8), (min 255 p.ro.a, 0)])
  | 0x054 => some (word w.eyeSel)
  | 0x058 => some (if w.eyeSel ≤ 6 then halves (nthD 0 p.eyes w.eyeSel) (nthD 0 w.eyeNow w.eyeSel) else 0)
  | 0x060 => some (word w.figure)
  | 0x064 => some (word w.wcet)
  | _ => none

def readTk (s : State) (o : Nat) : Option W32 :=
  let t := s.tk
  let p := s.pwr
  match o with
  | 0x000 => some (word s.clk.lifeUs)
  | 0x004 => some t.lifeHi
  | 0x008 => some (if s.clk.calValid then word (s.clk.calNs / 1000000000) else 0)
  | 0x00C => some t.calHi
  | 0x010 => some t.calNs
  | 0x014 => some t.setLo
  | 0x018 => some t.setHi
  | 0x01C => some t.setNs
  | 0x020 => some 0
  | 0x024 => some (pack [(s.clk.calSetter, 6), (b2n s.keep.lifeGap, 2), (b2n (s.eth.ptpLock && s.eth.ptpOn), 1), (b2n s.clk.calValid, 0)])
  | 0x028 => some (word (signed 32 s.clk.calPpb))
  | 0x030 => some (word t.sel)
  | 0x034 => some (if t.sel ≤ 17 then word (nthD 0 s.keep.counters t.sel) else 0)
  | 0x100 => some (pack [(b2n (p.back == .above), 7), (b2n (p.main == .above), 6), (b2n p.switched, 4), (b2n p.holdup, 3), (b2n p.feed, 2),
      (b2n (p.back == .usable || p.back == .settled), 1), (b2n (p.main == .usable || p.main == .settled), 0)])
  | 0x104 => some (halves p.backMv p.mainMv)
  | 0x108 => some (pack [(b2n p.keepLow, 16), (min 0xFFFF p.keepMv, 0)])
  | 0x10C => some (halves p.toMain p.toBack)
  | 0x110 => some (halves p.peak p.load)
  | 0x114 => some (word (min p.holdUs 0xFFFF))
  | 0x118 => some (pack [(signed 8 p.tempMax, 16), (signed 8 p.temp, 0)])
  | _ => none

/-- The register at an aligned address (R12, R14). -/
def regRead (s : State) (addr : Nat) : Option W32 :=
  let o := addr % 0x10000
  match addr / 0x10000 with
  | 0x00 => readGlb s o
  | 0x01 => readRst s o
  | 0x02 => readOpt s o
  | 0x03 => readEvr s o
  | 0x04 => readVote s o
  | 0x05 => readLane s .a o
  | 0x06 => readLane s .b o
  | 0x07 => readLane s .c o
  | 0x08 => readRing s 0 o
  | 0x09 => readRing s 1 o
  | 0x0A => readRing s 2 o
  | 0x0B => readRing s 3 o
  | 0x0C => readTb s o
  | 0x0D => readCrown s o
  | 0x0E => readComb s o
  | 0x0F => readChk s o
  | 0x10 => readDoorBlock s o
  | 0x11 => readUpd s o
  | 0x12 => readTest s o
  | 0x13 => readWk s o
  | 0x14 => readTk s o
  | b => if 0x20 ≤ b ∧ b ≤ 0x2F ∧ addr % 4 = 0 then some (windowWord s (addr - 0x200000)) else none

end Sys2Proof.Machine
end

