-- ==== Sys2Proof/Machine/SnapOps.lean ====
section
/-! DEFINITION. Snapshots (R371 to R375): the capture of every enabled list at a commit, triggers, the brood buffer and
the cells a snapshot writes. -/
namespace Sys2Proof.Machine

/-- The noun word a snapshot reads: that of the first lane in VOTING state (R372); with none it is free (log entry 183). -/
def snapNoun (s : State) (w : Nat) : W64 :=
  match (voters s).head? with
  | some l => tabGet 0 (s.st.at l).noun w
  | none => Config.unreadNoun s.clk.now w

/-- The value of an item (R372): a noun word, or a register zero-extended. -/
def snapValue (s : State) (item : Bool × Nat) : W64 :=
  if item.1 then snapNoun s item.2 else ((regRead s item.2).getD 0).setWidth 64

/-- The capture of a list at the commit of cycle n (R372, R373). -/
def snapCapture (s : State) (n : W32) (skipped : Bool) (x : Nat × SnapList) : Brood :=
  { num := s.comb.broodNext, list := x.1, cycle := n, skipped := skipped, life := s.clk.lifeUs
    cal := if s.clk.calValid then s.clk.calNs else 0, values := x.2.items.map (snapValue s) }

/-- The captures of a list that its share of the brood buffer still holds: the newest ones (R373). -/
def keepBrood (room list : Nat) (bs : List Brood) : List Brood :=
  let own := (bs.filter (fun b => b.list == list)).length
  (bs.foldl (fun (acc : List Brood × Nat) b =>
    if b.list = list ∧ acc.2 + room < own then (acc.1, acc.2 + 1)
    else (b :: acc.1, if b.list = list then acc.2 + 1 else acc.2)) ([], 0)).1.reverse

/-- A capture enters the brood buffer. -/
def putBrood (b : Brood) (cells : Nat) (s : State) : State :=
  let room := broodShare s / max 1 cells
  { s with comb := { s.comb with
      brood := keepBrood room b.list (s.comb.brood ++ [b]), broodNext := s.comb.broodNext + cells } }

/-- What holds of the triggers of R371 at a commit: the class of the fault word, a reflex, the lists named by TRIG. -/
def snapTrigs (s : State) (fault : Bool) (x : Nat × SnapList) : List Nat :=
  let before := ((kvGet s.comb.nounPrev x.1).getD 0xFFFFFFFFFFFFFFFF).getLsbD (x.2.noun % 64)
  let now := (snapNoun s (x.2.noun / 64)).getLsbD (x.2.noun % 64)
  [(0, !before && now), (1, s.comb.snapReflex), (2, fault), (3, s.comb.snapTrig.getLsbD x.1)].filterMap (fun c =>
    if c.2 && x.2.trig / 2 ^ c.1 % 2 == 1 then some c.1 else none)

/-- Writes the cells of a capture that are not absent into comb 2 (R374, R517). -/
def writeCapture (b : Brood) (s : State) : State :=
  ((List.range ((b.values.length + 25) / 26)).filter (fun j => !b.gone.contains j)).foldl (fun s j =>
    recordOwn 2 0x09 (snapData b.list b.cycle b.skipped b.values j) s) s

/-- The brood captures a snapshot takes: the latest PRE of its list before cycle n, none from before the latest restart
(R374). -/
def broodBefore (s : State) (x : Nat × SnapList) (n : W32) : List Brood :=
  let own := s.comb.brood.filter (fun b => b.list == x.1 && b.cycle != n
    && (b.cycle == s.glb.restartCycle || cycleBefore s.glb.restartCycle b.cycle))
  own.drop (own.length - x.2.pre)

/-- SNAP_HEAD (R557). -/
def snapHead (s : State) (x : Nat × SnapList) (kind pre : Nat) (n : W32) : List Byte :=
  [BitVec.ofNat 8 x.1, BitVec.ofNat 8 kind] ++ leBytes 2 pre ++ leBytes 2 x.2.post
    ++ [BitVec.ofNat 8 x.2.items.length, 0] ++ leBytes 4 n.toNat ++ leBytes 4 0 ++ leBytes 8 (setOf s).id.toNat

/-- A snapshot begins (R374). -/
def beginSnap (x : Nat × SnapList) (kind : Nat) (b : Brood) (s : State) : State :=
  let pre := broodBefore s x b.cycle
  let s := recordOwn 2 0x08 (snapHead s x kind pre.length b.cycle) s
  let s := writeCapture b (pre.foldl (fun s y => writeCapture y s) s)
  if x.2.post = 0 then fire 51 s
  else { s with comb := { s.comb with snapRuns := s.comb.snapRuns ++ [{ list := x.1, left := x.2.post }] } }

/-- A snapshot under way takes this capture (R374). -/
def continueSnap (b : Brood) (s : State) : State :=
  let s := writeCapture b s
  let runs := s.comb.snapRuns.map (fun r => if r.list = b.list then { r with left := r.left - 1 } else r)
  let ended := runs.any (fun r => r.list == b.list && r.left == 0)
  fireIf ended 51 { s with comb := { s.comb with snapRuns := runs.filter (fun r => r.left != 0) } }

/-- A trigger that is not taken (R375): counted, with the first cycle of its second. -/
def missSnap (l : Nat) (n : W32) (s : State) : State :=
  let old := s.comb.missNow.find? (fun m => m.1 == l)
  let put := match old with
    | some m => s.comb.missNow.map (fun y => if y.1 = l then (y.1, y.2.1, y.2.2.1, m.2.2.2 + 1) else y)
    | none => s.comb.missNow ++ [(l, s.clk.lifeUs, n, 1)]
  { s with comb := { s.comb with snapMissed := satAdd s.comb.snapMissed 1 0xFFFF, missNow := put } }

/-- One SNAP_MISSED cell for each list and each second that is over (R375). -/
def missCells (s : State) : State :=
  let due := s.comb.missNow.filter (fun m => decide (m.2.1 + 1000000 ≤ s.clk.lifeUs))
  let s := { s with comb := { s.comb with missNow := s.comb.missNow.filter (fun m => !decide (m.2.1 + 1000000 ≤ s.clk.lifeUs)) } }
  due.foldl (fun s m =>
    recordOwn 1 0x0A ([BitVec.ofNat 8 m.1, 0, 0, 0] ++ leBytes 4 m.2.2.2 ++ leBytes 4 m.2.2.1.toNat) s) s

/-- One enabled list at a commit (R372 to R375). -/
def snapList1 (n : W32) (skipped fault : Bool) (s : State) (x : Nat × SnapList) : State :=
  let b := snapCapture s n skipped x
  let trigs := snapTrigs s fault x
  let s := putBrood b (snapCells x.2) s
  let s := { s with comb := { s.comb with nounPrev := kvPut s.comb.nounPrev x.1 (snapNoun s (x.2.noun / 64)) } }
  if s.comb.snapRuns.any (fun r => r.list == x.1) then
    let s := if trigs.isEmpty then s else missSnap x.1 n s
    continueSnap b s
  else
    match trigs with
    | k :: _ => beginSnap x k b s
    | [] => s

/-- Every enabled list at the commit of cycle n. -/
def snapCommit (n : W32) (skipped fault : Bool) (s : State) : State :=
  let s := (enabledLists s).foldl (snapList1 n skipped fault) (missCells s)
  { s with comb := { s.comb with snapReflex := false, snapTrig := 0 } }

end Sys2Proof.Machine
end

