-- ==== Sys2Proof/Machine/Engine.lean ====
section
/-! DEFINITION. The 52 verbs of the Clause instruction set (R63 to R84) and the flow guard (R82). -/
namespace Sys2Proof.Machine

/-- What lane l's verbs work on. -/
def workOf (s : State) (l : Lane) : Work := ⟨s.eng.at l, s.st.at l, (s.lane.at l).primes⟩

/-- Puts the work of lane l back, with the deepest stacks seen so far (LANE_DEPTH, R90). -/
def putWork (l : Lane) (w : Work) (s : State) : State :=
  { s with
    eng := s.eng.put l w.eng
    st := s.st.put l w.st
    lane := s.lane.upd l (fun r => { r with
      primes := w.primes
      callMax := max r.callMax w.eng.call.length
      clauseMax := max r.clauseMax w.eng.clause.length }) }

/-- One instruction of verb code c on lane l with instruction word w (R51, R60, R86): while the engine runs, the word
traps or has the effect f, its clocks count, and PC goes on unless f moved it, from 0x3FFFF to 0 (DESIGN CHOICE, log
entry 157). A word of an illegal code traps; a word
of another legal code is no command of this verb. -/
def verb (c : Nat) (l : Lane) (w : W64) (f : VWord → Work → Work) (s : State) : Host.Outcome State Fault Refusal :=
  let v := vword w
  if v.verb.toNat ≠ c ∧ (verbForm v.verb).isSome then .fault .wrongVerb else
  .next (
    if (s.eng.at l).run ≠ .running then s else
    let k := workOf s l
    match trapOf ((activeProg s l).getD {}) (s.bank.at l).active k v with
    | some cause => trap l cause false s
    | none =>
      let n := verbClocks k.eng v
      let k := { k with eng := { k.eng with pc := k.eng.pc + 1, viaCall := false } }
      let k := f v k
      putWork l { k with eng := { k.eng with clocks := k.eng.clocks + n } } s)

/-- An effect that only changes the acted-on columns of ACC, from ACC and the operand (R64). -/
def accOp (f : W64 → W64 → W64) (v : VWord) (k : Work) : Work :=
  { k with eng := setAcc k.eng v (f k.eng.acc (operand k.st v)) }

/-- An effect that writes the operand bits, from ACC and the old bits (R65). -/
def storeOp (f : W64 → W64 → W64) (v : VWord) (k : Work) : Work := storeBits k v f

/-- OPEN and OPENN (R66): push all of ACC, then load. -/
def openOp (f : W64 → W64) (v : VWord) (k : Work) : Work :=
  let e := { k.eng with clause := k.eng.acc :: k.eng.clause }
  { k with eng := setAcc e v (f (operand k.st v)) }

/-- CLOSE.AND and CLOSE.OR (R66): pop an entry and combine it with ACC. -/
def closeOp (f : W64 → W64 → W64) (v : VWord) (k : Work) : Work :=
  match k.eng.clause with
  | [] => k
  | x :: xs => { k with eng := setAcc { k.eng with clause := xs } v (f x k.eng.acc) }

/-- One evaluation of a TON cell with input i and a preset (R71). -/
def tonEval (preset : BitVec 26) (i : Bool) (c : TimerCell) : TimerCell :=
  let c := if i then c else { c with q := false, run := false, count := preset }
  let c := if i && !c.run && !c.q then { c with run := true, count := preset } else c
  if c.run && c.count == 0 then { c with q := true, run := false } else c

/-- One evaluation of a TOF cell (R71). -/
def tofEval (preset : BitVec 26) (i : Bool) (c : TimerCell) : TimerCell :=
  let c := if i then { c with q := true, run := false, count := preset } else c
  let c := if !i && c.q && !c.run then { c with run := true } else c
  if c.run && c.count == 0 then { c with q := false, run := false } else c

/-- One evaluation of a TP cell (R71). -/
def tpEval (preset : BitVec 26) (i : Bool) (c : TimerCell) : TimerCell :=
  let c := if i && !c.last && !c.run then { c with q := true, run := true, count := preset } else c
  let c := if c.run && c.count == 0 then { c with q := false, run := false } else c
  { c with last := i }

/-- One evaluation of a TRST cell (R71). -/
def trstEval (preset : BitVec 26) (i : Bool) (c : TimerCell) : TimerCell :=
  if i then { c with q := false, run := false, last := false, count := preset } else c

/-- Evaluates the enabled cells among n from cell c on, column j first; the Qs go into x (R50, R71). -/
def timerCols (f : Bool → TimerCell → TimerCell) (e : Engine) (st : Stores) (c j : Nat) (x : W64) : Nat → Stores × W64
  | 0 => (st, x)
  | n + 1 =>
    if e.cmask.getLsbD j then
      let y := f (e.acc.getLsbD j) (readTimer st c)
      timerCols f e (writeTimer st c y) (c + 1) (j + 1) (putBit x j y.q) n
    else timerCols f e st (c + 1) (j + 1) x n

/-- A timer verb (R71, R73): each addressed cell is evaluated once with input from A, then A := Q. -/
def timerOp (f : BitVec 26 → Bool → TimerCell → TimerCell) (v : VWord) (k : Work) : Work :=
  let g := f (v.op2.extractLsb' 0 26)
  if v.p then
    let r := timerCols g k.eng k.st (lowAddr v) 0 k.eng.acc 64
    { k with st := r.1, eng := setAcc k.eng v r.2 }
  else
    let y := g (k.eng.acc.getLsbD 0) (readTimer k.st (lowAddr v))
    { k with st := writeTimer k.st (lowAddr v) y, eng := setAcc k.eng v (fill y.q) }

/-- EDGR and EDGF (R75), with the prime marks of R342: a marked column first takes m := A, and its mark is cleared.
`f a m` gives r. -/
def edgeOp (f : W64 → W64 → W64) (v : VWord) (k : Work) : Work :=
  let x := operandWord v
  let w := match x with
    | .noun i => i
    | _ => 0
  let cols : W64 := if v.p then k.eng.cmask else 1#64 <<< operandBit v
  let a : W64 := if v.p then k.eng.acc else fill (k.eng.acc.getLsbD 0)
  let mark := tabGet 0 k.primes w
  let old := readLoc k.st x
  let m := merge (cols &&& mark) old a
  let r := f a m
  let rAcc : W64 := if v.p then r else fill (r.getLsbD (operandBit v))
  { eng := setAcc k.eng v rAcc
    st := writeLoc k.st x (merge cols m a)
    primes := tabSet 0 k.primes w (mark &&& ~~~cols) }

/-- A word verb that sets W from W and the operand word (R76). -/
def wordOp (f : W64 → W64 → W64) (v : VWord) (k : Work) : Work :=
  { k with eng := { k.eng with w := f k.eng.w (readLoc k.st (operandWord v)) } }

/-- A word verb that sets W from W and imm (R76). -/
def immOp (f : W64 → W64 → W64) (v : VWord) (k : Work) : Work := { k with eng := { k.eng with w := f k.eng.w (imm v) } }

/-- A comparison result goes into every enabled column of ACC (R76). -/
def compare (f : W64 → W64 → Bool) (x : W64) (v : VWord) (k : Work) : Work :=
  { k with eng := setAcc k.eng v (fill (f k.eng.w x)) }

/-- A jump goes to OP2 when its condition holds (R77). -/
def jumpOp (v : VWord) (k : Work) : Work :=
  if jumpTaken k.eng v then { k with eng := { k.eng with pc := v.op2.setWidth 18 } } else k

/-- Signed sum, saturating (R76). -/
def addSat (x y : W64) : W64 := saturate (x.toInt + y.toInt)

/-- Signed difference, saturating (R76). -/
def subSat (x y : W64) : W64 := saturate (x.toInt - y.toInt)

def execVerbLd (l : Lane) (w : W64) (s : State) := verb 0x01 l w (accOp (fun _ x => x)) s
def execVerbLdn (l : Lane) (w : W64) (s : State) := verb 0x02 l w (accOp (fun _ x => ~~~x)) s
def execVerbAnd (l : Lane) (w : W64) (s : State) := verb 0x03 l w (accOp (fun a x => a &&& x)) s
def execVerbAndn (l : Lane) (w : W64) (s : State) := verb 0x04 l w (accOp (fun a x => a &&& ~~~x)) s
def execVerbOr (l : Lane) (w : W64) (s : State) := verb 0x05 l w (accOp (fun a x => a ||| x)) s
def execVerbOrn (l : Lane) (w : W64) (s : State) := verb 0x06 l w (accOp (fun a x => a ||| ~~~x)) s
def execVerbXor (l : Lane) (w : W64) (s : State) := verb 0x07 l w (accOp (fun a x => a ^^^ x)) s
def execVerbXorn (l : Lane) (w : W64) (s : State) := verb 0x08 l w (accOp (fun a x => a ^^^ ~~~x)) s

/-- NOT (R64). -/
def execVerbNot (l : Lane) (w : W64) (s : State) :=
  verb 0x09 l w (fun v k => { k with eng := setAcc k.eng v (~~~k.eng.acc) }) s

/-- LDK (R64). -/
def execVerbLdk (l : Lane) (w : W64) (s : State) :=
  verb 0x0A l w (fun v k => { k with eng := setAcc k.eng v (fill (v.op2.getLsbD 0)) }) s

def execVerbSt (l : Lane) (w : W64) (s : State) := verb 0x10 l w (storeOp (fun a _ => a)) s
def execVerbStn (l : Lane) (w : W64) (s : State) := verb 0x11 l w (storeOp (fun a _ => ~~~a)) s
def execVerbSet (l : Lane) (w : W64) (s : State) := verb 0x12 l w (storeOp (fun a x => x ||| a)) s
def execVerbRst (l : Lane) (w : W64) (s : State) := verb 0x13 l w (storeOp (fun a x => x &&& ~~~a)) s
def execVerbOpen (l : Lane) (w : W64) (s : State) := verb 0x14 l w (openOp (fun x => x)) s
def execVerbOpenn (l : Lane) (w : W64) (s : State) := verb 0x15 l w (openOp (fun x => ~~~x)) s
def execVerbCloseAnd (l : Lane) (w : W64) (s : State) := verb 0x16 l w (closeOp (fun e a => e &&& a)) s
def execVerbCloseOr (l : Lane) (w : W64) (s : State) := verb 0x17 l w (closeOp (fun e a => e ||| a)) s
def execVerbTon (l : Lane) (w : W64) (s : State) := verb 0x18 l w (timerOp tonEval) s
def execVerbTof (l : Lane) (w : W64) (s : State) := verb 0x19 l w (timerOp tofEval) s
def execVerbTp (l : Lane) (w : W64) (s : State) := verb 0x1A l w (timerOp tpEval) s
def execVerbTrst (l : Lane) (w : W64) (s : State) := verb 0x1B l w (timerOp trstEval) s

/-- TRD (R74). -/
def execVerbTrd (l : Lane) (w : W64) (s : State) :=
  verb 0x1C l w (fun v k => { k with eng := { k.eng with w := (readTimer k.st (lowAddr v)).count.setWidth 64 } }) s

def execVerbEdgr (l : Lane) (w : W64) (s : State) := verb 0x1D l w (edgeOp (fun a m => a &&& ~~~m)) s
def execVerbEdgf (l : Lane) (w : W64) (s : State) := verb 0x1E l w (edgeOp (fun a m => ~~~a &&& m)) s
def execVerbWld (l : Lane) (w : W64) (s : State) := verb 0x20 l w (wordOp (fun _ x => x)) s

/-- WST (R76). -/
def execVerbWst (l : Lane) (w : W64) (s : State) :=
  verb 0x21 l w (fun v k => { k with st := writeLoc k.st (operandWord v) k.eng.w }) s

def execVerbWldi (l : Lane) (w : W64) (s : State) := verb 0x22 l w (immOp (fun _ x => x)) s
def execVerbWadd (l : Lane) (w : W64) (s : State) := verb 0x23 l w (wordOp addSat) s
def execVerbWsub (l : Lane) (w : W64) (s : State) := verb 0x24 l w (wordOp subSat) s
def execVerbWaddi (l : Lane) (w : W64) (s : State) := verb 0x25 l w (immOp addSat) s
def execVerbWand (l : Lane) (w : W64) (s : State) := verb 0x26 l w (wordOp (fun x y => x &&& y)) s
def execVerbWor (l : Lane) (w : W64) (s : State) := verb 0x27 l w (wordOp (fun x y => x ||| y)) s

/-- WEQ (R76). -/
def execVerbWeq (l : Lane) (w : W64) (s : State) :=
  verb 0x28 l w (fun v k => compare (fun x y => x == y) (readLoc k.st (operandWord v)) v k) s

/-- WLT (R76). -/
def execVerbWlt (l : Lane) (w : W64) (s : State) :=
  verb 0x29 l w (fun v k => compare (fun x y => x.slt y) (readLoc k.st (operandWord v)) v k) s

def execVerbWeqi (l : Lane) (w : W64) (s : State) := verb 0x2A l w (fun v k => compare (fun x y => x == y) (imm v) v k) s
def execVerbWlti (l : Lane) (w : W64) (s : State) := verb 0x2B l w (fun v k => compare (fun x y => x.slt y) (imm v) v k) s

/-- WLDA (R76). -/
def execVerbWlda (l : Lane) (w : W64) (s : State) :=
  verb 0x2C l w (fun _ k => { k with eng := { k.eng with w := k.eng.acc } }) s

/-- ALDW (R76). -/
def execVerbAldw (l : Lane) (w : W64) (s : State) := verb 0x2D l w (fun v k => { k with eng := setAcc k.eng v k.eng.w }) s

/-- WCNT (R76). -/
def execVerbWcnt (l : Lane) (w : W64) (s : State) :=
  verb 0x2E l w (fun _ k => { k with eng := { k.eng with w := BitVec.ofNat 64 (popCount (k.eng.acc &&& k.eng.cmask) 64) } }) s

def execVerbJmp (l : Lane) (w : W64) (s : State) := verb 0x30 l w jumpOp s
def execVerbJc (l : Lane) (w : W64) (s : State) := verb 0x31 l w jumpOp s
def execVerbJnc (l : Lane) (w : W64) (s : State) := verb 0x32 l w jumpOp s

/-- CALL (R79): pc already holds the index of the next instruction. -/
def execVerbCall (l : Lane) (w : W64) (s : State) :=
  verb 0x33 l w (fun v k => { k with eng := { k.eng with
    call := k.eng.pc :: k.eng.call, pc := v.op2.setWidth 18, viaCall := true } }) s

/-- RET (R80). -/
def execVerbRet (l : Lane) (w : W64) (s : State) :=
  verb 0x34 l w (fun _ k =>
    match k.eng.call with
    | [] => k
    | r :: rs => { k with eng := { k.eng with call := rs, pc := r } }) s

/-- ENTRY (R80). -/
def execVerbEntry (l : Lane) (w : W64) (s : State) := verb 0x35 l w (fun _ k => k) s

/-- NOP (R83). -/
def execVerbNop (l : Lane) (w : W64) (s : State) := verb 0x39 l w (fun _ k => k) s

/-- CMALL (R83). -/
def execVerbCmall (l : Lane) (w : W64) (s : State) :=
  verb 0x3A l w (fun _ k => { k with eng := { k.eng with cmask := BitVec.allOnes 64 } }) s

/-- CMSET (R83). -/
def execVerbCmset (l : Lane) (w : W64) (s : State) :=
  verb 0x3B l w (fun _ k => { k with eng := { k.eng with cmask := k.eng.acc } }) s

/-- CMLD (R83). -/
def execVerbCmld (l : Lane) (w : W64) (s : State) :=
  verb 0x3C l w (fun v k => { k with eng := { k.eng with cmask := readLoc k.st (operandWord v) } }) s

/-- FAULT (R84, R85). -/
def execVerbFault (l : Lane) (w : W64) (s : State) :=
  verb 0x3D l w (fun v k =>
    if k.eng.acc.getLsbD 0 then
      { k with eng := { k.eng with
          faultWord := addFault k.eng.faultWord (v.op2.extractLsb' 30 2) (v.op2.extractLsb' 0 16) } }
    else k) s

/-- The lane clocks of the logic phase so far: those its instructions took, and at least those that have passed since it
started (R82). -/
def phaseClocks (s : State) (l : Lane) : Nat :=
  max (s.eng.at l).clocks ((s.clk.now - (s.eng.at l).startAt) * stepKhz (laneOf s l).step / 1000000)

/-- FLOW_GUARD (R82): the count of lane clocks passes WCET before END completes. -/
def execFlowGuard (t : Nat) (l : Lane) (s : State) : Host.Outcome State Fault Refusal :=
  let s := elapse t s
  .next (
    if (s.eng.at l).run = .running ∧ ((activeProg s l).getD {}).wcet < phaseClocks s l then trap l trapFlowGuard false s else s)

end Sys2Proof.Machine
end

