-- ==== Sys2Proof/Machine/Phase.lean ====
section
/-! DEFINITION. The logic phase (R47, R59, R70, R81, R114 to R117): the exchange translation (R337 to R343), the timer
sweep, the start at L(n), END, the skips at D(n), and the retentive copy (R125). -/
namespace Sys2Proof.Machine

/-! ### The retentive copy -/

/-- A lane's retentive noun words (R125). -/
def retNouns (p : Program) (st : Stores) : Tab W64 :=
  tabFilter (fun k => decide (p.retStart ≤ k) && decide (k < p.retStart + p.retLen)) st.noun

/-- A lane's timer cells with RET = 1 (R125). -/
def retTimers (st : Stores) : Tab W32 := st.timer.filter (fun e => (timerCell e.2).ret)

/-- The copy of a cycle that a lane makes of its stores under a program, with its check (R125, R386). -/
def copyOf (p : Program) (cycle : W32) (l : Lane) (slot : Bool) (st : Stores) : RetCopy :=
  let c : RetCopy := { cycle := cycle, progId := p.id, stamped := true, start := p.retStart, len := p.retLen
                       noun := retNouns p st, timer := retTimers st, check := 0, spoilt := false }
  { c with check := retCheck l slot c }

/-- A lane writes the copy of a cycle under a program into the slot that does not hold its newest verified copy (R125). A
copy that is not finished leaves that slot's stamp invalid. -/
def writeCopy (p : Program) (cycle : W32) (whole : Bool) (l : Lane) (s : State) : State :=
  let r := laneOf s l
  let slot := r.retValid && !r.retSlot
  if whole then
    { s with
      ret := s.ret.upd l (fun x => x.put slot (some (copyOf p cycle l slot (s.st.at l))))
      lane := s.lane.put l { r with retValid := true, retSlot := slot, retCycle := cycle } }
  else { s with ret := s.ret.upd l (fun x => x.put slot ((x.at slot).map (fun c => { c with stamped := false }))) }

/-! ### The exchange translation -/

/-- The units of an entry of a state map, as old and new addresses (R326). -/
def unitsOf (e : MapEntry) : List (Nat × Nat) := (List.range e.units).map (fun i => (e.old + i, e.new + i))

/-- Overlays the masked words of the entries of some kinds, from an old table (R327). -/
def carryWords (kind : Nat → Bool) (es : List MapEntry) (old t : Tab W64) : Tab W64 :=
  (es.filter (fun e => kind e.kind)).foldl (fun t e =>
    (unitsOf e).foldl (fun t u => tabSet 0 t u.2 (merge e.mask (tabGet 0 t u.2) (tabGet 0 old u.1))) t) t

/-- A tick base in ns (R68). -/
def baseNs : BitVec 2 → Nat := fun b => if b = 0#2 then 10000 else if b = 1#2 then 1000000 else 100000000

/-- A carried timer cell (R341). -/
def carryCell (old img : TimerCell) : TimerCell :=
  let n := old.count.toNat * baseNs old.base
  let d := baseNs img.base
  { img with
    q := old.q, run := old.run, last := old.last
    count := if old.base = img.base then old.count else BitVec.ofNat 26 (min 0x3FFFFFF ((n + d - 1) / d)) }

/-- Overlays the carried cells on the new timer image (R341). -/
def carryTimers (es : List MapEntry) (old t : Tab W32) : Tab W32 :=
  (es.filter (fun e => e.kind == 4)).foldl (fun t e =>
    (unitsOf e).foldl (fun t u =>
      tabSet 0 t u.2 (timerWord (carryCell (timerCell (tabGet 0 old u.1)) (timerCell (tabGet 0 t u.2))))) t) t

/-- The prime marks of the EDGE_NEW entries (R342). -/
def primeMarks (es : List MapEntry) : Tab W64 :=
  (es.filter (fun e => e.kind == 3)).foldl (fun t e =>
    (unitsOf e).foldl (fun t u => tabSet 0 t u.2 (tabGet 0 t u.2 ||| e.mask)) t) []

/-- A lane's stores after the translation (R339): the old state, the image committed last, the two programs. -/
def translate (old new : Program) (es : List MapEntry) (img : Tab W64) (st : Stores) : Stores :=
  let top := max old.nounTop new.nounTop
  let base := tabOver 0 (tabFilter (fun k => decide (k < new.nounTop)) new.nounImg)
    (tabFilter (fun k => decide (top ≤ k)) st.noun)
  { st with
    noun := carryWords (fun k => k == 1 || k == 2) es st.noun base
    timer := carryTimers es st.timer new.timerImg
    out := carryWords (fun k => k == 5) es img new.safe }

/-! ### The timer sweep -/

/-- e_b of cycle n for a tick base of d ns (R70, R312). -/
def sweepTicks (s : State) (d : Nat) : Nat :=
  if s.cyc.ebZero then 0
  else if s.cyc.takeover then 9998 * ((s.cyc.latchNow - s.cyc.latchLife) * 1000) / (10000 * d)
  else s.cyc.b / d - s.cyc.bPrev / d

/-- One cell in the sweep (R70). -/
def sweepCell (ticks : Nat → Nat) (w : W32) : W32 :=
  let c := timerCell w
  if c.run then timerWord { c with count := BitVec.ofNat 26 (c.count.toNat - ticks (baseNs c.base)) } else w

/-- The first cell at which the sweep traps, with the cause (R70, R86). -/
def sweepStop (st : Stores) : Option (Nat × Nat) :=
  let bad := st.bad.filterMap (fun x => match x with
    | .timer c => some (c, trapStoreEcc)
    | _ => none)
  let res := (st.timer.filter (fun e => (timerCell e.2).base == 3#2)).map (fun e => (e.1, trapOperandRange))
  (bad ++ res).foldl (fun (m : Option (Nat × Nat)) x =>
    match m with
    | none => some x
    | some y => if x.1 < y.1 ∨ (x.1 = y.1 ∧ x.2 < y.2) then some x else m) none

/-- The cells swept: all, or those before the one that traps. -/
def sweepTimers (ticks : Nat → Nat) (st : Stores) : Stores :=
  let upTo : Nat → Bool := match sweepStop st with
    | some x => fun k => decide (k < x.1)
    | none => fun _ => true
  { st with timer := st.timer.map (fun e => if upTo e.1 then (e.1, sweepCell ticks e.2) else e) }

/-! ### The start of the phase -/

/-- A lane's watchdog expires (R158, R432): the reflex, a lane fault, and its LANE_WDOG reset. -/
def wdogExpire (l : Lane) (s : State) : State :=
  let s := reflex 0x01 l (laneReset 4 l s)
  updLane l (fun r => { r with wdogReset := true }) s

/-- A lane still in its logic phase at L(n) is stopped (R115). -/
def stopLate (s : State) (l : Lane) : State := if (s.eng.at l).run = .running then wdogExpire l s else s

/-- A lane runs the logic phase: it takes part in the cycle and is not in a lane reset (R432, R435), or proves (R150). -/
def runsPhase (s : State) (l : Lane) : Bool :=
  (takesPart s l && (laneOf s l).ready) || (match s.vote.rejoin with
    | some r => r.proving && r.lane == l
    | none => false)

/-- A lane translates to the new program in cycle h + 1 (R338, R339, R343). -/
def translateLane (l : Lane) (s : State) : State :=
  match activeProg s l, inactiveProg s l with
  | some new, some old =>
    let es := (new.map.map (fun m => m.entries)).getD []
    let s := { s with
      st := s.st.upd l (translate old new es s.cyc.img)
      lane := s.lane.upd l (fun r => { r with primes := primeMarks es }) }
    if s.px.hSkipped then s else writeCopy new s.px.lastH true l s
  | _, _ => s

/-- A lane starts its logic phase (R47, R59, R70). -/
def startPhase (s : State) (l : Lane) : State :=
  if !runsPhase s l then s else
  let s := { s with st := s.st.upd l (fun st => { st with inp := st.latched.getD st.inp, latched := none }) }
  let s := if s.px.swap then translateLane l s else { s with st := s.st.upd l (fun st => { st with out := s.cyc.img }) }
  let stop := sweepStop (s.st.at l)
  let s := { s with
    st := s.st.upd l (sweepTimers (sweepTicks s))
    eng := s.eng.put l { run := .running, clocks := 4096, startAt := s.clk.now, cycle := s.cyc.n } }
  match stop with
  | some x => trap l x.2 true s
  | none => s

/-- The standby's image at L(n): from the holder's LATCH record; without one IN_STEP freezes (R305, R306). -/
def settleImage (s : State) : State :=
  if s.cyc.imaged then s else
  match s.crown.latch with
  | some x =>
    if x.cycle = s.cyc.n then followLatch x s
    else if crowned s then ownLatch { s with crown := { s.crown with firstLatch := false } } else s
  | none => if crowned s then ownLatch { s with crown := { s.crown with firstLatch := false } } else s

/-- A standby without its LATCH record runs no cycle (R305). -/
def freeze (s : State) : State :=
  let s := { s with cyc := { s.cyc with phase := .idle } }
  if s.crown.state = .inStep then setCrown .frozen { s with crown := { s.crown with frozenAt := s.clk.now } } else s

/-- An ECC error is injected (R509, R517). -/
def injectEcc (det : Nat) (l : Lane) (s : State) : State :=
  if det = 1 then { s with wk := { s.wk with ocCorr := satAdd s.wk.ocCorr 1 0xFFFF } }
  else if det = 3 then { s with wk := { s.wk with drCorr := satAdd s.wk.drCorr 1 0xFFFF } }
  else if det = 2 then badWord (Config.injectedWord s.free) l { s with free := s.free + 1 }
  else laneFault l 4 s

/-- An injected fault that a detector of R158, an engine, a queue, a store or a monitor finds takes effect (R509). -/
def applyFault (block det : Nat) (l : Lane) (s : State) : State :=
  match block with
  | 0x01 => reflex det l s
  | 0x02 => trap l det false s
  | 0x03 => laneFault l 5 s
  | 0x04 => injectEcc det l s
  | 0x0B => reflex (det + 1) l s
  | _ => s

/-- A point whose fault concerns one lane. -/
def onLane (point : Nat) : Bool := inBounds 0x0101 0x0103 point || inBounds 0x0200 0x04FF point || inBounds 0x0B01 0x0B02 point

/-- An injected lane fault that persists takes effect again in each program cycle whose phase its lane runs (R510). -/
def persistFault (s : State) : State :=
  match s.test.inj with
  | some i =>
    let l := Lane.ofNum i.lane
    if onLane i.point && runsPhase s l && !(laneOf s l).faultNow then applyFault (i.point / 256) (i.point % 256) l s else s
  | none => s

/-- LOGIC_PHASE_START at L(n). -/
def logicStart (s : State) : State :=
  if !(s.cyc.phase == .latched && runsCycles s && decide (s.cyc.b + 4000 ≤ ringNow s)) then s else
  let s := settleImage (lanes.foldl stopLate s)
  if !s.cyc.imaged then freeze s else
  let s := lanes.foldl startPhase s
  persistFault { s with
    px := { s.px with swap := false }
    cyc := { s.cyc with
      phase := .logic, ebZero := false, takeover := false, atEnd := ⟨false, false, false⟩
      skipping := ⟨false, false, false⟩ } }

/-! ### END and the commit deadline -/

/-- The key under which the end of a lane's logic phase is noted for CLR_MAX (R90). -/
def maxKey (l : Lane) : Nat := flagKey (laneAddr l 0x024) 0

/-- A lane's logic phase has reached END (R81, R90, R342). -/
def phaseEnd (l : Lane) (s : State) : State :=
  let e := s.eng.at l
  let s := updLane l (fun r => { r with
    run := e.clocks, runMax := max r.runMax e.clocks, cycle := e.cycle, primes := [] }) (markSet (maxKey l) s)
  sendCopy l (snapAtEnd l s)

/-- A lane skips cycle n (R114, R117, R120). -/
def skipLane (l : Lane) (s : State) : State :=
  let s := updLane l (fun r => { r with skipTotal := satAdd r.skipTotal 1 0xFFFF, skipConsec := min 4 (r.skipConsec + 1) }) s
  let s := fire (3 + l.num) { s with cyc := { s.cyc with skipping := s.cyc.skipping.put l true } }
  if (laneOf s l).skipConsec = 4 then laneFault l 3 s else s

/-- One lane at D(n) (R114, R117, R136). -/
def deadlineLane (s : State) (l : Lane) : State :=
  let e := s.eng.at l
  if !takesPart s l then s
  else if e.run = .running then skipLane l s
  else if e.run = .ended ∧ e.cycle = s.cyc.n then
    updLane l (fun r => { r with skipConsec := 0 }) { s with cyc := { s.cyc with atEnd := s.cyc.atEnd.put l true } }
  else s

/-- The scan engines serve only the vote from D(n) to C(n) (R102, R392). -/
def suspendWorkers (b : Bool) (s : State) : State := { s with port := s.port.map (fun _ x => { x with susp := b }) }

/-- COMMIT_DEADLINE at D(n): skips are decided and the vote starts (R114, R135). -/
def commitDeadline (s : State) : State :=
  if s.cyc.phase == .logic && decide (s.cyc.b + tProg s ≤ ringNow s + 32000) then
    let s := lanes.foldl deadlineLane s
    suspendWorkers true { s with cyc := { s.cyc with phase := .voting } }
  else s

end Sys2Proof.Machine
end

