-- ==== Sys2Proof/Machine/VoteOps.lean ====
section
/-! DEFINITION. The vote (R135 to R142): comparing the images word by word, and the digests. -/
namespace Sys2Proof.Machine

/-- A lane's image takes part in the vote (R136); a fenced lane's reads as empty (R443), and so do the queues of a lane
island that has lost its supply or its clock (R21). -/
def present (s : State) (l : Lane) : Bool :=
  let e := s.eng.at l
  let r := laneOf s l
  takesPart s l && s.cyc.atEnd.at l && e.run == .ended && e.cycle == s.cyc.n && !r.suspect && r.supplyIn && r.clockIn

/-- The lanes whose images are present. -/
def presentLanes (s : State) : List Lane := lanes.filter (present s)

/-- The module is in 2oo2 degraded mode for this vote (R153). -/
def twoLanes (s : State) : Bool := decide ((partLanes s).length = 2)

/-- The fault word's index in the vote (R135). -/
def faultIndex : Nat := 0x1000

/-- The declared safe value of the fault word (R138). -/
def safeFault : W64 := 0x8000000000000000

/-- Word w of a lane's image, the fault word last (R135). -/
def voteWord (s : State) (w : Nat) (l : Lane) : W64 :=
  if w = faultIndex then (s.eng.at l).faultWord else tabGet 0 (s.st.at l).out w

/-- How one word comes out (R137): agreed on, the odd lane of three, two that differ, or three that differ. -/
inductive WordVote where
  | agreed (v : W64)
  | minority (v : W64) (odd : Lane)
  | two
  | three
  | none
deriving DecidableEq, Repr

/-- Compares one word of the images present (R137, R139). -/
def voteOf (vs : List (Lane × W64)) : WordVote :=
  match vs with
  | [(_, x), (_, y)] => if x = y then .agreed x else .two
  | [(la, x), (lb, y), (lc, z)] =>
    if x = y then (if y = z then .agreed x else .minority x lc)
    else if x = z then .minority x lb
    else if y = z then .minority y la
    else .three
  | _ => .none

/-- An empty result, skipped or not. -/
def emptyRes (skipped : Bool) : VoteRes :=
  { image := [], faultWord := 0, agreed := [], agreedFault := 0, skipped := skipped, minority := ⟨false, false, false⟩
    split3 := 0, split2 := 0, disWords := 0, disFirst := 0, disLanes := ⟨false, false, false⟩, disSplit := false
    digestBad := false }

/-- The committed value of a word goes into the result. -/
def putVoted (w : Nat) (v : W64) (r : VoteRes) : VoteRes :=
  if w = faultIndex then { r with faultWord := v, agreedFault := v }
  else { r with image := tabSet 0 r.image w v, agreed := tabSet 0 r.agreed w v }

/-- A word disagreed between images present (R142). The lanes involved are the odd lane of a minority word and all the lanes
present of a split, united over the words of the cycle (DESIGN CHOICE, log entry 162). -/
def noteDis (w : Nat) (ls : List Lane) (split : Bool) (r : VoteRes) : VoteRes :=
  { r with
    disWords := r.disWords + 1
    disFirst := if r.disWords = 0 then w else r.disFirst
    disSplit := if r.disWords = 0 then split else r.disSplit
    disLanes := ls.foldl (fun t l => t.put l true) r.disLanes }

/-- One word of the vote (R137, R138). -/
def voteStep (s : State) (ls : List Lane) (safe : Tab W64) (r : VoteRes) (w : Nat) : VoteRes :=
  let safeV := if w = faultIndex then safeFault else tabGet 0 safe w
  match voteOf (ls.map (fun l => (l, voteWord s w l))) with
  | .agreed v => putVoted w v r
  | .minority v l => noteDis w [l] false (putVoted w v { r with minority := r.minority.put l true })
  | .two => noteDis w ls true (putVoted w safeV { r with split2 := r.split2 + 1 })
  | .three => noteDis w ls true (putVoted w safeV { r with split3 := r.split3 + 1 })
  | .none => r

/-- The words that can differ from 0 in some image, rising, the fault word last. -/
def voteKeys (s : State) (ls : List Lane) : List Nat :=
  ls.foldl (fun ks l => keyUnion (ks.map (fun k => (k, ()))) (s.st.at l).out) [] ++ [faultIndex]

/-- The digest of a committed image and fault word (R141). -/
def digestOf (n : W32) (img : Tab W64) (fw : W64) : W32 :=
  checkOf 0x06 n.toNat 0 ((tabSlice 0 img 0 4096).flatMap wordBytes ++ wordBytes fw)

/-- The digest of each slice that is not in a lane reset (R141, R435); `err` is what a slice's fault changes in its own. -/
def slices (s : State) (d : W32) (err : Tri W32) : List (Lane × W32) :=
  ((partLanes s).filter (fun l => (laneOf s l).ready)).map (fun l => (l, (d ^^^ err.at l) ^^^ (if s.test.digestWrong.at l then 0xFFFFFFFF else 0)))

/-- The digests compared: the slice that two others outvote, or that no two are equal (R141). -/
def compareDigests (ds : List (Lane × W32)) : Option Lane × Bool :=
  match ds with
  | [(_, x), (_, y)] => (none, x != y)
  | [(la, x), (lb, y), (lc, z)] =>
    if x = y then (if y = z then none else some lc, false)
    else if x = z then (some lb, false)
    else if y = z then (some la, false)
    else (none, true)
  | _ => (none, false)

/-- The image that the vote commits, before what HALTED or SAFE_STOP puts in its place. -/
def voteImages (s : State) : VoteRes :=
  let ls := presentLanes s
  if ls.length < 2 then emptyRes true
  else (voteKeys s ls).foldl (voteStep s ls (((moduleProg s).map (fun p => p.safe)).getD [])) (emptyRes false)

/-- The reflexes a vote raises (R137, R140, R141). -/
def voteReflexes (r : VoteRes) (s : State) : State :=
  let odd := (lanes.filter (fun l => r.minority.at l)).length
  let s := if 0 < r.split3 then moduleReflex 0x10 s else s
  let s := if 0 < r.split2 ∧ twoLanes s = true then moduleReflex 0x11 s else s
  let s := if 2 ≤ odd then moduleReflex 0x12 s else s
  if r.digestBad then moduleReflex 0x13 s else s

/-- VOTE_COMPLETE: the comparison and the digests are done (R135 to R141). -/
def voteComplete (err : Tri W32) (s : State) : State :=
  if s.cyc.phase ≠ .voting then s else
  let r := voteImages s
  let c := compareDigests (slices s (digestOf s.cyc.n r.image r.faultWord) err)
  let armed := s.test.digestWrong.a || s.test.digestWrong.b || s.test.digestWrong.c
  let s := if armed then { s with test := { s.test with digestWrong := persists 0x0502 s } } else s
  if r.skipped then { s with cyc := { s.cyc with phase := .voted, res := some r } }
  else
    let s := voteReflexes { r with digestBad := c.2 } s
    let minority := match c.1 with
      | some l => r.minority.put l true
      | none => r.minority
    { s with cyc := { s.cyc with phase := .voted, res := some { r with minority := minority, digestBad := c.2 } } }

end Sys2Proof.Machine
end

