-- ==== Sys2Proof/Machine/CommitOps.lean ====
section
/-! DEFINITION. The commit at C(n) (R33, R84, R91, R94, R118 to R121, R138 to R156, R241, R308, R313, R329 to R337). -/
namespace Sys2Proof.Machine

/-- C(n) has been reached: 8 µs before B(n + 1) (R97). -/
def commitDue (s : State) : Bool := s.cyc.phase == .voted && decide (s.cyc.b + tProg s ≤ ringNow s + 8000)

/-! ### What is committed -/

/-- Cycle n is skipped as a whole (R118). -/
def skippedWhole (s : State) (r : VoteRes) : Bool := r.skipped && s.vote.mode != .halted

/-- The fault word committed: none while fewer than two images were there. -/
def committedFault (r : VoteRes) : W64 := if r.skipped then 0 else r.faultWord

/-- A committed fault word of class 1 or 2. -/
def faultClass (fw : W64) : Bool := fw.getLsbD 62 || fw.getLsbD 63

/-- The committed fault word takes effect (R84): a cell, APP_FAULT, SAFE_STOP. -/
def commitFault (fw : W64) (s : State) : State :=
  let s := recordIf (fw != 0) 0 .appFault [fw.toNat] s
  let s := fireIf (faultClass fw) 1 s
  if fw.getLsbD 63 then
    let s := { s with cyc := { s.cyc with safeStop := true } }
    if s.vote.modAct.contains 0x18 then s else moduleReflex 0x18 s
  else s

/-- The declared safe values of the active program (R138). -/
def safeTable (s : State) : Tab W64 := ((moduleProg s).map (fun p => p.safe)).getD []

/-- The image committed: the declared safe values in HALTED and under SAFE_STOP (R84, R159), else the vote's. -/
def commitImage (s : State) (r : VoteRes) : Tab W64 :=
  if s.vote.mode == .halted || s.cyc.safeStop then safeTable s else r.image

/-- The kind of a commit (R308). -/
def commitKind (s : State) (r : VoteRes) : CommitKind :=
  if s.vote.mode = .halted then .halted
  else if r.skipped then .skipped
  else if s.cyc.safeStop || decide (0 < r.split2 + r.split3) then .safe
  else .normal

/-! ### Skips and disagreements -/

/-- A skip of cycle n as a whole (R35, R118, R120, R121), whose frames carry n and the held image; or the end of a run of
them. -/
def noteSkip (n : W32) (whole : Bool) (s : State) : State :=
  if whole then
    fire 2 { s with
      glb := { s.glb with skipTotal := satAdd s.glb.skipTotal 1 0xFFFF, skipConsec := satAdd s.glb.skipConsec 1 7 }
      cyc := { s.cyc with prevSkipped := true }
      wp := { s.wp with cycle := n, held := true } }
  else { s with glb := { s.glb with skipConsec := 0 }, cyc := { s.cyc with prevSkipped := false } }

/-- One cell for a cycle in which any lane skipped (R120). -/
def skipCell (whole : Bool) (s : State) : State :=
  recordIf (decide (s.cyc.skipping.mask ≠ 0)) 0 .laneSkip [s.cyc.skipping.mask, b2n whole] s

/-- The disagreement of a vote (R142, R175). -/
def noteDisagree (n : W32) (r : VoteRes) (s : State) : State :=
  if r.disWords = 0 then s else
  let s := { s with vote := { s.vote with
    lastDis := pack [(1, 31), (r.disLanes.mask, 28), (b2n r.disSplit, 24), (r.disFirst, 0)], lastDisCycle := n
    splitTwo := satAdd s.vote.splitTwo r.split2 0xFFFF, splitThree := satAdd s.vote.splitThree r.split3 0xFFFF } }
  record 0 .voteDisagree [n.toNat, r.disLanes.mask, b2n r.disSplit, r.disFirst, r.disWords] s

/-- What a lane shows of a cycle (R90, R91): LANE_RUN, LANE_RUN_MAX and the two fields of LANE_DEPTH. -/
def runShown (s : State) (l : Lane) : Nat × Nat × Nat × Nat :=
  let r := laneOf s l
  (r.run, r.runMax, r.callMax, r.clauseMax)

/-- Lanes in VOTING state that completed cycle n and show different values for it (R91). -/
def engineCheck (n : W32) (s : State) : State :=
  match ((voters s).filter (fun l => (laneOf s l).cycle == n && (s.eng.at l).run == .ended)).map (runShown s) with
  | [] => s
  | x :: xs => recordIf (xs.any (fun y => y != x)) 0 .engineDisagree [n.toNat] s

/-! ### Lane states -/

/-- A lane enters VOTING: its lane-scope stop ends (R161). -/
def enterVoting (l : Lane) (s : State) : State :=
  setLState l .voting { s with vote := { s.vote with laneAct := s.vote.laneAct.put l false } }

/-- A starting lane that took part in the first commit after a restart enters VOTING (R145). -/
def promoteLane (s : State) (l : Lane) : State :=
  if s.cyc.restartCommit && lstate s l == .starting && s.cyc.atEnd.at l then enterVoting l s else s

/-- The first commit after a restart (R145). -/
def promoteAll (s : State) : State :=
  if s.cyc.restartCommit then
    let s := lanes.foldl promoteLane s
    { s with cyc := { s.cyc with restartCommit := false } }
  else s

/-- A lane is excluded at C(n) (R143): as a minority, counted, or for a lane fault. -/
def excludeOne (r : VoteRes) (s : State) (l : Lane) : State :=
  if !votes s l then s
  else if r.minority.at l && !r.skipped then
    let s := { s with vote := { s.vote with minority := s.vote.minority.upd l (fun n => satAdd n 1 0xFF) } }
    excludeLane l s
  else if (laneOf s l).faultNow then excludeLane l s
  else s

/-- The rejoin's donor and checker still vote (R151). -/
def partnersVote (s : State) (r : Rejoin) : Bool :=
  votes s r.donor && (match r.checker with
    | some m => votes s m
    | none => true)

/-- A proving lane's images match the voting lanes' (R150). -/
def provingMatch (s : State) (n : W32) (res : VoteRes) (r : Rejoin) : Bool :=
  let e := s.eng.at r.lane
  e.run == .ended && e.cycle == n && s.cyc.atEnd.at r.donor && (s.st.at r.lane).out == res.agreed
    && e.faultWord == res.agreedFault && (laneOf s r.lane).run == (laneOf s r.donor).run

/-- The rejoin at a commit (R150 to R152). -/
def commitRejoin (n : W32) (res : VoteRes) (s : State) : State :=
  match s.vote.rejoin with
  | none => s
  | some r =>
    if !partnersVote s r then failRejoin s
    else if r.proving then
      if res.skipped || s.vote.mode == .halted || (s.eng.at r.lane).cycle != n || (s.eng.at r.lane).run == .idle then s
      else if !provingMatch s n res r then failRejoin s
      else if 1 ≤ r.proven then enterVoting r.lane { s with vote := { s.vote with rejoin := none } }
      else { s with vote := { s.vote with rejoin := some { r with proven := r.proven + 1 } } }
    else { s with vote := { s.vote with rejoin := some { r with cycles := if r.inPass then r.cycles + 1 else r.cycles } } }

/-! ### Degraded mode -/

/-- The degraded clock starts (R154). -/
def startDegraded (s : State) : State :=
  { s with vote := { s.vote with degRun := true, degEnd := s.clk.lifeUs + s.vote.degMinutes * 60000000 } }

/-- The degraded clock stops; an expiry that has not yet passed the crown is withdrawn (R154, R155). -/
def stopDegraded (s : State) : State :=
  let left := (s.vote.degEnd - s.clk.lifeUs) / 1000000
  let s := { s with vote := { s.vote with
    degRun := false, degLeft := if s.vote.degRun then left else s.vote.degLeft, graceEnd := none } }
  let s := { s with crown := { s.crown with retry := if s.crown.retry = some OfferWhy.degraded then none else s.crown.retry } }
  match s.crown.ho with
  | some x => if x.why = OfferWhy.degraded ∧ crowned s = true then
      send (.cancel x.h) { s with crown := { s.crown with ho := none } } else s
  | none => s

/-- The mode after the lane states of a commit (R153, R158 ONE_LANE). -/
def settleMode (s : State) : State :=
  if s.vote.mode = .halted then s
  else
    match (voters s).length with
    | 3 => if s.vote.mode = .full then s else stopDegraded { s with vote := { s.vote with mode := .full } }
    | 2 => if s.vote.mode = .degraded then s else startDegraded { s with vote := { s.vote with mode := .degraded } }
    | _ => if s.vote.mode = .off then s else moduleReflex 0x14 s

/-! ### The write phase -/

/-- The tags a lane seals with in this write phase (R107, R243). -/
def sealTags (s : State) (l : Lane) : List (Nat × Byte) :=
  (s.tg.at l).nodes.filterMap (fun x => x.2.tag.map (fun t => (x.1, t)))

/-- A standby that has accepted a handover seals cycle h under the epoch it takes (R313). -/
def sealEpoch (n : W32) (s : State) : W32 :=
  if crowned s then s.crown.epoch
  else
    match s.crown.ho with
    | some x => if x.accepted && x.h == n then s.crown.followed + 1 else s.crown.followed
    | none => s.crown.followed

/-- The write phase of cycle n begins with a new image (R94, R241): the lanes that took part and still vote seal; a
fenced lane's seals read as empty (R443). -/
def openWrite (n : W32) (img : Tab W64) (before : Tri Bool) (s : State) : State :=
  { s with wp := {
      img := img, cycle := n, epoch := sealEpoch n s, held := false, prog := programId s
      seals := before.map (fun l x => x && votes s l && !(laneOf s l).suspect)
      tags := ⟨sealTags s .a, sealTags s .b, sealTags s .c⟩ } }

/-! ### Exchange and handover at a commit -/

/-- The partner's latest STATUS word reads a state for h with the same image (R332, R333). -/
def partnerSays (x : XState) (s : State) : Bool :=
  let w := s.px.partner
  w.state == x && w.cycle == s.px.h && w.img == stagedCheck s

/-- What forbids GO 1 µs before C(h) (R333): 0, or the reason. -/
def goReason (n : W32) (s : State) : Nat :=
  let new := (stagedProg s).getD {}
  if s.vote.mode = .halted then 9
  else if (stagedLanes s).length < 2 then 7
  else if s.vote.rejoin.isSome then 9
  else if budget s < s.px.xclocks + new.wcet then 5
  else if hasPartner s && !(partnerSays .agreed s && s.px.partnerCycle == n - 1 && !s.px.partner.rejoin) then 8
  else 0

/-- The exchange state at C(n) of the holder (R329, R331 to R334); SWITCHING ends at C(h + 1) on every module. -/
def commitExchange (n : W32) (go : Nat) (s : State) : State :=
  match s.px.state with
  | .proposed =>
    if crowned s then
      (if !hasPartner s || (partnerSays .propose s && (s.px.partnerCycle == n || s.px.partnerCycle == n - 1) && cycleBefore n (s.px.h - 7)) then setPx .agreed 0 s
       else if cycleBefore n (s.px.h - 8) then s else cancelPx 8 s)
    else s
  | .agreed =>
    if crowned s ∧ n = s.px.h then
      (if go = 0 then switchBanks s else cancelPx go s)
    else s
  | .switching => if n = s.px.h + 1 then setPx .idle 0 s else s
  | _ => s

/-- The COMMIT record of cycle n (R295, R330). -/
def commitBody (n : W32) (kind : CommitKind) (fw : W64) (s : State) : CommitBody :=
  { cycle := n, kind := kind, digest := digestOf n s.cyc.img fw, fault := fw, voting := ⟨votes s .a, votes s .b, votes s .c⟩
    combSeq := s.comb.nextSeq - 1, xw := exchangeWord s }

/-- The LEASE record of a commit (R295, R298, R299). -/
def leaseBody (s : State) : LeaseBody :=
  let x := setOf s
  { epoch := s.crown.epoch, ts := ringNow s, leaseMs := x.leaseMs, renew := renews s, halted := s.vote.mode == .halted
    profile := x.profile, setId := x.id, fromId := x.fromId, rolling := x.rolling }

/-- The holder's records at C(n): COMMIT while it sent the cycle's LATCH, and LEASE (R295, R299, R312). -/
def holderRecords (b : CommitBody) (s : State) : State :=
  let s := if s.cyc.latchSent then send (.commit b) s else s
  let s := { s with px := { s.px with cancel := none } }
  let l := leaseBody s
  let s := send (.lease l) s
  if l.renew then sentRenewal l.ts s else s

/-- The handover of cycle n at its holder (R313); in the second of R155 one that is not under way is offered again. -/
def holderHandover (n : W32) (kind : CommitKind) (digest : W32) (s : State) : State :=
  match s.crown.ho with
  | some x =>
    if x.h ≠ n then s
    else if x.accepted ∧ kind = .normal then giveCrown x digest s
    else cancelHandover x s
  | none =>
    if s.vote.graceEnd.isSome then offerHandover .degraded s else s

/-- What a standby does at its commit (R308, R310, R313, R335). -/
def standbyCommit (n : W32) (skipped : Bool) (digest : W32) (s : State) : State :=
  let s := { s with crown := { s.crown with own := some { cycle := n, digest := if skipped then none else some digest } } }
  let s := settleGo (compareCommits s)
  let s := settleHandover s
  if crowned s then s else sendStatus s

/-! ### The commit -/

/-- The lane states at C(n): promotion, exclusion, rejoin, mode (R143, R145, R150, R153). -/
def commitLanes (n : W32) (r : VoteRes) (s : State) : State :=
  let s := if skippedWhole s r then s else promoteAll s
  let s := lanes.foldl (excludeOne r) s
  settleMode (commitRejoin n r s)

/-- What the keep domain and the registers note of a commit (R39, R124, R175, R312). -/
def noteCommit (n : W32) (s : State) : State :=
  { s with
    keep := { s.keep with lastCommit := some n }
    vote := { s.vote with cycle := n, committed := true }
    glb := { s.glb with commitCycle := n }
    cyc := { s.cyc with phase := .idle, res := none, commitLife := s.clk.lifeUs, latchLife := s.cyc.latchNow } }

/-- SCAN_LOAD and PORT_LOAD of the lanes that run (R399) and LOAD of a link in sync (R320): free values of at most 100 %. -/
def noteLoads (s : State) : State :=
  { s with
    port := s.port.map (fun l p =>
      if (laneOf s l).ready then
        let x := Config.unitLoad s.free l.num
        { p with scanLoad := min 100 x.1, portLoad := min 100 x.2 }
      else p)
    pl := { s.pl with load := if s.pl.sync0 || s.pl.sync1 then min 100 (Config.linkLoad s.free) else 0 }
    free := s.free + 1 }

/-- The commit of cycle n with a vote's result. It is the latest commit from its first cell on (R36, R38), and whether GO
is sent is decided as the module stood before it (R333). -/
def commitWith (n : W32) (r : VoteRes) (s : State) : State :=
  let go := goReason n s
  let s := { s with keep := { s.keep with lastCommit := some n } }
  let before : Tri Bool := ⟨takesPart s .a, takesPart s .b, takesPart s .c⟩
  let whole := skippedWhole s r
  let fw := committedFault r
  let s := commitFault fw s
  let kind := commitKind s r
  let img := commitImage s r
  let s := skipCell whole (noteSkip n whole s)
  let s := if whole then s else
    { s with cyc := { s.cyc with img := img, imgFault := fw, imgCycle := n } }
  let s := commitLanes n r (engineCheck n (noteDisagree n r s))
  let s := if whole then s else openWrite n img before s
  let s := noteCommit n s
  let s := commitExchange n go (fire 10 s)
  let b := commitBody n kind fw s
  let s := if crowned s then holderHandover n kind b.digest (holderRecords b s) else standbyCommit n whole b.digest s
  let s := snapCommit n whole (faultClass fw) (tryRejoin (suspendWorkers false s))
  noteLoads (rankTime (setPermits s))

/-- COMMIT at C(n). -/
def commitCycle (s : State) : State :=
  if !commitDue s then s else
  match s.cyc.res with
  | none => s
  | some r => commitWith s.cyc.n r s

end Sys2Proof.Machine
end

