-- ==== Sys2Proof/Machine/Cycle.lean ====
section
/-! DEFINITION. The commands of the program cycle, the vote unit and the lanes (R24 to R26, R81, R90, R92 to R156). -/
namespace Sys2Proof.Machine

/-- END (R81): the output image and fault word are the lane's for the vote. -/
def execVerbEnd (l : Lane) (w : W64) (s : State) : Host.Outcome State Fault Refusal :=
  match verb 0x38 l w (fun _ k => { k with eng := { k.eng with run := .ended } }) s with
  | .next t => .next (if (s.eng.at l).run = .running ∧ (t.eng.at l).run = .ended then phaseEnd l t else t)
  | .fault f => .fault f
  | .refused r => .refused r

/-- INPUT_LATCH (R96). -/
def execInputLatch (t : Nat) (s : State) : Host.Outcome State Fault Refusal := .next (inputLatch (elapse t s))

/-- LOGIC_PHASE_START (R70). -/
def execLogicPhaseStart (t : Nat) (s : State) : Host.Outcome State Fault Refusal :=
  .next (settleHalt (logicStart (elapse t s)))

/-- COMMIT_DEADLINE (R135). -/
def execCommitDeadline (t : Nat) (s : State) : Host.Outcome State Fault Refusal := .next (commitDeadline (elapse t s))

/-- VOTE_COMPLETE (R137): `digErr` is what a slice's own fault changes in its digest. -/
def execVoteComplete (t : Nat) (digErr : Tri W32) (s : State) : Host.Outcome State Fault Refusal :=
  .next (settleHalt (voteComplete digErr (elapse t s)))

/-- COMMIT (R33). -/
def execCommit (t : Nat) (s : State) : Host.Outcome State Fault Refusal := .next (settleHalt (commitCycle (elapse t s)))

/-! ### The retentive copy (R125) -/

/-- L(n + 1) has not passed after the commit of cycle n: 4 µs into the next program cycle (R95, R125). -/
def beforePhase (s : State) : Bool :=
  match s.cyc.phase with
  | .idle => decide (ringNow s ≤ s.cyc.b + tProg s + 4000)
  | .latched => decide (ringNow s ≤ s.cyc.b + 4000)
  | _ => false

/-- A lane may write its copy of the latest committed cycle: its END belongs to it, L(n + 1) has not come, and the copy is
not there yet. -/
def copyDue (s : State) (l : Lane) : Bool :=
  let e := s.eng.at l
  let r := laneOf s l
  takesPart s l && e.run == .ended && e.cycle == s.cyc.imgCycle && s.keep.lastCommit == some e.cycle
    && beforePhase s && !(r.retValid && r.retCycle == e.cycle)

/-- The program whose state a copy holds: until the lanes translate after an exchange, still the old one (R338, R343). -/
def copyProgram (s : State) (l : Lane) : Program := ((if s.px.swap then inactiveProg s l else activeProg s l)).getD {}

/-- RETENTIVE_COPY (R125): `whole` is false where the copy is cut off before it is complete. -/
def execRetentiveCopy (t : Nat) (l : Lane) (s : State) (whole : Bool := true) : Host.Outcome State Fault Refusal :=
  let s := elapse t s
  .next (if copyDue s l then writeCopy (copyProgram s l) s.cyc.imgCycle whole l s else s)

/-! ### The service role (R24 to R26) -/

/-- The next lane in service after l, in the order A, B, C, A (R24). -/
def nextService (s : State) (l : Lane) : Option Lane :=
  if inService s l.next then some l.next else if inService s l.next.next then some l.next.next else none

/-- A source after a forced move: its moderation restarts, and PENDING is deliverable at once (R26). -/
def restartModeration (now : Nat) (x : Source) : Source :=
  if x.state = .pending then { x with period := 1, since := now, deliver := 0xF } else { x with period := 0, since := now }

/-- The router as a forced move restores it (R26). -/
def forcedRouter (now : Nat) (e : Evr) : Evr :=
  noteIrq { e with src := e.src.map (fun x => (x.1, restartModeration now x.2)) }

/-- The service role moves to lane m (R25, R26, R399). -/
def moveService (forced : Bool) (m : Lane) (s : State) : State :=
  let old := s.glb.svc
  let s := markIf forced (flagKey 0x000010 2) (markIf s.chk.test.isSome (flagKey 0x0F0040 1) s)
  let s := { s with
    glb := { s.glb with svc := m, svcMoves := satAdd s.glb.svcMoves 1 0xFF, svcForced := s.glb.svcForced || forced }
    chk := { s.chk with test := none, moved := s.chk.moved || s.chk.test.isSome } }
  let s := if forced then abandonCell { s with evr := forcedRouter s.clk.now s.evr } else s
  record 0 .serviceMove [old.num, m.num, b2n forced] s

/-- SERVICE_ROLE_MOVE (R24): the service lane is out of service, or its clock is out of range. -/
def execServiceRoleMove (t : Nat) (s : State) : Host.Outcome State Fault Refusal :=
  let s := elapse t s
  .next (
    let l := s.glb.svc
    let forced := !(laneOf s l).clockIn
    if inService s l && !forced then s
    else match nextService s l with
      | some m => moveService forced m s
      | none => s)

/-! ### Lane resets and rejoins (R144 to R151) -/

/-- The vote-ordered reset of an excluded lane, held while its supply or clock is out of range (R144, R145, R432). -/
def voteReset (l : Lane) (s : State) : State :=
  let r := laneOf s l
  if r.state = .excluded ∧ r.resetDue = true then
    if r.supplyIn && r.clockIn then
      let s := if r.wdogReset then s else laneReset 5 l s
      setLState l .starting (updLane l (fun r => { r with
        resetDue := false, resetHeld := false, wdogReset := false, voteReset := true }) s)
    else updLane l (fun r => { r with resetHeld := true }) s
  else s

/-- LANE_VOTE_RESET (R144). -/
def execLaneVoteReset (t : Nat) (l : Lane) (s : State) : Host.Outcome State Fault Refusal := .next (voteReset l (elapse t s))

/-- LANE_ISLAND_BACK_IN_RANGE (R145). -/
def execLaneIslandBackInRange (t : Nat) (l : Lane) (s : State) : Host.Outcome State Fault Refusal :=
  let s := elapse t s
  let held := fun point => (injected point s).any (fun i => i.lane == l.num)
  let s := updLane l (fun r => { r with supplyIn := !held 0x0B01, clockIn := !held 0x0B02 }) s
  .next (if (laneOf s l).resetHeld then voteReset l s else s)

/-- LANE_WDOG_EXPIRY (R432). -/
def execLaneWdogExpiry (t : Nat) (l : Lane) (s : State) : Host.Outcome State Fault Refusal :=
  let s := elapse t s
  .next (if lstate s l = .off ∨ lstate s l = .excluded then s else settleHalt (wdogExpire l s))

/-- A lane loads its active bank from the code store (R88, R323). -/
def loadActive (l : Lane) (s : State) : State :=
  { s with bank := s.bank.upd l (fun b => putBank s.keep.bank (loadProgram s s.keep.bank) { b with active := s.keep.bank }) }

/-- The exchange has a staged bank (R323). -/
def stagedOrLater (s : State) : Bool :=
  s.px.state == .staged || s.px.state == .proposed || s.px.state == .agreed || s.px.state == .switching

/-- A lane loads and checks the inactive bank (R323, R328): its staging result. -/
def stageLane (reason : Nat) (img : Option (List Byte)) (l : Lane) (s : State) : State :=
  { s with bank := s.bank.upd l (fun b =>
      { putBank (!b.active) (img.map programOf) b with
        staged := decide (reason = 0), result := reason % 16, check := if reason = 0 then (img.map imgCheckOf).getD 0 else 0 }) }

/-- The reason of R328 for the image in the code store's inactive bank. -/
def stagingResult (s : State) : Nat × Option (List Byte) :=
  let img := bankImage s (!s.keep.bank)
  (stageReason s ((moduleProg s).getD {}) img, img)

/-- What a lane does before it reports ready: its units' known answers (R393), its programs and its registers. -/
def prepareLane (l : Lane) (s : State) : State :=
  let s := updLane l (retainRegs s l) (loadActive l s)
  if stagedOrLater s then
    let r := stagingResult s
    stageLane r.1 r.2 l s
  else s

/-- A lane's check units give their known answers, bit 0 the port unit and bit 1 the scan engine, or an injected failure
fails both (R393, R509). -/
def knownAnswers (l : Lane) (units : BitVec 2) (s : State) : State :=
  let pass := if s.test.katWrong.at l then 0 else units
  let s := { s with
    port := s.port.upd l (fun p => { p with kat := pass })
    test := { s.test with katWrong := s.test.katWrong.put l ((persists 0x0503 s).at l) } }
  recordIf (pass != 3) 0 .katFailed [l.num, pass.toNat] s

/-- A starting lane reports ready (R145, R323, R393, R435). -/
def reportReady (l : Lane) (kat : BitVec 2) (s : State) : State :=
  let s := knownAnswers l kat s
  if (s.port.at l).kat ≠ 3 then s else
  let s := prepareLane l s
  if (activeProg s l).isNone then s
  else tryRejoin (updLane l (fun r => { r with ready := true, everReady := true, fwCopy := true }) s)

/-- LANE_READY (R145): a lane that was reset while the module runs reports ready. -/
def execLaneReady (t : Nat) (l : Lane) (kat : BitVec 2) (s : State) : Host.Outcome State Fault Refusal :=
  let s := elapse t s
  .next (if s.rst.stage = .ready ∧ lstate s l = .starting ∧ (laneOf s l).ready = false then reportReady l kat s else s)

/-- REJOIN_PASS_END (R149): `err` is what a fault changes in the rejoining lane's CRC. -/
def execRejoinPassEnd (t : Nat) (s : State) (err : W32 := 0) : Host.Outcome State Fault Refusal :=
  .next (tryRejoin (passEnd err (elapse t s)))

/-- REJOIN_TIMEOUT (R151). -/
def execRejoinTimeout (t : Nat) (s : State) : Host.Outcome State Fault Refusal := .next (tryRejoin (rejoinTimeout (elapse t s)))

/-! ### The degraded clock (R154 to R156) -/

/-- A module that must not take the crown any more ends its candidacy and drops a handover it has accepted (R156). -/
def forgoCrown (s : State) : State :=
  let s := { s with crown := { s.crown with ho := none } }
  if s.crown.state = .candidate then
    let s := withdrawAll s
    if s.crown.byStart then enterSeeking s else enterOut s
  else s

/-- The degraded clock expires: the holder offers the crown, any other module refuses it from now on. -/
def degradedExpiry (s : State) : State :=
  if s.vote.degRun ∧ s.vote.degEnd ≤ s.clk.lifeUs then
    let s := { s with vote := { s.vote with degRun := false, degLeft := 0 } }
    if crowned s then offerHandover .degraded { s with vote := { s.vote with graceEnd := some (s.clk.lifeUs + 1000000) } }
    else forgoCrown (fire 7 (record 0 .degExpired [] { s with vote := { s.vote with degExpired := true } }))
  else s

/-- DEGRADED_CLOCK_EXPIRY (R155, R156). -/
def execDegradedClockExpiry (t : Nat) (s : State) : Host.Outcome State Fault Refusal := .next (degradedExpiry (elapse t s))

/-- The second of R155 ends: DEG_EXPIRED while the module still holds the crown. -/
def graceEnd (s : State) : State :=
  match s.vote.graceEnd with
  | some e =>
    if e ≤ s.clk.lifeUs then
      let s := { s with vote := { s.vote with graceEnd := none } }
      if crowned s then moduleReflex 0x19 s else s
    else s
  | none => s

/-- DEG_EXPIRY_GRACE_END (R155). -/
def execDegExpiryGraceEnd (t : Nat) (s : State) : Host.Outcome State Fault Refusal := .next (settleHalt (graceEnd (elapse t s)))

/-- LANE_CLR_MAX (R90): in the clock in which a phase ends, the count of that phase stands. -/
def clrLaneMax (l : Lane) (s : State) : State :=
  let keeps := setNow s (maxKey l)
  updLane l (fun r => { r with runMax := if keeps then r.run else 0 }) s

def execLaneClrMax (t : Nat) (h : HostId) (l : Lane) (s : State) : Host.Outcome State Fault Refusal :=
  .next (hostWrite h (0x050028 + 0x10000 * l.num) (fun s => done (clrLaneMax l s)) (elapse t s))

end Sys2Proof.Machine
end

