-- ==== Sys2Proof/Machine/TestOps.lean ====
section
/-! DEFINITION. Judging self-test entries (R496, R502, R514). -/
namespace Sys2Proof.Machine

/-- Entry i of a test. -/
def entryAt (es : List (W32 × W32)) (i : Nat) : W32 × W32 := nthD (0, 0) es i

/-- The entries, as bits, for which p holds of the entry and its golden values. -/
def entryMask (version : W32) (es : List (W32 × W32)) (p : W32 × W32 → W32 × W32 → Bool) : Nat :=
  (List.range 11).foldl (fun m i => m + b2n (p (entryAt es i) (Config.golden version i)) * 2 ^ i) 0

/-- An entry fails: its signature or pattern count is not the golden one (R502). -/
def entryFails (version : W32) (es : List (W32 × W32)) (i : Nat) : Bool := entryAt es i != Config.golden version i

/-- ST_STAT.RESULT of a test: 1 pass, 2 a signature differs, 3 incomplete. -/
def testVerdict (version : W32) (es : List (W32 × W32)) : Nat :=
  if entryMask version es (fun x g => x.1 != g.1) ≠ 0 then 2
  else if (List.range 11).any (entryFails version es) then 3 else 1

/-- A test of a kind ends with its entries (R502, R514): the ST registers, sources 96 and 97, the result's cell. -/
def endTest (kind : Nat) (es : List (W32 × W32)) (s : State) : State :=
  let v := s.upd.fwRun
  let sig := entryMask v es (fun x g => x.1 != g.1)
  let short := entryMask v es (fun x g => decide (x.2.toNat < g.2.toNat))
  let result := testVerdict v es
  let s := { s with test := { s.test with kind := kind, result := result, short := short, sigFail := sig, step := 0 } }
  fire 96 (fireIf (decide (sig ≠ 0)) 97 (record 0 .testResult [result, sig, short] s))

end Sys2Proof.Machine
end

