-- ==== Sys2Proof/Machine/Boot.lean ====
section
/-! DEFINITION. Resets taken by command and the bring-up stages (R431 to R455, R473, R485, R488). -/
namespace Sys2Proof.Machine

/-! ### Reset sources -/

/-- Either input lies within its window. -/
def inputUsable (s : State) : Bool :=
  Window.feeds s.pwr.main || Window.feeds s.pwr.back

/-- The life clock and the calendar after a loss of the keep domain's supply (R363, R526). -/
def keepLoss (s : State) : State :=
  let s := markSet (flagKey 0x140024 2) { s with
    clk := { s.clk with lifeUs := s.keep.checkpoint + 1000000, lifeFrac := 0, lifePpb := 0, calNs := 0, calFrac := 0, calPpb := 0
                        calValid := false, calSetter := 3 }
    keep := { s.keep with lifeGap := true, lost := false } }
  bumpCounter 17 s

/-- What a power-up with KEEP_LOSS records once its reset has begun (R526). -/
def recordGap (s : State) : State := fire 105 (record 0 .lifeGap [s.keep.checkpoint] s)

/-- POWER_ON (R431, R434): the rails rise; `keepLost` is the keep domain's supply latch. -/
def execPowerOn (t : Nat) (keepLost : Bool) (s : State) : Host.Outcome State Fault Refusal :=
  let s := elapse t s
  .next (
    if s.rst.powered then s
    else if keepLost || s.keep.lost then recordGap (moduleReset [1, 9] (keepLoss s))
    else moduleReset [1] s)

/-- BROWN_OUT (R433): the end of hold-up, whose counter advanced at its start. -/
def execBrownOut (t : Nat) (s : State) : Host.Outcome State Fault Refusal :=
  let s := elapse t s
  .next (
    match s.pwr.lostAt with
    | some x =>
      if s.pwr.holdup && decide (x + 2000000 ≤ s.clk.now) then
        let up := inputUsable s
        let s := resetModule s.keep [2] (quitCrown s)
        { s with rst := { s.rst with powered := up } }
      else s
    | none => s)

/-- NRST_PULSE (R439): 40 low periods are taken as a PIN reset; a shorter pulse of at least one is counted. -/
def execNrstPulse (t : Nat) (periods : Nat) (s : State) : Host.Outcome State Fault Refusal :=
  let s := elapse t s
  .next (
    if !s.rst.powered then s
    else if 40 ≤ periods then
      let s := moduleReset [3] s
      { s with rst := { s.rst with nrst := true, level := false } }
    else if 1 ≤ periods then { s with rst := { s.rst with rejected := satAdd s.rst.rejected 1 0xFFFF } }
    else s)

/-- NRST_RELEASE (R439): the ball has been high for long enough, which is the release HOLD waits for. -/
def execNrstRelease (t : Nat) (s : State) : Host.Outcome State Fault Refusal :=
  let s := elapse t s
  .next (if s.rst.nrst then { s with rst := { s.rst with nrst := false, level := true, stageAt := s.clk.now - 20000 } } else s)

/-- A software reset asked for with a key (R438). -/
def softReset (code : Nat) (key : W16) (h : HostId) (s : State) : State × Nat :=
  if key ≠ 0xC3A5 then done s
  else if crowned s ∧ (s.crown.partner = 4 ∨ s.crown.partner = 5) then hostRefused 0x010040 h s
  else done (releaseAndReset code s)

/-- RST_SW_COLD (R438). -/
def execRstSwCold (t : Nat) (h : HostId) (key : W16) (s : State) : Host.Outcome State Fault Refusal :=
  .next (hostWrite h 0x010040 (softReset 6 key h) (elapse t s))

/-- RST_SW_WARM (R438). -/
def execRstSwWarm (t : Nat) (h : HostId) (key : W16) (s : State) : Host.Outcome State Fault Refusal :=
  .next (hostWrite h 0x010040 (softReset 7 key h) (elapse t s))

/-! ### HOLD and CLOCKS -/

/-- A stage begins. -/
def toStage (x : Stage) (s : State) : State := { s with rst := { s.rst with stage := x, stageAt := s.clk.now } }

/-- HOLD_END (R440): every module-scope source has been released for 20 µs. -/
def execHoldEnd (t : Nat) (s : State) : Host.Outcome State Fault Refusal :=
  let s := elapse t s
  .next (
    if s.rst.stage = .hold ∧ s.rst.powered = true ∧ s.rst.nrst = false ∧ s.rst.stageAt + 20000 ≤ s.clk.now then
      toStage .clocks { s with rst := { s.rst with holdEnd := s.clk.now, clkAt := s.clk.now } }
    else s)

/-- A union of lane flags. -/
def orLanes (x y : Tri Bool) : Tri Bool := x.map (fun l v => v || y.at l)

/-- The flag's lanes. -/
def countLanes (p : Lane → Bool) : Nat := (lanes.filter p).length

/-- The lanes whose references are counted stable suffice (R440): two, lane A among them or given up. -/
def refsSuffice (s : State) : Bool :=
  decide (2 ≤ countLanes (fun l => s.rst.refs.at l && !s.rst.off.at l)) && (s.rst.refs.a || s.rst.off.a)

/-- The option loader takes the safe defaults (R447). -/
def safeOptions (why bad : Nat) (s : State) : State :=
  fire 66 { s with
    opt := { fail := true, why := why, bad := bad }
    keep := { s.keep with attempts := 0 }
    rst := { s.rst with cold := true, dram := false } }

/-- Stage PLL begins. -/
def toPll (s : State) : State := toStage .pll { s with rst := { s.rst with pllAt := some s.clk.now } }

/-- The option load starts (R446). -/
def toOptions (s : State) : State :=
  let s := toStage .options s
  if 8 ≤ s.keep.attempts then toPll (safeOptions 1 0 s)
  else { s with keep := { s.keep with attempts := s.keep.attempts + 1 } }

/-- The release override lets stage CLOCKS end without its clocks (R443, R511). -/
def refsStable (refs : Tri Bool) (s : State) : State :=
  let s := { s with rst := { s.rst with refs := orLanes s.rst.refs refs } }
  if s.rst.stage = .clocks ∧ (refsSuffice s || s.rst.ovr) then toOptions s else s

/-- CLOCKS_STABLE (R441). -/
def execClocksStable (t : Nat) (refs : Tri Bool) (s : State) : Host.Outcome State Fault Refusal :=
  let s := elapse t s
  .next (if s.rst.stage = .hold ∨ s.rst.stage = .ready then s else refsStable refs s)

/-- The service role leaves a lane that stays OFF (R24, R442). -/
def serviceAway (s : State) : State :=
  let l := s.glb.svc
  if s.rst.off.at l then
    (if !s.rst.off.at l.next then moveService false l.next s
     else if !s.rst.off.at l.next.next then moveService false l.next.next s else s)
  else s

/-- A lane is given up: it stays OFF and is recorded (R442). -/
def giveUp (s : State) (l : Lane) : State :=
  if s.rst.off.at l then s
  else record 0 .laneStaysOff [l.num] { s with rst := { s.rst with off := s.rst.off.put l true } }

/-- A lane's reference or PLL is not counted stable within 20 ms of the start of its stage. -/
def clockLate (s : State) (l : Lane) : Bool :=
  (!s.rst.refs.at l && decide (s.rst.clkAt + 20000000 ≤ s.clk.now))
    || (match s.rst.pllAt with
        | some x => !s.rst.plls.at l && decide (x + 20000000 ≤ s.clk.now)
        | none => false)

/-- With fewer than two lanes left the module stays in its stage and tries again 100 ms after (R442). -/
def retryClocks (s : State) : State :=
  { s with rst := { s.rst with
      off := ⟨false, false, false⟩, clkAt := s.rst.clkAt + 100000000, pllAt := s.rst.pllAt.map (· + 100000000) } }

/-- PLL lock suffices, or the override releases the lanes early (R440, R443). -/
def earlyRelease (s : State) : Bool := s.rst.ovr && s.opt.flags.getLsbD 3

/-- A lane's clocks are counted stable. -/
def clocksOk (s : State) (l : Lane) : Bool := s.rst.refs.at l && s.rst.plls.at l

/-- Stage BOOT begins: the lanes' clock status, and CLOCK_SUSPECT of a lane released early (R443). -/
def toBoot (s : State) : State :=
  let early := earlyRelease s
  toStage .boot { s with lane := s.lane.map (fun l r =>
    { r with pllLock := s.rst.plls.at l, stable := clocksOk s l, suspect := early && (r.suspect || !clocksOk s l) }) }

/-- The end of stages CLOCKS and PLL once the clocks allow it. -/
def settleClocks (s : State) : State :=
  if s.rst.stage = .clocks then (if refsSuffice s then toOptions s else s)
  else if s.rst.stage = .pll then
    (if 2 ≤ countLanes (fun l => clocksOk s l && !s.rst.off.at l) || earlyRelease s then toBoot s else s)
  else s

/-- CLOCK_STABLE_TIMEOUT (R442). -/
def execClockStableTimeout (t : Nat) (s : State) : Host.Outcome State Fault Refusal :=
  let s := elapse t s
  .next (
    if s.rst.stage = .hold ∨ s.rst.stage = .ready then s
    else if lanes.all (fun l => !clockLate s l) then s
    else
      let s := (lanes.filter (clockLate s)).foldl giveUp s
      if countLanes (fun l => !s.rst.off.at l) < 2 then retryClocks s else settleClocks (serviceAway s))

/-! ### Options (R444 to R447) -/

/-- A bad copy is recorded (R445, R455). -/
def noteBadCopies (bad : Nat) (s : State) : State :=
  if bad = 0 then s else fire 67 (record 0 .optionCopyBad [bad] s)

/-- The options of a good copy are in force. -/
def useOptions (n bad other : Nat) (b : List Byte) (s : State) : State :=
  { s with
    opt := { used := n, bad := bad, other := other, seq := leAt b 0 2, flags := BitVec.ofNat 8 (leAt b 3 1), set0 := leAt b 4 4
             set1 := leAt b 8 4 }
    keep := { s.keep with attempts := 0 } }

/-- The option load of R445. -/
def loadOptions (s : State) : State :=
  match goodOptions s 0, goodOptions s 1 with
  | some x, none => noteBadCopies 2 (useOptions 0 2 0 x s)
  | none, some y => noteBadCopies 1 (useOptions 1 1 0 y s)
  | none, none => noteBadCopies 3 (safeOptions 2 3 s)
  | some x, some y =>
    let sx := leAt x 0 2
    let sy := leAt y 0 2
    if sx = sy ∧ x ≠ y then safeOptions 3 0 s
    else if newerSeq sy sx then useOptions 1 0 sx y s else useOptions 0 0 sy x s

/-- OPTION_LOAD_DONE (R445). -/
def execOptionLoadDone (t : Nat) (s : State) : Host.Outcome State Fault Refusal :=
  let s := elapse t s
  .next (if s.rst.stage = .options then toPll (loadOptions s) else s)

/-- PLL_STABLE (R440, R441). -/
def execPllStable (t : Nat) (plls : Tri Bool) (s : State) : Host.Outcome State Fault Refusal :=
  let s := elapse t s
  .next (
    if s.rst.pllAt.isNone ∨ s.rst.stage = .ready then s
    else settleClocks { s with rst := { s.rst with plls := orLanes s.rst.plls plls } })

/-! ### Firmware (R397, R450, R451, R488) -/

/-- A lane takes part in the boot: not given up, and its clocks are stable or it is released early. -/
def boots (s : State) (l : Lane) : Bool := !s.rst.off.at l && (clocksOk s l || (laneOf s l).suspect)

/-- The firmware image of the code store whose header is h. -/
def fwImage (s : State) (h : List Byte) : List Byte := storeBytes s (fwAddr + 256) (leAt h 8 4)

/-- A firmware header's signature verifies (R461). -/
def fwSignatureOk (s : State) (h img : List Byte) : Bool :=
  Config.ecdsaVerify s.fuse.fwKey (fwSigned h img) (sub h 128 64)

/-- The recovery reason the code store gives before any lane has checked the image; 0 none (R488). -/
def storeReason (s : State) : Nat :=
  match fwHeader s with
  | none => 1
  | some h => if leAt h 24 4 = 0 then 2 else if !fwSignatureOk s h (fwImage s h) then 1
    else if s.keep.recoverAsked then s.keep.reason else 0

/-- The address Ethernet uses in recovery mode (R489): `word4` of the settings address, or a link-local one. -/
def addrOf (b : List Byte) : W32 :=
  BitVec.ofNat 32 (leAt b 0 1 * 0x1000000 + leAt b 1 1 * 0x10000 + leAt b 2 1 * 0x100 + leAt b 3 1)

/-- The settings block that a copy in the code store holds, whatever firmware reads it. -/
def anySettings (s : State) : Option Settings :=
  (readCopy 0 0xFFFF (copyBytes s 0)).orElse (fun _ => readCopy 0 0xFFFF (copyBytes s 1))

/-- The link-local address of R489. -/
def localAddr (rank : W32) : W32 :=
  addrOf [169, 254, BitVec.ofNat 8 (1 + bits rank 15 8 % 254), BitVec.ofNat 8 (1 + bits rank 7 0 % 254)]

/-- The boot ROM enters recovery mode (R488, R489). -/
def enterRecovery (reason : Nat) (s : State) : State :=
  let addr := match anySettings s with
    | some b => addrOf b.net
    | none => localAddr s.fuse.rank
  { s with
    rst := { s.rst with recovery := true, stageAt := s.clk.now }
    keep := { s.keep with reason := reason, recoverAsked := false }
    eth := { s.eth with addr := addr } }

/-- A quick start is allowed (R451). -/
def quickStart (h : List Byte) (s : State) : Bool :=
  let r := s.keep.testRec
  !s.rst.cold && decide (s.rst.srcs / 256 % 2 = 0) && s.opt.flags.getLsbD 2 && recordPasses r
    && decide (s.clk.lifeUs - r.stop < 604800 * 1000000) && decide (r.version.toNat = leAt h 4 4)
    && decide (r.check.toNat = leAt h 20 4)

/-- The registers the boot ROM sets from a header (R492). -/
def fwRegs (h : List Byte) (u : Upd) : Upd :=
  { u with
    fwRun := BitVec.ofNat 32 (leAt h 4 4), fwCheck := BitVec.ofNat 32 (leAt h 20 4), pairLevel := leAt h 16 2
    pairMin := leAt h 18 2, schemaMin := leAt h 12 2, schemaMax := leAt h 14 2 }

/-- CHK_BOOT (R399). -/
def bootWord (allOther : Bool) (m : Nat) : W32 := pack [(b2n allOther, 8), (m, 0)]

/-- The lanes that may not run: one whose value differs stays OFF and is named (R397). -/
def dropLanes (ok : Lane → Bool) (s : State) : State :=
  serviceAway ((lanes.filter (fun l => boots s l && !ok l)).foldl giveUp s)

/-- The firmware is accepted from the code store (R397, R451): the next stage. -/
def acceptStore (h : List Byte) (ok : Lane → Bool) (s : State) : State :=
  let quick := quickStart h s
  let s := dropLanes ok s
  let s := { s with
    upd := fwRegs h s.upd
    keep := { s.keep with reason := 0, recoverAsked := false, testRec := { s.keep.testRec with done := 0 } }
    lane := s.lane.map (fun l r => { r with fwCopy := ok l })
    rst := { s.rst with boot := if quick then 2 else 1, dram := false } }
  toStage (if quick then .load else .selftest) s

/-- A boot from the code store (R397, R488): lane l's value equals the stored check when its own path is good and the
image is. -/
def storeBoot (acc : Tri Bool) (s : State) : State :=
  match fwHeader s with
  | none => enterRecovery 1 s
  | some h =>
    let good := decide ((fwImageCheck h (fwImage s h)).toNat = leAt h 20 4)
    let ok := fun l => boots s l && acc.at l && good
    let m := lanes.foldl (fun n l => n + b2n (ok l) * 2 ^ l.num) 0
    let s := { s with chk := { s.chk with boot := bootWord (!good && acc.a && acc.b && acc.c) m } }
    if storeReason s ≠ 0 then enterRecovery (storeReason s) s
    else if countLanes ok < 2 then enterRecovery 1 s
    else acceptStore h ok s

/-- A restart from DRAM copies (R450). -/
def dramBoot (acc : Tri Bool) (s : State) : State :=
  let ok := fun l => boots s l && acc.at l && (laneOf s l).fwCopy
  let m := lanes.foldl (fun n l => n + b2n (ok l) * 2 ^ l.num) 0
  if 2 ≤ countLanes ok then
    let s := dropLanes ok { s with chk := { s.chk with boot := bootWord false m } }
    toStage .load { s with rst := { s.rst with boot := 3 } }
  else { s with rst := { s.rst with boot := 1, cold := true, dram := false } }

/-- FIRMWARE_ACCEPTED (R397, R450). -/
def execFirmwareAccepted (t : Nat) (accepted : Tri Bool) (s : State) : Host.Outcome State Fault Refusal :=
  let s := elapse t s
  .next (
    if s.rst.stage ≠ .boot ∨ s.rst.recovery = true then s
    else if s.rst.dram then dramBoot accepted s else storeBoot accepted s)

/-- The lanes that entries 0 to 8 of a start-up test fail. -/
def testedOk (s : State) (es : List (W32 × W32)) (l : Lane) : Bool :=
  [l.num, 3 + l.num, 6 + l.num].all (fun i => !entryFails s.upd.fwRun es i)

/-- STARTUP_SELFTEST_DONE (R503): the DRAM contents are destroyed; with fewer than two lanes left the module stays. -/
def execStartupSelftestDone (t : Nat) (entries : List (W32 × W32)) (s : State) : Host.Outcome State Fault Refusal :=
  let s := elapse t s
  .next (
    if s.rst.stage ≠ .selftest then s else
    let s := { s with ret := ⟨{}, {}, {}⟩, test := { s.test with shown := some entries } }
    let s := dropLanes (testedOk s entries) (endTest 2 entries s)
    if 2 ≤ countLanes (boots s) then toStage .load s else retryClocks s)

/-! ### LOAD (R429, R473, R485, R522) -/

/-- The router entries of a settings block come into force (R429). -/
def loadRouter (b : Settings) (s : State) : State :=
  let s := b.router.foldl (fun s e => putSource s e.source { sourceOf s e.source with
    mask := e.mask, tier := e.tier, order := e.order, modCount := e.modCount, modTime := e.modTime }) s
  let f := match b.floors with
    | some w => ⟨w.toNat % 16, w.toNat / 16 % 16, w.toNat / 256 % 16, w.toNat / 4096 % 16⟩
    | none => s.evr.floor
  { s with evr := noteIrq { s.evr with floor := f } }

/-- The starting step of a profile (R41). -/
def startStep (profile : Nat) : Nat := if profile = 2 then 1 else 0

/-- The margin plan under a profile (R41, R521): ENDURE scrubs at twice the nominal rate and verifies comb cells. -/
def planFor (profile : Nat) (p : Plan) : Plan :=
  let wide := profile == 2
  let p := if p.profile = profile then p else
    { p with profile := profile, refresh := false, fast := ⟨false, false, false⟩, thresholds := [], dscrub := wide, nscrub := wide, verify := wide }
  { p with step := max p.step (startStep profile) }

/-- A planned clock step is applied at LOAD, but for a restart from DRAM copies (R522). -/
def applyStep (s : State) : State :=
  if s.rst.dram then s else
  let p := s.keep.plan
  let new := decide (startStep p.profile < p.step) && p.step != p.applied
  let s := { s with
    lane := s.lane.map (fun _ r => { r with step := p.step })
    keep := { s.keep with plan := { p with applied := p.step } } }
  if new then bumpCounter 16 (fire 101 (record 0 .stepApplied [p.step] s)) else s

/-- Settings in force (R429, R473, R493): every block takes its own. -/
def applySettings (n bad other : Nat) (b : Settings) (s : State) : State :=
  let s := { s with
    set := { s.set with block := some b, used := n, bad := bad, other := other }
    glb := { s.glb with valid := true, k := b.k, profile := b.profile }
    vote := { s.vote with degMinutes := b.degMin }
    vin := { s.vin with discrepMs := b.discrepMs, debounce := b.debounce }
    ring := s.ring.map (fun r p => { p with table := b.sections.at r })
    door := { loadDoors b.doors s.door with tripHold := b.tripHold }
    eth := { s.eth with ptpOn := decide (leAt b.net 14 1 = 1), addr := addrOf b.net }
    keep := { s.keep with plan := planFor b.profile s.keep.plan } }
  let s := applyStep (loadRouter b s)
  lanes.foldl (fun s l => if boots s l then loadActive l s else s) s

/-- A copy whose CRC verifies with a SCHEMA the running firmware reads. -/
def schemaInside (s : State) (n : Nat) : Bool :=
  let b := copyBytes s n
  copyCrcOk b && decide (s.upd.schemaMin ≤ leAt b 4 2) && decide (leAt b 4 2 ≤ s.upd.schemaMax)

/-- The running firmware rejects itself (R485). -/
def rejectFirmware (s : State) : State :=
  releaseAndReset 6 (storeWrite (fwAddr + 24) [0, 0, 0, 0]
    { s with keep := { s.keep with reason := 2, fwSettings := true } })

/-- No good settings block (R473): recovery after an SW_COLD reset. -/
def noSettings (s : State) : State :=
  if (schemaOutside s 0 || schemaOutside s 1) && !schemaInside s 0 && !schemaInside s 1 then rejectFirmware s
  else releaseAndReset 6 { s with keep := { s.keep with reason := 3, recoverAsked := true } }

/-- The settings copies are read (R473); `chosen` is kept while the other copy is to be rewritten before READY. -/
def loadSettings (s : State) : State :=
  let use := fun (n bad other : Nat) (b : Settings) (rewrite : Bool) =>
    applySettings n bad other b { s with rst := { s.rst with chosen := if rewrite then some n else none } }
  match goodCopy s 0, goodCopy s 1 with
  | some x, none => use 0 2 0 x false
  | none, some y => use 1 1 0 y false
  | none, none => noSettings s
  | some x, some y =>
    if copyBytes s 0 = copyBytes s 1 then use 0 0 y.seq x false
    else if newerSeq y.seq x.seq then use 1 0 x.seq y true
    else if newerSeq x.seq y.seq then use 0 0 y.seq x true
    else noSettings s

/-- SETTINGS_LOAD_DONE (R473). -/
def execSettingsLoadDone (t : Nat) (s : State) : Host.Outcome State Fault Refusal :=
  let s := elapse t s
  .next (if s.rst.stage = .load ∧ s.glb.valid = false then loadSettings s else s)

/-! ### READY (R440, R455) -/

/-- A lane reports ready at the end of LOAD. -/
def loadedLane (loaded : Tri Bool) (s : State) (l : Lane) : Bool :=
  boots s l && loaded.at l && decide ((s.port.at l).kat = 3) && (activeProg s l).isSome

/-- A lane's registers at READY: released into STARTING, and ready when it has loaded its program. -/
def releaseLane (ok : Lane → Bool) (s : State) (l : Lane) : State :=
  if !boots s l then s
  else
    let s := updLane l (fun r => { retainRegs s l r with ready := ok l, everReady := ok l }) s
    setLState l .starting s

/-- The update loader rewrites the settings copy that is not in force to match the other (R473). -/
def matchCopies (s : State) : State :=
  match s.rst.chosen with
  | some n =>
    let s := storeWrite (if n = 0 then s.opt.set1 else s.opt.set0) (copyBytes s n) s
    { s with rst := { s.rst with chosen := none } }
  | none => s

/-- The comb 0 cell of the module reset is written once the comb has left SCANNING (R455). -/
def resetCell (s : State) : State :=
  let vals := [s.rst.srcs, s.rst.cur, s.rst.boot, s.opt.used, s.rst.bootMs]
  if s.comb.state = .scanning then { s with rst := { s.rst with cell := some vals } } else record 0 .moduleReset vals s

/-- FW_SETTINGS_INCOMPATIBLE is told by the first firmware that reaches READY afterwards (R485). -/
def tellFwSettings (s : State) : State :=
  if s.keep.fwSettings then fire 68 (record 0 .fwSettings [] { s with keep := { s.keep with fwSettings := false } }) else s

/-- Stage READY (R169, R318, R440): ring time counts from the release. -/
def toReady (ok : Lane → Bool) (s : State) : State :=
  let s := matchCopies s
  let s := toStage .ready { s with
    rst := { s.rst with bootMs := (s.clk.now - s.rst.holdEnd) / 1000000 }
    clk := { s.clk with ring := ⟨{}, {}, {}⟩ }
    ring := s.ring.map (fun _ p => { p with released := true, silent := false })
    crown := { s.crown with waitFrom := s.clk.now }
    comb := { s.comb with cat := (Config.catVersion s.upd.fwRun).toNat } }
  let s := lanes.foldl (releaseLane ok) s
  let s := rings.foldl wrapIfBroken (fire 64 (doorStart (enterSeeking s)))
  tellFwSettings (resetCell s)

/-- MODULE_READY (R440): `loaded` are the lanes that have loaded their programs, `kats` what their check units answered. -/
def execModuleReady (t : Nat) (loaded : Tri Bool) (s : State) (kats : Tri (BitVec 2) := ⟨3, 3, 3⟩) : Host.Outcome State Fault Refusal :=
  let s := elapse t s
  .next (
    if s.rst.stage ≠ .load ∨ s.glb.valid = false then s else
    let s := (lanes.filter (boots s)).foldl (fun s l => knownAnswers l (kats.at l) s) s
    let ok := loadedLane loaded s
    if 2 ≤ countLanes ok then toReady ok s else s)

end Sys2Proof.Machine
end

