-- ==== Sys2Proof/Machine/Comb.lean ====
section
/-! DEFINITION. The commands of the comb (R349 to R384). -/
namespace Sys2Proof.Machine

/-- CELL_CREATE (R356). -/
def execCellCreate (t : Nat) (comb : Fin 3) (note : Note) (vals : List Nat) (s : State) : Host.Outcome State Fault Refusal :=
  .next (record comb note vals (elapse t s))

/-- CELL_WRITE_DONE (R355, R359, R366). -/
def execCellWriteDone (t : Nat) (how : ProgramEnd) (s : State) : Host.Outcome State Fault Refusal :=
  .next (writeCell how (elapse t s))

/-- QUEUE_ROOM (R357). -/
def execQueueRoom (t : Nat) (s : State) : Host.Outcome State Fault Refusal := .next (lossCell (elapse t s))

/-- COMB_SCAN_DONE (R360, R455): the comb leaves SCANNING, and the cell of the latest module reset is written. -/
def execCombScanDone (t : Nat) (found : Bool) (s : State) : Host.Outcome State Fault Refusal :=
  let s := elapse t s
  .next (if s.comb.state ≠ .scanning then s else
    let s := scanDone found s
    match s.rst.cell with
    | none => s
    | some vals => record 0 .moduleReset vals { s with rst := { s.rst with cell := none } })

/-- COMB_HOLDUP_STOP (R361). -/
def execCombHoldupStop (t : Nat) (s : State) : Host.Outcome State Fault Refusal :=
  let s := elapse t s
  .next (match s.comb.holdupEnd with
    | some e => if e ≤ s.clk.now then { s with comb := { s.comb with stopped := true } } else s
    | none => s)

/-- NAND_TIMEOUT (R381). -/
def execNandTimeout (t : Nat) (s : State) : Host.Outcome State Fault Refusal := .next (failComb 2 0 0 (elapse t s))

/-- COMB_FREEZE_REQ (R380): a write of COMB_FREEZE. -/
def execCombFreezeReq (t : Nat) (h : HostId) (w : W32) (s : State) : Host.Outcome State Fault Refusal :=
  .next (hostWrite h 0x0E0060 (writeFreeze h w) (elapse t s))

/-- FREEZE_ACTIVE (R380). -/
def execFreezeActive (t : Nat) (s : State) : Host.Outcome State Fault Refusal := .next (freezeActive (elapse t s))

/-- FREEZE_TIMEOUT (R380). -/
def execFreezeTimeout (t : Nat) (s : State) : Host.Outcome State Fault Refusal := .next (freezeTimeout (elapse t s))

/-- COMB_CHAL_REQ (R368): a write of COMB_CLEAR with a mask and CHAL_REQ. -/
def execCombChalReq (t : Nat) (h : HostId) (mask : BitVec 4) (s : State) : Host.Outcome State Fault Refusal :=
  .next (hostWrite h 0x0E0070 (writeClear h (pack [(mask.toNat, 0), (1, 4)])) (elapse t s))

/-- COMB_CLEAR_GO (R369): a write of COMB_CLEAR with a mask and GO. -/
def execCombClearGo (t : Nat) (h : HostId) (mask : BitVec 4) (s : State) : Host.Outcome State Fault Refusal :=
  .next (hostWrite h 0x0E0070 (writeClear h (pack [(mask.toNat, 0), (1, 5)])) (elapse t s))

/-- CLEAR_INITIAL_ERASE_DONE (R370): `failed` names a cell of each block whose erase failed. arr 3 stands for the last-words
store. -/
def execClearInitialEraseDone (t : Nat) (arr : Fin 4) (s : State) (failed : List Nat := []) : Host.Outcome State Fault Refusal :=
  .next (eraseDone (if arr = 3 then 4 else arr) failed (elapse t s))

/-- CLEAR_DONE (R370). -/
def execClearDone (t : Nat) (comb : Fin 3) (s : State) (failed : List Nat := []) : Host.Outcome State Fault Refusal :=
  .next (clearComplete comb failed (elapse t s))

/-- COMB_SNAP_TRIG (R371): a write of COMB_SNAP_CTL. -/
def execCombSnapTrig (t : Nat) (h : HostId) (m : BitVec 4) (s : State) : Host.Outcome State Fault Refusal :=
  .next (hostWrite h 0x0E0100 (fun s => done (snapTrigger m s)) (elapse t s))

/-- COMB_STREAM_REQUEST (R376, R415, R498): on an open connection, unless a shut-down self-test suspends streaming. -/
def execCombStreamRequest (t : Nat) (conn : Fin 2) (comb first last : Nat) (s : State) : Host.Outcome State Fault Refusal :=
  let s := elapse t s
  .next (if (if conn = 0 then s.eth.comb0 else s.eth.comb1) ∧ s.test.running = false then
      { s with eth := { s.eth with out := s.eth.out ++ [.comb conn (streamRecords s comb first last)] } }
    else s)

/-- COMB_SEQ_LO_READ (R383): the read latches COMB_SEQ_HI. -/
def combSeqLo (s : State) : State × W32 :=
  ({ s with comb := { s.comb with seqHi := BitVec.ofNat 32 (s.comb.nextSeq / 2 ^ 32) } }, BitVec.ofNat 32 s.comb.nextSeq)

def execCombSeqLoRead (t : Nat) (h : HostId) (s : State) : Host.Outcome State Fault Refusal :=
  .next (hostRead h 0x0E0004 combSeqLo (elapse t s))

end Sys2Proof.Machine
end

