-- ==== Sys2Proof/Machine/Crown.lean ====
section
/-! DEFINITION. The commands of the crown unit and the partner link (R294 to R321). -/
namespace Sys2Proof.Machine

/-- LEASE_RECORD (R298 to R303). -/
def execLeaseRecord (t : Nat) (x : Twin LeaseBody) (s : State) : Host.Outcome State Fault Refusal :=
  .next (takeTwin x takeLease (elapse t s))

/-- LEASE_ACK_RECORD (R301): a renewal the holder has sent is acknowledged. -/
def execLeaseAckRecord (t : Nat) (x : Rcv) (ts : Nat) (epoch : W32) (s : State) : Host.Outcome State Fault Refusal :=
  .next (takeRcv x (fun s =>
    if crowned s && epoch == s.crown.epoch && decide (ts ≤ s.crown.lastTs) then acknowledge ts false s else s) (elapse t s))

/-- The offset of a TIME exchange (R214). -/
def timeOffset (t1 t2 t3 t4 : Nat) : Int := ((((t2 : Int) - t1) - ((t4 : Int) - t3)) / 2)

/-- Time lock after an offset (R214): 8 consecutive ones within 200 ns gain it, one beyond 500 ns ends it. -/
def lockTime (off : Int) (b : Tb) : Tb :=
  let run := if off.natAbs ≤ 200 then min 8 (b.lockRun + 1) else 0
  { b with
    partnerOff := off, lockRun := run
    locked := if 500 < off.natAbs then false else b.locked || decide (8 ≤ run) }

/-- Ring time of a module that has none is set from its first exchange (DEDUCED, log entry 41); later its time-master lane
slews, at most 200 ppm (R214). -/
def followTime (off : Int) (s : State) : State :=
  if s.tb.established then
    let l := s.tb.tm.getD .a
    let ppb := clampI 200000 (Config.slewPpb 3 off)
    { s with clk := { s.clk with ring := s.clk.ring.upd l (fun c => { c with slewPpb := ppb }) } }
  else
    { s with
      clk := { s.clk with ring := s.clk.ring.map (fun _ c => { c with ns := ((c.ns : Int) + off).toNat, slewPpb := 0 }) }
      vin := { s.vin with scaleFrom := ((ringNow s : Int) + off).toNat, doneAt := none }
      tb := { s.tb with established := true } }

/-- TIME_RECORD (R214): the four instants of one exchange; the standby follows a module that holds the crown. -/
def execTimeRecord (t : Nat) (x : Rcv) (t1 t2 t3 t4 : Nat) (s : State) : Host.Outcome State Fault Refusal :=
  .next (takeRcv x (fun s =>
    let s := { s with tb := { s.tb with lastTime := s.clk.now } }
    if crowned s ∨ s.crown.state = .off ∨ s.crown.state = .candidate ∨ (s.crown.partner ≠ 8 ∧ s.crown.renewed = false) then s
    else
      let off := timeOffset t1 t2 t3 t4
      followTime off { s with tb := lockTime off s.tb }) (elapse t s))

/-- TIME_RECORD_TIMEOUT (R312): no TIME record for 1 ms; neither module is then time-locked to the other. -/
def execTimeRecordTimeout (t : Nat) (s : State) : Host.Outcome State Fault Refusal :=
  let s := elapse t s
  .next (if s.tb.lastTime + 1000000 ≤ s.clk.now then
      { s with tb := { s.tb with locked := false, lockRun := 0 }, crown := { s.crown with partnerLocked := false } }
    else s)

/-- A module that takes the holder's following records: COPYING, PROVING, IN_STEP, FROZEN, and a new holder until its first
latch (R313). -/
def takesRecords (s : State) : Bool :=
  s.crown.state == .copying || (compares s && !s.crown.finalLatch) || (crowned s && s.crown.firstLatch)

/-- A module keeps the holder's parts, commands and latest LATCH record from SEEKING on, so that the first cycle it proves
has all that the holder's has (R306, R310). -/
def keepsRecords (s : State) : Bool := s.crown.state == .seeking || takesRecords s

/-- What the holder's latch took before the module ran a cycle of its own is dropped (R306). -/
def passLatch (x : LatchBody) (s : State) : State :=
  { s with
    crown := { s.crown with parts := s.crown.parts.filter (fun p => decide (x.b ≤ p.ringTime)) }
    cyc := { s.cyc with cmds := (takeCmds (x.b - 2000) s.cyc.cmds [] []).2.1 } }

/-- PART_RECORD (R306). -/
def execPartRecord (t : Nat) (x : Rcv) (b : PartBody) (s : State) : Host.Outcome State Fault Refusal :=
  .next (takeRcv x (fun s =>
    if keepsRecords s then { s with crown := { s.crown with parts := s.crown.parts ++ [b] } } else s) (elapse t s))

/-- COMMAND_RECORD (R113, R410): the command enters the standby's command image; the source's last TSEQ is kept. -/
def execCommandRecord (t : Nat) (x : Rcv) (b : CommandBody) (s : State) : Host.Outcome State Fault Refusal :=
  .next (takeRcv x (fun s =>
    if keepsRecords s then
      let eth := (s.set.block.map (fun x => x.cmds.any (fun e => e.id == b.src && e.ipv4))).getD false
      { s with
        cyc := { s.cyc with cmds := holdCmd { slot := b.slot, value := b.value, when := b.accepted, deferred := false, eth := eth } s.cyc.cmds }
        keep := { s.keep with tseq := kvPut s.keep.tseq b.src.toNat b.tseq } }
    else s) (elapse t s))

/-- LATCH_RECORD (R305, R306): one that still waits was for a cycle the module did not run. -/
def execLatchRecord (t : Nat) (x : Rcv) (b : LatchBody) (s : State) : Host.Outcome State Fault Refusal :=
  .next (takeRcv x (fun s =>
    if s.crown.state = .frozen then enterOut s
    else if keepsRecords s then
      let s := match s.crown.latch with
        | some old => passLatch old s
        | none => s
      { s with crown := { s.crown with latch := some b } }
    else s) (elapse t s))

/-- COMMIT_RECORD (R308, R309, R335). -/
def execCommitRecord (t : Nat) (x : Twin CommitBody) (s : State) : Host.Outcome State Fault Refusal :=
  .next (takeTwin x (fun b s =>
    if crowned s ∨ s.crown.state = .off ∨ s.crown.finalLatch then s
    else
      let s := { s with crown := { s.crown with combSeq := some b.combSeq, partnerVoting := b.voting } }
      if takesRecords s then
        let s := missedCommit s
        followExchange b (compareCommits { s with crown := { s.crown with heard := some b } })
      else s) (elapse t s))

/-- DoorState from its code. -/
def doorStateOf (n : Nat) : DoorState := if n = 0 then .supervised else if n = 1 then .tripped else if n = 2 then .degraded else .isolated

/-- Proof from its code. -/
def proofOf (n : Nat) : Proof := if n = 0 then .unproven else if n = 1 then .openSeen else .proven

/-- A unit of a GUARD record mirrored in a channel (R265, R292); no quiet interval runs over frames the module did not
evaluate (R279). -/
def mirrorChan (now : Nat) (g : GuardUnit) (u : DoorChan) : DoorChan :=
  { breakQuiet u with
    state := doorStateOf g.state, proof := proofOf g.proof, failX := g.failX, failY := g.failY, cause := g.cause
    used := g.used, degAt := now, x := { pos := g.posX, spd := g.spdX, stat := g.statX }
    y := { pos := g.posY, spd := g.spdY, stat := g.statY }, sample := g.sample, seen := g.seen }

/-- A unit of a GUARD record (R265, R292, R307). -/
def mirrorUnit (s : State) (g : GuardUnit) : State :=
  let d := s.door
  let x := mirrorChan (ringNow s) g (chanOf d 0 g.unit)
  let y := mirrorChan (ringNow s) g (chanOf d 1 g.unit)
  let iso := s.keep.isolated.erase g.unit
  { s with
    door := putChan 1 g.unit y (putChan 0 g.unit x d)
    keep := { s.keep with
      isolated := if g.isolated then g.unit :: iso else iso, degUsed := tabSet 0 s.keep.degUsed g.unit g.used } }

/-- GUARD_RECORD (R265, R292): the old holder's last one still reaches the module that has just taken the crown (R313). -/
def execGuardRecord (t : Nat) (x : Rcv) (units : List GuardUnit) (s : State) : Host.Outcome State Fault Refusal :=
  .next (takeRcv x (fun s => if crowned s && !s.crown.firstLatch then s else units.foldl mirrorUnit s) (elapse t s))

/-- COPY_RECORD (R310). -/
def execCopyRecord (t : Nat) (x : Rcv) (b : CopyBody) (s : State) : Host.Outcome State Fault Refusal :=
  .next (takeRcv x (takeCopy b) (elapse t s))

/-- STATUS_RECORD (R302, R310, R331). -/
def execStatusRecord (t : Nat) (x : Rcv) (b : StatusBody) (s : State) : Host.Outcome State Fault Refusal :=
  .next (takeRcv x (takeStatus b) (elapse t s))

/-- HANDOVER_OFFER (R313): ACCEPT when CROWN_REFUSE reads 0, else REFUSE with the reason; one for WCET is recorded (R44). -/
def execHandoverOffer (t : Nat) (x : Twin (W32 × W32)) (s : State) : Host.Outcome State Fault Refusal :=
  .next (takeTwin x (fun b s =>
    if crowned s then s
    else if crownRefuse s = 0 then
      send (.accept b.1) { s with crown := { s.crown with ho := some { h := b.1, why := .rotation, accepted := true } } }
    else send (.refuse b.1 (BitVec.ofNat 32 (crownRefuse s))) (recordWcet s)) (elapse t s))

/-- HANDOVER_ACCEPT (R313). -/
def execHandoverAccept (t : Nat) (x : Twin W32) (s : State) : Host.Outcome State Fault Refusal :=
  .next (takeTwin x (fun h s =>
    match s.crown.ho with
    | some o => if crowned s && o.h == h then { s with crown := { s.crown with ho := some { o with accepted := true } } } else s
    | none => s) (elapse t s))

/-- HANDOVER_REFUSE (R313): the offer falls; it is retried as a postponed one (DEDUCED, log entry 42). -/
def execHandoverRefuse (t : Nat) (x : Twin (W32 × W32)) (s : State) : Host.Outcome State Fault Refusal :=
  .next (takeTwin x (fun b s =>
    match s.crown.ho with
    | some o =>
      if crowned s && o.h == b.1 then
        { s with crown := { s.crown with ho := none, retry := some o.why, retryAt := s.clk.now } }
      else s
    | none => s) (elapse t s))

/-- HANDOVER_COMMIT (R313). -/
def execHandoverCommit (t : Nat) (x : Twin (W32 × W32)) (s : State) : Host.Outcome State Fault Refusal :=
  .next (takeTwin x (fun b s =>
    match s.crown.ho with
    | some o =>
      if !crowned s && o.accepted && o.h == b.1 then
        settleHandover { s with crown := { s.crown with ho := some { o with digest := some b.2 } } }
      else s
    | none => s) (elapse t s))

/-- HANDOVER_CANCEL (R313). -/
def execHandoverCancel (t : Nat) (x : Twin W32) (s : State) : Host.Outcome State Fault Refusal :=
  .next (takeTwin x (fun h s =>
    match s.crown.ho with
    | some o => if !crowned s && o.h == h then { s with crown := { s.crown with ho := none } } else s
    | none => s) (elapse t s))

/-- RELEASE_RECORD (R302, R305, R311). -/
def execReleaseRecord (t : Nat) (x : Twin Unit) (s : State) : Host.Outcome State Fault Refusal :=
  .next (takeTwin x (fun _ s =>
    let holder := decide (s.crown.partner = 8)
    let s := { s with crown := { s.crown with released := true, partner := 0, partnerLocked := false, renewed := false } }
    if following s && holder then takeCrown s
    else if (s.crown.state == .copying || s.crown.state == .proving) && holder then enterSeeking s
    else s) (elapse t s))

/-- CLAIM_RECORD (R304, R311). -/
def execClaimRecord (t : Nat) (x : Twin ClaimRec) (s : State) : Host.Outcome State Fault Refusal :=
  .next (takeTwin x (fun b s =>
    if s.crown.state = .off then s
    else if s.crown.state = .candidate ∧ hasPriority b.epoch x.rank s.crown.epoch s.fuse.rank = true then
      withdraw x.rank (seeEpoch b.epoch s)
    else seeEpoch b.epoch s) (elapse t s))

/-- EVENT_RECORD (R382): the partner's event enters comb 0 with SOURCE 0x10, its payload the sender's rank and then the
record's body: SEQ, LIFE_US, SOURCE, TYPE, LEN and the original payload, cut with TRUNC set where it goes beyond 193 bytes.
-/
def execEventRecord (t : Nat) (x : Rcv) (payload : List Byte) (s : State) : Host.Outcome State Fault Refusal :=
  .next (takeRcv x (fun s =>
    enqueue s 0 0x10 (.bytes (Config.cellType .partnerEvent).toNat (leBytes 4 x.rank.toNat ++ payload))) (elapse t s))

/-- PL_LANE_SYNC_CHANGE (R297). -/
def execPlLaneSyncChange (t : Nat) (l : Fin 2) (up : Bool) (s : State) : Host.Outcome State Fault Refusal :=
  let s := elapse t s
  .next (
    let was := if l = 0 then s.pl.sync0 else s.pl.sync1
    if was = up then s
    else
      let s := { s with pl := if l = 0 then { s.pl with sync0 := up } else { s.pl with sync1 := up } }
      fire 35 { s with upd := { s.upd with linkAt := if s.pl.sync0 || s.pl.sync1 then none else some s.clk.now } })

/-- LEASE_EXPIRY (R301). -/
def execLeaseExpiry (t : Nat) (s : State) : Host.Outcome State Fault Refusal :=
  let s := elapse t s
  .next (if crowned s && decide (s.crown.tAck + s.crown.lease ≤ ringNow s) then expireLease s else s)

/-- CROWN_TAKE (R311): ring time reaches the view expiry plus G; a copy in progress ends there (R305). -/
def execCrownTake (t : Nat) (s : State) : Host.Outcome State Fault Refusal :=
  let s := elapse t s
  .next (
    match s.crown.view with
    | none => s
    | some v =>
      if ringNow s < v + guardNs s then s
      else if following s then takeCrown s
      else if s.crown.state = .copying ∨ s.crown.state = .proving then enterSeeking s
      else s)

/-- OUT_TIMEOUT (R305). -/
def execOutTimeout (t : Nat) (s : State) : Host.Outcome State Fault Refusal :=
  let s := elapse t s
  .next (if s.crown.state = .out ∧ s.crown.outAt + 1000000000 ≤ s.clk.now then enterSeeking s else s)

/-- START_WAIT_EXPIRY (R318). -/
def execStartWaitExpiry (t : Nat) (s : State) : Host.Outcome State Fault Refusal :=
  let s := elapse t s
  .next (
    if s.crown.state = .seeking ∧ s.set.block.isSome ∧ s.crown.waitFrom + 2 * leaseNs s + guardNs s ≤ s.clk.now then
      (if refusalReasons s = 0 then becomeCandidate true s else recordWcet s)
    else s)

/-- The rotation interval in µs; 0 is off (R316). -/
def rotationUs (s : State) : Nat := ((s.set.block.map (fun b => b.rotHours)).getD 0) * 3600000000

/-- ROTATION_DUE (R316). -/
def execRotationDue (t : Nat) (s : State) : Host.Outcome State Fault Refusal :=
  let s := elapse t s
  .next (
    if crowned s && decide (0 < rotationUs s) && decide (s.crown.heldFrom + rotationUs s ≤ s.clk.lifeUs)
        && s.crown.retry.isNone then offerHandover .rotation s
    else s)

/-- ROTATION_RETRY (R316): 60 s after a postponed rotation or ROTATE_NOW offer. -/
def execRotationRetry (t : Nat) (s : State) : Host.Outcome State Fault Refusal :=
  let s := elapse t s
  .next (
    match s.crown.retry with
    | some why =>
      if crowned s && why != .degraded && decide (s.crown.retryAt + 60000000000 ≤ s.clk.now) then offerHandover why s else s
    | none => s)

/-- ROTATE_NOW (R316, R320). -/
def execRotateNow (t : Nat) (h : HostId) (s : State) : Host.Outcome State Fault Refusal :=
  .next (hostWrite h 0x0D0028 (fun s => if crowned s then done (offerHandover .now s) else hostRefused 0x0D0028 h s) (elapse t s))

end Sys2Proof.Machine
end

