-- ==== Sys2Proof/Machine/Door.lean ====
section
/-! DEFINITION. The door guard's commands: the quiet interval, the end of the degraded time, host clears (R279 to R288,
R293). -/
namespace Sys2Proof.Machine

/-- A condition has held for TRIP_HOLD. -/
def heldLong (s : State) (x : Option Nat) : Bool :=
  match x with
  | some t0 => decide (t0 + s.door.tripHold * 1000000 ≤ ringNow s)
  | none => false

/-- The quiet interval of a channel's unit is complete (R279). -/
def quietDone (s : State) (u : DoorChan) : Bool := heldLong s u.quiet

/-- Back to SUPERVISED (R280): failed marks clear, the proof stage is UNPROVEN. -/
def superviseUnit (u : DoorChan) : DoorChan :=
  { u with state := .supervised, failX := false, failY := false, proof := .unproven, quiet := none }

/-- What a completed quiet interval does to one channel's unit (R280). -/
def completeQuiet (s : State) (e : DoorEntry) (u : DoorChan) : DoorChan :=
  match u.state with
  | .tripped =>
    if u.cause = 9 ∨ u.cause = 10 then u
    else if heldLong s u.both then superviseUnit u
    else if u.failX != u.failY then
      (if e.staff.isNone || degSpent e u then isolateUnit u.cause u
       else if heldLong s u.one && u.conf then
         { u with state := .degraded, proof := .unproven, quiet := none, degAt := ringNow s, confMiss := 0 }
       else u)
    else u
  | .degraded => if heldLong s u.both then superviseUnit u else u
  | _ => u

/-- QUIET_INTERVAL_COMPLETE (R280): the unit's quiet interval is complete in both channels. -/
def execQuietIntervalComplete (t unit : Nat) (s : State) : Host.Outcome State Fault Refusal :=
  let s := elapse t s
  .next (
    match doorEntry s.door unit with
    | none => s
    | some e =>
      let x := chanOf s.door 0 unit
      let y := chanOf s.door 1 unit
      if crowned s && quietDone s x && quietDone s y then
        updUnit unit [] (completeQuiet s e x) (completeQuiet s (entryY s.door e) y) s
      else s)

/-- A DEGRADED unit whose degraded time reaches DEG_MAX becomes ISOLATED with cause DEG_TIME (R286). -/
def spendDegraded (now : Nat) (e : DoorEntry) (u : DoorChan) : DoorChan :=
  if u.state = .degraded then
    let u := { u with used := u.used + (now - u.degAt), degAt := now }
    if degSpent e u then isolateUnit 7 u else u
  else u

/-- DOOR_DEG_TIME_EXPIRY (R286). -/
def execDoorDegTimeExpiry (t unit : Nat) (s : State) : Host.Outcome State Fault Refusal :=
  let s := elapse t s
  .next (
    match doorEntry s.door unit with
    | none => s
    | some e =>
      if crowned s then
        updUnit unit [7] (spendDegraded (ringNow s) e (chanOf s.door 0 unit))
          (spendDegraded (ringNow s) e (chanOf s.door 1 unit)) s
      else s)

/-- A channel allows a host clear (R281): `guard` for CLR_GUARD, else CLR_ISOLATE. -/
def clearAllowed (s : State) (guard : Bool) (e : DoorEntry) (u : DoorChan) : Bool :=
  (if guard then u.state == .tripped && u.cause == 9 && heldLong s u.agree else u.state == .isolated)
    && quietDone s u && !invalid u.x && !invalid u.y && within e u.x u.y
    && (guard || (clLocked u.x && clLocked u.y))

/-- A host clear of the unit in DG_SEL (R281). -/
def clearUnit (guard : Bool) (h : HostId) (s : State) : State × Nat :=
  let g := s.door.sel
  let x := chanOf s.door 0 g
  let y := chanOf s.door 1 g
  match doorEntry s.door g with
  | none => hostRefused 0x100060 h s
  | some e =>
    if crowned s && clearAllowed s guard e x && clearAllowed s guard e y then
      let s := updUnit g [] (superviseUnit x) (superviseUnit y) s
      let s := { s with keep := { s.keep with isolated := s.keep.isolated.erase g } }
      done (record 0 .doorClear [g, b2n guard] s)
    else hostRefused 0x100060 h s

/-- DG_CLR_GUARD (R281). -/
def execDgClrGuard (t : Nat) (h : HostId) (s : State) : Host.Outcome State Fault Refusal :=
  .next (hostWrite h 0x100060 (clearUnit true h) (elapse t s))

/-- DG_CLR_ISOLATE (R281). -/
def execDgClrIsolate (t : Nat) (h : HostId) (s : State) : Host.Outcome State Fault Refusal :=
  .next (hostWrite h 0x100060 (clearUnit false h) (elapse t s))

end Sys2Proof.Machine
end

