-- ==== Sys2Proof/Machine/Exchange.lean ====
section
/-! DEFINITION. The commands of the program exchange (R322 to R348). -/
namespace Sys2Proof.Machine

/-- A write of GLB_PX_CTL.STAGE (R328). -/
def writeStage (h : HostId) (s : State) : State × Nat :=
  if s.px.state = .idle then done (setPx .staging 0 s) else hostRefused 0x000044 h s

/-- PX_STAGE (R328). -/
def execPxStage (t : Nat) (h : HostId) (s : State) : Host.Outcome State Fault Refusal :=
  .next (hostWrite h 0x000044 (writeStage h) (elapse t s))

/-- Staging ends (R328): every lane in VOTING state has loaded and checked the inactive bank. -/
def endStaging (s : State) : State :=
  let r := stagingResult s
  let s := (voters s).foldl (fun s l => stageLane r.1 r.2 l s) s
  let why := if r.1 ≠ 0 then r.1 else if (stagedLanes s).length < 2 then 7 else 0
  if why = 0 then
    setPx .staged 0 { s with px := { s.px with
      xclocks := ((stagedProg s).bind (fun p => p.map.map (fun m => m.xclocks))).getD 0 } }
  else
    let s := unstage s
    setPx .idle why { s with px := { s.px with cancels := satAdd s.px.cancels 1 0xFFFF } }

/-- STAGING_DONE (R328). -/
def execStagingDone (t : Nat) (s : State) : Host.Outcome State Fault Refusal :=
  let s := elapse t s
  .next (if s.px.state = .staging then endStaging s else s)

/-- PROPOSE is accepted (R331). -/
def proposable (s : State) : Bool :=
  let d := (s.px.target - s.keep.lastCommit.getD 0).toNat
  crowned s && s.px.state == .staged && s.crown.ho.isNone && decide (32 ≤ d) && decide (d ≤ 0xFFFFF)

/-- A write of GLB_PX_CTL.PROPOSE (R331, R332). -/
def writePropose (h : HostId) (s : State) : State × Nat :=
  if proposable s then
    let s := setPx .proposed 0 { s with px := { s.px with h := s.px.target } }
    done (if hasPartner s then s else setPx .agreed 0 s)
  else hostRefused 0x000044 h s

/-- PX_PROPOSE (R331). -/
def execPxPropose (t : Nat) (h : HostId) (s : State) : Host.Outcome State Fault Refusal :=
  .next (hostWrite h 0x000044 (writePropose h) (elapse t s))

/-- A standby that sends READY withdraws it: its next record tells CANCEL for the holder's h, and the holder returns to
STAGED (R334). -/
def withdrawReady (s : State) : State :=
  { s with px := { s.px with
      cancel := some s.px.partner.cycle, reason := 0x0A, cancels := satAdd s.px.cancels 1 0xFFFF } }

/-- A write of GLB_PX_CTL.CANCEL (R334, R347). -/
def writePxCancel (h : HostId) (s : State) : State × Nat :=
  if s.px.state = .switching then hostRefused 0x000044 h s
  else done (if sendsReady s then withdrawReady s else cancelPx 0x0A s)

/-- PX_CANCEL (R334). -/
def execPxCancel (t : Nat) (h : HostId) (s : State) : Host.Outcome State Fault Refusal :=
  .next (hostWrite h 0x000044 (writePxCancel h) (elapse t s))

/-- B(h + 1) − 1 µs has come (R335). -/
def goLate (s : State) : Bool :=
  (s.cyc.n == s.px.h && decide (s.cyc.b + tProg s ≤ ringNow s + 1000)) || cycleBefore s.px.h s.cyc.n

/-- PX_GO_DEADLINE (R335). -/
def execPxGoDeadline (t : Nat) (s : State) : Host.Outcome State Fault Refusal :=
  let s := elapse t s
  .next (
    if !crowned s && s.px.state == .agreed && s.px.partnerCycle != s.px.h && goLate s then enterOut (cancelPx 0x0B s) else s)

/-- BANK_DIRECTORY_UPDATE (R322): within 100 ms after a switch. -/
def execBankDirectoryUpdate (t : Nat) (s : State) : Host.Outcome State Fault Refusal :=
  let s := elapse t s
  .next (if s.px.dirAt.isSome then
      { s with dir := { s.dir with active := s.keep.bank }, px := { s.px with dirAt := none } }
    else s)

/-- A read of GLB_PX_ID_LO or GLB_PX_SID_LO latches its _HI register (R347). -/
def pxIdLo (sid : Bool) (s : State) : State × W32 :=
  let id := if sid then stagedId s else programId s
  let hi := id.extractLsb' 32 32
  ({ s with px := if sid then { s.px with sidHi := hi } else { s.px with idHi := hi } }, id.extractLsb' 0 32)

/-- PX_ID_LO_READ (R347). -/
def execPxIdLoRead (t : Nat) (h : HostId) (sid : Bool) (s : State) : Host.Outcome State Fault Refusal :=
  .next (hostRead h (if sid then 0x00005C else 0x000054) (pxIdLo sid) (elapse t s))

end Sys2Proof.Machine
end

