-- ==== Sys2Proof/Machine/Update.lean ====
section
/-! DEFINITION. The update loader (R474 to R491): sessions, recovery requests, pair information, UPD_CTL. -/
namespace Sys2Proof.Machine

/-! ### Opening a session -/

/-- The challenge drawn for a source. -/
def chalOf (src : UpdSrc) (u : Upd) : Option Challenge :=
  match src with
  | .eth => u.chalEth
  | .partner => u.chalPl

/-- Replaces the challenge of a source. -/
def putChal (src : UpdSrc) (c : Option Challenge) (u : Upd) : Upd :=
  match src with
  | .eth => { u with chalEth := c }
  | .partner => { u with chalPl := c }

/-- A HELLO is answered with a fresh challenge, valid for 60 s (R475, R476); none is drawn while scan is enabled (R506). -/
def hello (src : UpdSrc) (item : Byte) (s : State) : State :=
  if s.test.scanEn then s else
  let c : Challenge := { value := Config.challenge s.free, what := item.toNat, operator := 0, upTo := s.clk.lifeUs + 60000000 }
  let s := { s with upd := putChal src (some c) s.upd, free := s.free + 1 }
  updSend src (updMsg 0x02 item.toNat 0 0 20 0 (leBytes 4 s.fuse.rank.toNat ++ leBytes 16 c.value.toNat)) s

/-- UPD_HELLO (R475). -/
def execUpdHello (t : Nat) (src : UpdSrc) (item : Byte) (s : State) : Host.Outcome State Fault Refusal :=
  let s := elapse t s
  .next (if heardFrom src s then hello src item s else s)

/-- UPDATE_ALLOW is 1 and OPT_FAIL is not set (R447, R474). -/
def updateAllowed (s : State) : Bool := s.opt.flags.getLsbD 1 && !s.opt.fail

/-- The exchange state forbids a write of the inactive bank (R324). -/
def exchangeForbids (s : State) : Bool := s.px.state != .idle && s.px.state != .staged

/-- The crown unit is CANDIDATE or CROWNED. -/
def takesOrHolds (s : State) : Bool := crowned s || s.crown.state == .candidate

/-- The status that refuses an OPEN (R474); 0 when none does. -/
def openStatus (src : UpdSrc) (item : Nat) (s : State) : Nat :=
  if !updateAllowed s then stStateRefused
  else if takesOrHolds s && item != 3 then stStateRefused
  else if exchangeForbids s && item == 3 then stStateRefused
  else if s.test.running then stTestBusy
  else if s.upd.lock.isSome then stBusy
  else if s.rst.recovery && (item == 3 || item == 4 || (item == 2 && src == .eth)) then stStateRefused
  else stOk

/-- An OPEN is authorised (R476): in recovery mode always, else by a valid challenge, whatever item its HELLO named, and a
signature over this OPEN. -/
def openAuthorised (src : UpdSrc) (item length : Nat) (version check op : W32) (sig : List Byte) (s : State) : Bool :=
  s.rst.recovery ||
  (match chalOf src s.upd with
    | none => false
    | some c =>
      decide (s.clk.lifeUs < c.upTo)
        && Config.ecdsaVerify s.fuse.authKey
          (leBytes 4 s.fuse.rank.toNat ++ leBytes 1 item ++ leBytes 4 length ++ leBytes 4 version.toNat
            ++ leBytes 4 check.toNat ++ leBytes 4 op.toNat ++ leBytes 16 c.value.toNat) sig)

/-- Which command type a service is for the cells of R417: Ethernet services by port, the partner link's as 0. -/
def serviceType (port : Nat) : Nat := 0x1000000 + port

/-- A service request that the present state forbids (R417); Ethernet ones are counted in ETH_CMD. -/
def serviceRefused (port who : Nat) (eth : Bool) (s : State) : State :=
  let s := if eth then
      { s with eth := { s.eth with cmd := { s.eth.cmd with stateRef := satAdd s.eth.cmd.stateRef 1 0xF } } }
    else s
  refusalCell (serviceType port) who (fire 56 s)

/-- An OPEN is answered; BUSY is counted and raises source 70 (R477, R493). -/
def openAck (src : UpdSrc) (item status : Nat) (s : State) : State :=
  let s := updSend src (updMsg 0x04 item status 0 0 0 []) s
  if status = stBusy then fire 70 { s with upd := { s.upd with busy := satAdd s.upd.busy 1 0xFF } }
  else if status = stStateRefused then
    (match src with
      | .eth => serviceRefused 47120 4 true s
      | .partner => serviceRefused 0 5 false s)
  else s

/-- A source takes the update lock (R477). -/
def takeLock (src : UpdSrc) (item length : Nat) (version check : W32) (s : State) : State :=
  openAck src item stOk { s with upd := { s.upd with
    phase := .receiving, lock := some src, item := item, length := length, version := version, check := check, bytes := []
    msgAt := s.clk.now } }

/-- The Ethernet source opened in the same tick as an OPEN of the partner link, which has precedence (R477). -/
def sameTick (src : UpdSrc) (s : State) : Bool :=
  src == .partner && s.upd.lock == some .eth && s.upd.phase == .receiving && s.upd.bytes.isEmpty
    && decide (s.upd.msgAt / 1000 = s.clk.now / 1000)

/-- An OPEN (R474 to R477); its challenge serves it alone. -/
def openSession (src : UpdSrc) (item length : Nat) (version check op : W32) (sig : List Byte) (s : State) : State :=
  let auth := openAuthorised src item length version check op sig s
  let old := s.upd.item
  let s := { s with upd := putChal src none s.upd }
  if s.test.scanEn then openAck src item stStateRefused s
  else if !auth then
    let s := openAck src item stAuthFailed s
    { s with upd := { s.upd with failed := satAdd s.upd.failed 1 0xFF } }
  else if sameTick src s && openStatus src item { s with upd := { s.upd with lock := none } } == stOk then
    takeLock src item length version check (openAck .eth old stBusy s)
  else
    let st := openStatus src item s
    if st = stOk then takeLock src item length version check s else openAck src item st s

/-- UPD_OPEN (R477). A message that names no item of R474 opens nothing. -/
def execUpdOpen (t : Nat) (src : UpdSrc) (item : Byte) (length version check op : W32) (sig : List Byte) (s : State) :
    Host.Outcome State Fault Refusal :=
  let s := elapse t s
  .next (
    if heardFrom src s ∧ 1 ≤ item.toNat ∧ item.toNat ≤ 4 then
      openSession src item.toNat length.toNat version check op sig s
    else s)

/-! ### Receiving -/

/-- The source holds the lock and is sending its item. -/
def receiving (src : UpdSrc) (s : State) : Bool := s.upd.lock == some src && s.upd.phase == .receiving && heardFrom src s

/-- A DATA message (R478). -/
def takeData (offset : Nat) (payload : List Byte) (s : State) : State :=
  let n := s.upd.bytes.length
  if offset ≠ n then abortSession updSeqGap s
  else if s.upd.length < n + payload.length then abortSession updImageBad s
  else { s with upd := { s.upd with bytes := s.upd.bytes ++ payload, msgAt := s.clk.now } }

/-- UPD_DATA (R478). -/
def execUpdData (t : Nat) (src : UpdSrc) (offset : W32) (payload : List Byte) (s : State) : Host.Outcome State Fault Refusal :=
  let s := elapse t s
  .next (if receiving src s then takeData offset.toNat payload s else s)

/-- UPD_CLOSE (R479): the checks begin. -/
def execUpdClose (t : Nat) (src : UpdSrc) (s : State) : Host.Outcome State Fault Refusal :=
  let s := elapse t s
  .next (if receiving src s then { s with upd := { s.upd with phase := .checking, msgAt := s.clk.now } } else s)

/-- UPD_ABORT_MSG (R475, R478): the source ends its session. -/
def execUpdAbortMsg (t : Nat) (src : UpdSrc) (status : Byte) (s : State) : Host.Outcome State Fault Refusal :=
  let s := elapse t s
  .next (
    if s.upd.lock = some src ∧ heardFrom src s = true then releaseLock false status.toNat s else s)

/-- UPD_SESSION_TIMEOUT (R478): 10 s without a message, or the partner link out of sync for 1 s. -/
def execUpdSessionTimeout (t : Nat) (s : State) : Host.Outcome State Fault Refusal :=
  let s := elapse t s
  .next (
    let quiet := s.upd.phase == .receiving && decide (s.upd.msgAt + 10000000000 ≤ s.clk.now)
    let cut := s.upd.lock == some .partner && (match s.upd.linkAt with
      | some x => decide (x + 1000000000 ≤ s.clk.now)
      | none => false)
    if quiet || cut then abortSession updTimeout s else s)

/-! ### Checks (R479) -/

/-- FIRMWARE. -/
def firmwareStatus (b : List Byte) (s : State) : Nat :=
  let img := b.drop 256
  if decide (256 ≤ b.length) && decide (leAt b 0 4 = 0x57465456) && decide (leAt b 8 4 + 256 = b.length)
      && decide ((fwImageCheck b img).toNat = leAt b 20 4) && fwSignatureOk s b img && decide (s.fuse.floor.toNat ≤ leAt b 4 4)
      && decide (leAt b 24 4 = 0xFFFFFFFF) then stOk
  else updImageBad

/-- The settings schemas that can be read: those of the running firmware, in recovery mode those of the code store's. -/
def schemaRange (s : State) : Nat × Nat :=
  if s.rst.recovery then ((fwHeader s).map (fun h => (leAt h 12 2, leAt h 14 2))).getD (0, 0)
  else (s.upd.schemaMin, s.upd.schemaMax)

/-- A settings block may follow the one in force (R479, R486). -/
def settingsFollow (recovery : Bool) (old : Option Settings) (x : Settings) : Bool :=
  match old with
  | none => true
  | some y => newerSeq x.seq y.seq && (recovery || x.fromId == y.id) && (!x.rolling || rollingTrue y x)

/-- SETTINGS (R472). -/
def settingsStatus (b : List Byte) (s : State) : Nat :=
  let r := schemaRange s
  if !copyCrcOk b then updImageBad
  else if leAt b 4 2 < r.1 ∨ r.2 < leAt b 4 2 then updSchema
  else match readCopy r.1 r.2 b with
    | none => updImageBad
    | some x => if settingsFollow s.rst.recovery s.set.block x then stOk else updImageBad

/-- PROGRAM: the image followed by its IMG_CHECK (R459). -/
def programStatus (b : List Byte) : Nat :=
  let n := b.length - 4
  let img := b.take n
  if decide (b.length ≤ 0x800000) && hdrCheckOk img && headerOk img && decide ((imgCheckOf img).toNat = leAt b n 4) then stOk
  else updImageBad

/-- OPTIONS (R445). -/
def optionsStatus (b : List Byte) (s : State) : Nat :=
  if optionsValid b && decide (leAt b 0 2 = (s.opt.seq + 1) % 0x10000) then stOk else updImageBad

/-- The status after the checks at CLOSE: all of LENGTH received, the item check equal on two lanes, the item's own. -/
def itemStatus (lanesEqual : Bool) (s : State) : Nat :=
  let b := s.upd.bytes
  if b.length ≠ s.upd.length ∨ lanesEqual = false then updImageBad
  else match s.upd.item with
    | 1 => firmwareStatus b s
    | 2 => settingsStatus b s
    | 3 => if exchangeForbids s then stStateRefused else programStatus b
    | _ => optionsStatus b s

/-! ### Writing (R480) -/

/-- Erases a range of the code store. -/
def storeErase (a n : Nat) (s : State) : State := { s with store := tabFilter (fun k => k < a || a + n ≤ k) s.store }

/-- Erases a range and writes bytes at its start. -/
def storeProgram (a n : Nat) (b : List Byte) (s : State) : State := storeWrite a b (storeErase a n s)

/-- A write of the inactive bank takes a staged one back to IDLE (R324). -/
def dropStaged (s : State) : State := if s.px.state = .staged then setPx .idle 0 (unstage s) else s

/-- The write begins: the firmware's header block is erased first; a staged bank ceases to be staged (R324). -/
def beginWrite (s : State) : State :=
  let s := { s with upd := { s.upd with phase := .writing } }
  if s.upd.item = 1 then storeErase fwAddr 0x20000 s
  else if s.upd.item = 3 then dropStaged s
  else s

/-- UPD_CHECKS_DONE (R479). -/
def execUpdChecksDone (t : Nat) (lanesEqual : Bool) (s : State) : Host.Outcome State Fault Refusal :=
  let s := elapse t s
  .next (
    if s.upd.phase ≠ .checking then s
    else
      let st := itemStatus lanesEqual s
      if st = stOk then beginWrite s else resultSession st s)

/-- An option copy as written: the bytes and their check with its own address (R444). -/
def writeOptions (n : Nat) (b : List Byte) (s : State) : State :=
  storeProgram (optAddr n) 0x20000 (b ++ leBytes 4 (checkOf 0x0E (optAddr n) 0 b).toNat) s

/-- A settings copy as written. -/
def writeSettings (n : Nat) (b : List Byte) (s : State) : State :=
  storeProgram (if n = 0 then s.opt.set0 else s.opt.set1) 0x100000 b s

/-- The item stands in the code store, in the order of R480. -/
def writeItem (s : State) : State :=
  let b := s.upd.bytes
  match s.upd.item with
  | 1 => bumpCounter 6 (storeWrite fwAddr (b.take 256) (storeProgram (fwAddr + 256) (0x2000000 - 256) (b.drop 256) s))
  | 2 => if s.set.used = 1 then writeSettings 1 b (writeSettings 0 b s) else writeSettings 0 b (writeSettings 1 b s)
  | 3 =>
    let n := !s.keep.bank
    let s := storeProgram (mirrorAddr n) 0x800000 b (storeProgram (bankAddr n) 0x800000 b s)
    { s with dir := if n then { s.dir with len1 := b.length - 4 } else { s.dir with len0 := b.length - 4 } }
  | _ => writeOptions 0 b (writeOptions 1 b s)

/-- RESULT after a write; with OK in recovery mode the boot ROM takes an SW_COLD reset (R491). A program write that meets an
exchange state which forbids it, staged meanwhile, has no effect (R324). -/
def endWrite (good : Bool) (s : State) : State :=
  if s.upd.item = 3 ∧ exchangeForbids s = true then resultSession stStateRefused s
  else if good then
    let inRecovery := s.rst.recovery
    let s := resultSession stOk (writeItem (if s.upd.item = 3 then dropStaged s else s))
    if inRecovery then releaseAndReset 6 s else s
  else resultSession updWriteFailed s

/-- UPD_WRITE_DONE (R480): `good` is that every read-back is equal after the workers' retries. -/
def execUpdWriteDone (t : Nat) (good : Bool) (s : State) : Host.Outcome State Fault Refusal :=
  let s := elapse t s
  .next (if s.upd.phase = .writing then endWrite good s else s)

/-! ### UPD_CTL (R478, R484, R488) -/

/-- The effect of a write of UPD_CTL. -/
def updCtl (h : HostId) (w : W32) (s : State) : State × Nat :=
  let keyed := decide (bits w 31 16 = 0x5A3C)
  let restart := keyed && bit w 2
  let recover := keyed && bit w 1
  if (restart || recover) && takesOrHolds s then hostRefused 0x110020 h s
  else
    let s := if bit w 0 then abortSession updHost s else s
    let s := if restart && s.test.due.isNone then
        { s with test := { s.test with due := some s.clk.now, reason := 2, andThen := true } }
      else s
    done (if recover then
        releaseAndReset 6 { s with keep := { s.keep with reason := 4, recoverAsked := true } }
      else s)

/-- A host writes UPD_CTL. A RESTART written while the self-test runs is ignored and counted (R499). -/
def writeUpdCtl (h : HostId) (w : W32) (s : State) : State :=
  let s := if hostOpen s && s.test.running && decide (bits w 31 16 = 0x5A3C) && bit w 2 then
      { s with hp := { s.hp with stateRef := satAdd s.hp.stateRef 1 0xFFFF } }
    else s
  hostWrite h 0x110020 (updCtl h w) s

/-- UPD_CTL_ABORT (R478). -/
def execUpdCtlAbort (t : Nat) (h : HostId) (s : State) : Host.Outcome State Fault Refusal :=
  .next (writeUpdCtl h 1 (elapse t s))

/-- A word with a key in its upper half. -/
def keyed (key : W16) (low : Nat) : W32 := BitVec.ofNat 32 (key.toNat * 0x10000 + low)

/-- UPD_CTL_RESTART (R484). -/
def execUpdCtlRestart (t : Nat) (h : HostId) (key : W16) (s : State) : Host.Outcome State Fault Refusal :=
  .next (writeUpdCtl h (keyed key 4) (elapse t s))

/-- UPD_CTL_RECOVER (R488). -/
def execUpdCtlRecover (t : Nat) (h : HostId) (key : W16) (s : State) : Host.Outcome State Fault Refusal :=
  .next (writeUpdCtl h (keyed key 2) (elapse t s))

/-! ### Recovery between partners (R490) -/

/-- A time set before has lain at least n ns back. -/
def passed (x : Option Nat) (n : Nat) (s : State) : Bool :=
  match x with
  | some y => decide (y + n ≤ s.clk.now)
  | none => true

/-- RECOVERY_REQ_SEND (R490). -/
def execRecoveryReqSend (t : Nat) (s : State) : Host.Outcome State Fault Refusal :=
  let s := elapse t s
  .next (
    if s.rst.recovery && passed s.upd.reqAt 100000000 s then
      let r := s.keep.reason
      let v := if r = 2 then ((fwHeader s).map (fun h => leAt h 4 4)).getD 0 else 0
      updSend .partner (updMsg 0x09 (if r = 3 then 2 else 1) r 0 0 v []) { s with upd := { s.upd with reqAt := some s.clk.now } }
    else s)

/-- The DATA messages of an item. -/
def dataMsgs (item : Nat) : Nat → Nat → List Byte → List (List Byte)
  | 0, _, _ => []
  | fuel + 1, off, b =>
    if b.isEmpty then []
    else
      let c := b.take 1024
      updMsg 0x05 item 0 off c.length 0 c :: dataMsgs item fuel (off + c.length) (b.drop 1024)

/-- The session a partner opens to a module in recovery mode, which needs no authorisation (R476, R490). -/
def returnItem (item version : Nat) (b : List Byte) (s : State) : State :=
  let auth := leBytes 4 (crc32c b).toNat ++ leBytes 4 0 ++ leBytes 64 0
  let msgs := [updMsg 0x03 item 0 0 b.length version auth] ++ dataMsgs item (b.length / 1024 + 1) 0 b ++ [updMsg 0x06 item 0 0 0 0 []]
  msgs.foldl (fun s m => updSend .partner m s) { s with upd := { s.upd with returned := true } }

/-- What the partner returns (R490): a valid header and image of another VERSION, or the settings copy in force. -/
def answerRecovery (item : Nat) (version : W32) (s : State) : State :=
  if item = 1 then
    match fwHeader s with
    | none => s
    | some h =>
      let img := fwImage s h
      if decide (leAt h 24 4 ≠ 0) && decide ((fwImageCheck h img).toNat = leAt h 20 4) && fwSignatureOk s h img
          && decide (leAt h 4 4 ≠ version.toNat) then returnItem 1 (leAt h 4 4) (h ++ img) s
      else s
  else if s.set.used ≤ 1 then returnItem 2 ((s.set.block.map (fun b => b.seq)).getD 0) (copyBytes s s.set.used) s
  else s

/-- A RECOVERY_REQ of the partner (R490). -/
def takeRecoveryReq (item : Nat) (version : W32) (reason : Nat) (s : State) : State :=
  if s.rst.stage ≠ .ready then s
  else
    let s := if s.upd.reqSeen then s
      else fire 71 (record 0 .fwPartner [item, reason] { s with upd := { s.upd with reqSeen := true, returned := false } })
    if (setOf s).autoReturn && s.upd.lock.isNone && !s.upd.returned then answerRecovery item version s else s

/-- RECOVERY_REQ (R490). -/
def execRecoveryReq (t : Nat) (x : Rcv) (item : Byte) (version : W32) (reason : Byte) (s : State) :
    Host.Outcome State Fault Refusal :=
  .next (takeRcv x (takeRecoveryReq item.toNat version reason.toNat) (elapse t s))

/-- PAIR_INFO_SEND (R475): every 1 s while the firmware runs. -/
def execPairInfoSend (t : Nat) (s : State) : Host.Outcome State Fault Refusal :=
  let s := elapse t s
  .next (
    if s.rst.stage == .ready && passed s.upd.pairAt 1000000000 s then
      updSend .partner (updMsg 0x0A 0 0 0 4 s.upd.fwRun.toNat (leBytes 2 s.upd.pairLevel ++ leBytes 2 s.upd.pairMin))
        { s with upd := { s.upd with pairAt := some s.clk.now } }
    else s)

/-- The partner's firmware is pair-compatible with this module's (R482). -/
def pairCompatible (level least : Nat) (s : State) : Bool := decide (s.upd.pairMin ≤ level) && decide (least ≤ s.upd.pairLevel)

/-- PAIR_INFO (R482): the partner runs its firmware, so an earlier recovery of it is over. -/
def execPairInfo (t : Nat) (x : Rcv) (_version : W32) (level least : W16) (s : State) : Host.Outcome State Fault Refusal :=
  .next (takeRcv x (fun s =>
    if s.rst.stage ≠ .ready then s
    else
      let bad := s.crown.state == .seeking && !pairCompatible level.toNat least.toNat s
      { s with upd := { s.upd with reqSeen := false, returned := false, pairMismatch := bad } }) (elapse t s))

end Sys2Proof.Machine
end

