-- ==== Sys2Proof/Machine/SelfTest.lean ====
section
/-! DEFINITION. The shut-down self-test, authorisations, scan, injection, override and the analogue buses (R494 to R512). -/
namespace Sys2Proof.Machine

/-! ### Ordering and starting the test (R494, R495) -/

/-- The effect of a write of ST_CTL (R494, R499). -/
def stCtl (h : HostId) (w : W32) (s : State) : State × Nat :=
  if bits w 31 16 ≠ 0x7E51 ∨ bit w 0 = false then done s
  else if takesOrHolds s || s.test.running then hostRefused 0x120004 h s
  else if s.test.due.isSome then done s
  else done { s with test := { s.test with due := some s.clk.now, reason := 3, andThen := bit w 1 } }

/-- ST_STOP (R494). -/
def execStStop (t : Nat) (h : HostId) (key : W16) (andThen : Bool) (s : State) : Host.Outcome State Fault Refusal :=
  .next (hostWrite h 0x120004 (stCtl h (keyed key (1 + 2 * b2n andThen))) (elapse t s))

/-- An ordered test may begin (R481, R494). -/
def testMayStart (s : State) : Bool :=
  s.test.due.isSome && !s.test.running && s.rst.stage == .ready && !takesOrHolds s && s.upd.phase != .writing

/-- The logic engines stop. -/
def stopEngines (s : State) : State :=
  { s with eng := s.eng.map (fun _ e => { e with run := .stopped }), cyc := { s.cyc with on := false, phase := .idle } }

/-- The test begins (R495): RELEASE, crown unit OFF, repeat-through, engines stopped, DONE cleared, the cell. -/
def startTest (s : State) : State :=
  let s := abortSession stTestBusy s
  let s := crownOff (send .release s)
  let s := stopEngines { s with ring := s.ring.map (fun _ p => { p with released := false, toWin := false, claim := {}, wrapped := none, healReady := false }) }
  let s := dropPermits s
  let s := { s with
    keep := { s.keep with testRec :=
      { version := s.upd.fwRun, check := s.upd.fwCheck, start := s.clk.lifeUs, reason := s.test.reason } }
    test := { s.test with state := .running, running := true, due := none, step := 1, frameAt := s.clk.now } }
  record 0 .testStart [s.test.reason] s

/-- SELFTEST_START (R495). -/
def execSelftestStart (t : Nat) (s : State) : Host.Outcome State Fault Refusal :=
  let s := elapse t s
  .next (if testMayStart s then startTest s else s)

/-! ### The steps (R496, R497, R500, R501) -/

/-- How many entries a step makes. -/
def stepEntries (step : Nat) : Nat := if step ≤ 3 then 3 else if step ≤ 5 then 1 else 0

/-- A ring port is looped in step 5 (R193, R497): its ring is not wrapped at it (in repeat-through, where no port wraps,
neither side is broken: DEDUCED, log entry 177), and no frame with DUAL = 1 arrived within 2.5 s. -/
def loops (s : State) (r : Ring) : Bool :=
  let p := s.ring.at r
  p.wrapped.isNone && p.syncF && p.syncB && !p.faultF && !p.faultB && (match s.test.dualAt.at r with
    | some x => decide (x + 2500000000 ≤ s.clk.now)
    | none => true)

/-- The loopback of step 5 begins. -/
def startLoop (s : State) : State :=
  { s with test := { s.test with looped := s.ring.map (fun r _ => loops s r), loopAt := some s.clk.now } }

/-- The loopback ends: the ports forward again. -/
def endLoop (s : State) : State :=
  { s with test := { s.test with looped := ⟨false, false, false, false⟩, loopAt := none } }

/-- The end of the test (R500): an SW_COLD reset, or STOPPED. -/
def finishTest (s : State) : State :=
  if s.test.andThen then releaseAndReset 6 s else { s with test := { s.test with state := .stopped } }

/-- Step 6 (R501): the end time, the DONE mark, the verdict. -/
def completeTest (s : State) : State :=
  let s := { s with keep := { s.keep with testRec := { s.keep.testRec with stop := s.clk.lifeUs, done := doneMark } } }
  finishTest (bumpCounter 7 (endTest 1 s.keep.testRec.entries s))

/-- A step's entries are written to the record as it completes (R501). -/
def writeEntries (es : List (W32 × W32)) (s : State) : State :=
  { s with keep := { s.keep with testRec :=
      { s.keep.testRec with entries := s.keep.testRec.entries ++ es.take (stepEntries s.test.step) } } }

/-- A step completes (R496). The march test of step 3 destroys the DRAM contents. -/
def stepDone (es : List (W32 × W32)) (s : State) : State :=
  let k := s.test.step
  let s := writeEntries es s
  if 6 ≤ k then completeTest s
  else
    let s := { s with test := { s.test with step := k + 1 } }
    if k = 3 then { s with ret := ⟨{}, {}, {}⟩, lane := s.lane.map (fun _ r => { r with fwCopy := false }) }
    else if k = 4 then startLoop s
    else if k = 5 then endLoop s
    else s

/-- SELFTEST_STEP_DONE (R496). -/
def execSelftestStepDone (t : Nat) (entries : List (W32 × W32)) (s : State) : Host.Outcome State Fault Refusal :=
  let s := elapse t s
  .next (if s.test.state = .running then stepDone entries s else s)

/-- LOOPBACK_END (R497): after 10 ms. -/
def execLoopbackEnd (t : Nat) (s : State) : Host.Outcome State Fault Refusal :=
  let s := elapse t s
  .next (if s.test.loopAt.isSome && passed s.test.loopAt 10000000 s then endLoop s else s)

/-- SELFTEST_CUT_SHORT (R499): no CYCLE frame on any ring in use for 2 × L. -/
def execSelftestCutShort (t : Nat) (s : State) : Host.Outcome State Fault Refusal :=
  let s := elapse t s
  .next (
    if s.test.state = .running ∧ s.test.frameAt + 2 * leaseNs s ≤ s.clk.now then
      releaseAndReset 6 (endTest 1 s.keep.testRec.entries s)
    else s)

/-! ### Authorisations (R505 to R507) -/

/-- CHAL_REQ: a challenge for the purpose and operator, valid for 10 min. -/
def drawChallenge (s : State) : State :=
  if s.test.purpose = 0 then s
  else { s with test := { s.test with chal := some (freshChallenge s.test.purpose.toNat s.test.op s) }, free := s.free + 1 }

/-- The signature of ST_AUTH_SIG verifies for the purpose, operator and challenge. -/
def authSigned (s : State) : Bool :=
  challengeHolds s.test.chal s.test.purpose.toNat s.test.op s
    && Config.ecdsaVerify s.fuse.authKey
      (leBytes 4 s.fuse.rank.toNat ++ leBytes 1 s.test.purpose.toNat ++ challengeBytes s.test.chal ++ leBytes 4 s.test.op.toNat)
      (sigBytes s.test.sig)

/-- Scan is enabled (R505): the secrets are cleared first; a read-back that is not zero leaves scan disabled. -/
def enableScan (cleared : Bool) (s : State) : State :=
  let s := { s with
    comb := { s.comb with chal := none }
    upd := { s.upd with chalEth := none, chalPl := none }
    test := { s.test with chal := none } }
  if cleared then fire 99 { s with test := { s.test with scanEn := true } } else record 0 .scanFail [] s

/-- What an accepted GO does (R505, R508, R511). -/
def grantAuth (cleared : Bool) (s : State) : State :=
  match s.test.purpose.toNat with
  | 1 => enableScan cleared s
  | 2 => { s with test := { s.test with session := some (s.clk.lifeUs + 3600000000, s.test.op) } }
  | 3 => { s with test := { s.test with auth := true } }
  | _ => s

/-- GO is refused by state (R505, R506, R507). -/
def goForbidden (s : State) : Bool :=
  s.test.scanEn || takesOrHolds s || s.test.state == .running || (s.test.purpose == 1 && s.test.state != .stopped)

/-- GO (R507): every one writes a comb 0 cell, and every challenge serves one. -/
def authGo (h : HostId) (cleared : Bool) (s : State) : State × Nat :=
  let cell := fun (ok : Bool) (s : State) => record 0 .authGo [s.test.purpose.toNat, s.test.op.toNat, b2n ok] s
  if goForbidden s then hostRefused 0x120040 h (cell false s)
  else
    let ok := authSigned s
    let s := cell ok { s with test := { s.test with chal := none } }
    if ok then done (grantAuth cleared s) else (s, stAuthFailed)

/-- The effect of a write of ST_AUTH (R507); `cleared` is how the read-backs of R505 end. -/
def stAuth (h : HostId) (cleared : Bool) (w : W32) (s : State) : State × Nat :=
  if bit w 4 && s.test.scanEn then hostRefused 0x120040 h s
  else
    let s1 := { s with test := { s.test with purpose := BitVec.ofNat 2 (bits w 9 8) } }
    let s1 := if bit w 4 then drawChallenge s1 else s1
    if bit w 5 then authGo h cleared s1 else done s1

/-- ST_AUTH_CHAL_REQ (R507). -/
def execStAuthChalReq (t : Nat) (h : HostId) (purpose : BitVec 2) (s : State) : Host.Outcome State Fault Refusal :=
  .next (hostWrite h 0x120040 (stAuth h true (pack [(purpose.toNat, 8), (1, 4)])) (elapse t s))

/-- ST_AUTH_GO (R507). -/
def execStAuthGo (t : Nat) (h : HostId) (purpose : BitVec 2) (cleared : Bool) (s : State) : Host.Outcome State Fault Refusal :=
  .next (hostWrite h 0x120040 (stAuth h cleared (pack [(purpose.toNat, 8), (1, 5)])) (elapse t s))

/-- An instruction is offered outside scan enable (R504). -/
def offered (i : Jtag) : Bool := i == .bypass || i == .idcode || i == .sample

/-- JTAG_INSTRUCTION (R504): an instruction that is not available selects BYPASS (PRESUMED, as IEEE 1149.1). -/
def execJtagInstruction (t : Nat) (i : Jtag) (s : State) : Host.Outcome State Fault Refusal :=
  let s := elapse t s
  .next { s with test := { s.test with jtag := if offered i || s.test.scanEn then i else .bypass } }

/-! ### Injection (R508 to R510) -/

/-- The trap causes of R87. -/
def isTrapCause (d : Nat) : Bool := inBounds 1 7 d || inBounds 0x10 0x15 d || d == 0x20

/-- An injection point of R509. -/
def pointKnown (block det lane arg : Nat) : Bool :=
  let onLane := decide (lane < 3)
  match block with
  | 0x01 => (inBounds 1 3 det && onLane) || inBounds 0x10 0x1A det
  | 0x02 => isTrapCause det && onLane
  | 0x03 => inBounds 1 2 det && onLane
  | 0x04 => inBounds 1 4 det && onLane
  | 0x05 => inBounds 1 3 det && onLane
  | 0x06 => inBounds 1 3 det && decide (arg < 4)
  | 0x07 => det == 1 || (det == 2 && decide (arg < 4))
  | 0x08 => inBounds 1 2 det && decide (arg < 8)
  | 0x09 => det == 1
  | 0x0A => det == 1
  | 0x0B => inBounds 1 2 det && onLane
  | _ => false

/-- A check unit fault is armed (R509). -/
def injectCheck (det : Nat) (l : Lane) (s : State) : State :=
  let x := s.test
  if det = 1 then { s with test := { x with sealWrong := x.sealWrong.put l true } }
  else if det = 2 then { s with test := { x with digestWrong := x.digestWrong.put l true } }
  else { s with test := { x with katWrong := x.katWrong.put l true } }

/-- A ring port fault is injected (R226, R509): a wrong transmitted byte is read back only outside repeat-through, and a
failed HDR_CHECK waits for a frame. -/
def injectPort (det : Nat) (r : Ring) (s : State) : State :=
  if det = 3 then s
  else if det = 2 ∧ roleOf s r = .through then s
  else guardianFault r s

/-- A door guard fault is injected (R274, R509). -/
def injectDoor (det arg : Nat) (s : State) : State :=
  if det = 1 then
    { s with door := { s.door with split := if s.door.split.contains arg then s.door.split else arg :: s.door.split } }
  else { s with door := { s.door with sumX := s.door.sumX.put (ringOf arg) (~~~(doorCheck 0 (ringOf arg) s.door.table)) } }

/-- A fault takes effect (R509, R510). Those of blocks 0x08 to 0x0A, and 0x0603, act in the operation they concern. -/
def applyPoint (block det : Nat) (l : Lane) (arg : Nat) (s : State) : State :=
  match block with
  | 0x05 => injectCheck det l s
  | 0x06 => injectPort det (ringOf arg) s
  | 0x07 => injectDoor det arg s
  | _ => applyFault block det l s

/-- A point whose fault waits for the operation it concerns. -/
def waitsForUse (point : Nat) : Bool := inBounds 0x0801 0x0A01 point || point == 0x0702 || point == 0x0603

/-- An accepted FIRE (R510): the cell, the count, source 98, the fault. -/
def fireInjection (count : Nat) (op : W32) (s : State) : State :=
  let sel := s.test.injSel
  let point := bits sel 15 0
  let lane := bits sel 17 16
  let arg := bits sel 26 18
  let i : Inject := { point := point, lane := lane, arg := arg, ends := s.clk.now + count * tProg s }
  let s := record 0 .injected [point, lane, arg, count, op.toNat, (s.keep.lastCommit.getD 0).toNat] s
  let s := fire 98 { s with test := { s.test with
    injDone := satAdd s.test.injDone 1 0xFFFF
    inj := if 0 < count then some i else none
    once := if count = 0 ∧ waitsForUse point then some i else s.test.once } }
  settleHalt (applyPoint (point / 256) (point % 256) (Lane.ofNum lane) arg s)

/-- FIRE (R499, R509, R510). -/
def injFire (h : HostId) (count : Nat) (s : State) : State × Nat :=
  let sel := s.test.injSel
  let refused := { s with test := { s.test with injRefused := satAdd s.test.injRefused 1 0xFFFF } }
  if !pointKnown (bits sel 15 8) (bits sel 7 0) (bits sel 17 16) (bits sel 26 18) then (refused, stUnmapped)
  else match s.test.session with
    | none => hostRefused 0x120104 h refused
    | some (_, op) =>
      if s.test.inj.isSome ∨ s.test.state = .running then hostRefused 0x120104 h refused
      else done (fireInjection count op { s with test := { s.test with injCount := count } })

/-- The effect of a write of ST_INJ_CTL (R508, R510). -/
def injCtl (h : HostId) (w : W32) (s : State) : State × Nat :=
  let count := bits w 15 8
  if bit w 0 then injFire h count s
  else
    let s := { s with test := { s.test with injCount := count } }
    done (if bit w 1 then { s with test := { s.test with session := none } } else s)

/-- ST_INJ_FIRE (R510). -/
def execStInjFire (t : Nat) (h : HostId) (count : Byte) (s : State) : Host.Outcome State Fault Refusal :=
  .next (hostWrite h 0x120104 (injCtl h (pack [(count.toNat, 8), (1, 0)])) (elapse t s))

/-- ST_INJ_END (R508). -/
def execStInjEnd (t : Nat) (h : HostId) (count : Byte) (s : State) : Host.Outcome State Fault Refusal :=
  .next (hostWrite h 0x120104 (injCtl h (pack [(count.toNat, 8), (1, 1)])) (elapse t s))

/-- INJECT_SESSION_EXPIRY (R508): 60 min after opening. -/
def execInjectSessionExpiry (t : Nat) (s : State) : Host.Outcome State Fault Refusal :=
  let s := elapse t s
  .next (match s.test.session with
    | some (upTo, _) => if upTo ≤ s.clk.lifeUs then { s with test := { s.test with session := none } } else s
    | none => s)

/-- A persisting injection ends (R510). -/
def endInjection (i : Inject) (s : State) : State :=
  let l := Lane.ofNum i.lane
  let x := { s.test with inj := none }
  let s := { s with test :=
      if i.point = 0x0501 then { x with sealWrong := x.sealWrong.put l false }
      else if i.point = 0x0502 then { x with digestWrong := x.digestWrong.put l false }
      else if i.point = 0x0503 then { x with katWrong := x.katWrong.put l false }
      else x }
  if i.point = 0x0702 then
    { s with door := { s.door with sumX := s.door.sumX.put (ringOf i.arg) (doorCheck 0 (ringOf i.arg) s.door.table) } }
  else s

/-- INJECTION_END (R510): COUNT program cycles have passed. -/
def execInjectionEnd (t : Nat) (s : State) : Host.Outcome State Fault Refusal :=
  let s := elapse t s
  .next (match s.test.inj with
    | some i => if i.ends ≤ s.clk.now then endInjection i s else s
    | none => s)

/-! ### Override and analogue buses (R511, R512) -/

/-- The effect of a write of ST_OVR (R511). -/
def stOvr (h : HostId) (w : W32) (s : State) : State × Nat :=
  if s.test.state == .stopped && s.test.auth && s.opt.flags.getLsbD 3 then
    done { s with test := { s.test with ovr := bit w 0 } }
  else hostRefused 0x120110 h s

/-- ST_OVR_ARM (R511). -/
def execStOvrArm (t : Nat) (h : HostId) (s : State) : Host.Outcome State Fault Refusal :=
  .next (hostWrite h 0x120110 (stOvr h 1) (elapse t s))

/-- The effect of a write of ST_ATB (R512). -/
def stAtb (h : HostId) (w : W32) (s : State) : State × Nat :=
  if 0x13 < bits w 7 0 ∨ 0x13 < bits w 15 8 then (s, stUnmapped)
  else if takesOrHolds s || s.test.state == .running then hostRefused 0x120120 h s
  else done { s with test := { s.test with atb0 := BitVec.ofNat 8 (bits w 7 0), atb1 := BitVec.ofNat 8 (bits w 15 8) } }

/-- ST_ATB_SELECT (R512). -/
def execStAtbSelect (t : Nat) (h : HostId) (atb0 atb1 : Byte) (s : State) : Host.Outcome State Fault Refusal :=
  .next (hostWrite h 0x120120 (stAtb h (pack [(atb1.toNat, 8), (atb0.toNat, 0)])) (elapse t s))

end Sys2Proof.Machine
end

