-- ==== Sys2Proof/Machine/Workers.lean ====
section
/-! DEFINITION. The workers: scrub, calibration, telemetry, ageing and the margin plan (R515 to R523, R540, R552). -/
namespace Sys2Proof.Machine

/-- Workers run from READY until the start of a shut-down self-test (R516). -/
def workersRun (s : State) : Bool := s.rst.stage == .ready && !s.test.running

/-- The supervisor cluster and the scan engines serve workers, which from D(n) to C(n) they do not (R101, R102). -/
def clusterFree (s : State) : Bool := workersRun s && s.cyc.phase != .voting && s.cyc.phase != .voted

/-- A lane's on-chip stores are open to the scrub: from its END to L(n + 1), after the retentive copy (R101). -/
def storesFree (s : State) (l : Lane) : Bool := (s.eng.at l).run != .running && !copyDue s l

/-- A pass of a task ends (R515): one that has taken longer than its interval is told in comb 1, once for each task and day
(R516). -/
def notePass (task interval : Nat) (s : State) : State :=
  let now := s.clk.lifeUs
  let late := match kvGet s.wk.taskAt task with
    | some x => decide (x + interval < now)
    | none => false
  let told := match kvGet s.wk.taskTold task with
    | some x => decide (now < x + 86400000000)
    | none => false
  let s := { s with wk := { s.wk with
    taskAt := kvPut s.wk.taskAt task now
    taskTold := if late && !told then kvPut s.wk.taskTold task now else s.wk.taskTold } }
  recordIf (late && !told) 1 .taskLate [task] s

/-- The intervals of R515 in µs: of the on-chip scrub, and of the DRAM scrub under the margin plan. -/
def onchipInterval (s : State) : Nat := 400 * tProg s / 1000
def dramInterval (s : State) : Nat := if s.keep.plan.dscrub then 1800000000 else 3600000000

/-! ### Scrub (R517, R518) -/

/-- The DRAM refresh window, scrub and NAND scrub items of the plan, raised once (R521). -/
def raiseDscrub (s : State) : State :=
  if s.keep.plan.dscrub then s else raiseMargin 3 1 (fun p => { p with dscrub := true }) s
def raiseRefresh (s : State) : State :=
  if s.keep.plan.refresh then s else raiseDscrub (raiseMargin 2 1 (fun p => { p with refresh := true }) s)
def raiseNscrub (s : State) : State :=
  if s.keep.plan.nscrub then s else raiseMargin 4 1 (fun p => { p with nscrub := true }) s

/-- DRAM words a lane corrected within 24 h (R521): more than 100 raise the DRAM scrub. -/
def countDram (l : Lane) (words : Nat) (s : State) : State :=
  let now := s.clk.lifeUs
  let d := s.wk.drDay.at l
  let d := if now < d.1 + 86400000000 then (d.1, d.2 + words) else (now, words)
  let s := { s with wk := { s.wk with drDay := s.wk.drDay.put l d } }
  if 100 < d.2 then raiseDscrub s else s

/-- A pass that found nothing beyond single-bit errors, which it corrected. -/
def cleanPass (dram : Bool) (words : Nat) (l : Lane) (s : State) : State :=
  let s := if dram then notePass (3 + l.num) (dramInterval s) s else notePass l.num (onchipInterval s) s
  let w := s.wk
  if dram then
    countDram l words { s with wk := { w with drCorr := satAdd w.drCorr words 0xFFFF, drPass := satAdd w.drPass 1 0xFFFF } }
  else { s with wk := { w with ocCorr := satAdd w.ocCorr words 0xFFFF, ocPass := satAdd w.ocPass 1 0xFFFF } }

/-- A retentive slot stops verifying (R517). -/
def spoilSlot (l : Lane) (slot : Bool) (s : State) : State := updSlot l slot (fun c => { c with spoilt := true }) s

/-- A relocation is counted (R518); the fourth in 30 days raises the NAND scrub (R521). -/
def countReloc (s : State) : State :=
  let now := s.clk.lifeUs
  let ts := now :: s.wk.relocAt.filter (fun x => now < x + 30 * 86400000000)
  let s := { s with wk := { s.wk with relocated := satAdd s.wk.relocated 1 0xFFFF, relocAt := ts.take 4 } }
  if 4 ≤ ts.length then raiseNscrub s else s

/-- A spare block of the code store pool is taken (R518). -/
def takeCodeSpare (s : State) : State :=
  if s.wk.spareCode = 0 then s
  else fireIf (decide (s.wk.spareCode = 376)) 102 { s with wk := { s.wk with spareCode := s.wk.spareCode - 1 } }

/-- A code store block (R518): relocated at 28 corrected bits, retired when its program or erase failed; while the update
loader holds the code store it waits (R396). -/
def codeBlock (bits : Nat) (fail : Bool) (s : State) : State :=
  if s.upd.lock.isSome then s
  else if fail then takeCodeSpare (fire 103 { s with wk := { s.wk with retired := satAdd s.wk.retired 1 0xFFFF } })
  else if 28 ≤ bits ∧ 0 < s.wk.spareCode then countReloc (takeCodeSpare s)
  else s

/-- A comb block (R518). -/
def combBlock (c idx bits : Nat) (fail : Bool) (s : State) : State :=
  if fail then retireCombBlock c idx s
  else if 28 ≤ bits ∧ 0 < s.wk.spareComb then countReloc (takeCombSpare s)
  else s

/-- A comb cell that cannot be read or fails its CHECK is counted in COMB_BAD (R381), once. -/
def badCell (c idx : Nat) (ecc : Bool) (s : State) : State :=
  let a := s.comb.arr c
  match kvGet a.slots idx with
  | none => s
  | some x =>
    if x.bad then s
    else
      let k := s.comb.putArr c { a with slots := kvPut a.slots idx { x with bad := true } }
      { s with comb := if ecc then { k with badEcc := satAdd k.badEcc 1 0xFFFF }
                       else { k with badCheck := satAdd k.badCheck 1 0xFFFF } }

/-- The brood cell of a number is made absent in the capture it belongs to (R354, R517). -/
def loseBrood (num : Nat) (b : Brood) : Brood :=
  if decide (b.num ≤ num) && decide (num < b.num + (b.values.length + 25) / 26) then { b with gone := b.gone ++ [num - b.num] } else b

/-- What a scrub found (R517, R518). -/
def scrubFound (f : ScrubFind) (s : State) : State :=
  match f with
  | .clean dram words l => cleanPass dram words l s
  | .onchip l x => badWord x l s
  | .dram l => laneFault l 4 s
  | .retentive l slot => spoilSlot l slot s
  | .brood num => { s with comb := { s.comb with brood := s.comb.brood.map (loseBrood num) } }
  | .codeBits bits fail => codeBlock bits fail s
  | .combBits c idx bits fail => combBlock c.val idx bits fail s
  | .combCell c idx ecc => badCell c.val idx ecc s

/-- What a scrub works on is open to it now (R101, R102). -/
def scrubOpen (s : State) (f : ScrubFind) : Bool :=
  match f with
  | .clean dram _ l => dram || storesFree s l
  | .onchip l _ => storesFree s l
  | .combCell _ _ _ => clusterFree s
  | _ => true

/-- SCRUB_PASS (R515, R517). -/
def execScrubPass (t : Nat) (f : ScrubFind) (s : State) : Host.Outcome State Fault Refusal :=
  let s := elapse t s
  .next (if workersRun s && scrubOpen s f then scrubFound f s else s)

/-! ### Calibration and telemetry -/

/-- The hottest lane sensor less 6 °C (R530, R551). -/
def lidTemp (x : Tri Int) : Int := max x.a (max x.b x.c) - 6

/-- The temperature estimate and its warning's state (R552). -/
def warm (temp : Int) (s : State) : Pwr :=
  let p := s.pwr
  { p with
    temp := temp, tempMax := max p.tempMax temp
    hotAt := if s.fuse.caseMax < temp then some (p.hotAt.getD s.clk.now) else none
    hotTold := p.hotTold && decide (s.fuse.caseMax - 5 < temp) }

/-- The predicted hold-up has fallen below 2,200 µs (R540). -/
def judgeHoldup (us : Nat) (s : State) : State :=
  let low := decide (us < 2200)
  let new := low && !s.pwr.holdLow
  let s := { s with pwr := { s.pwr with holdUs := us, holdLow := low } }
  if new then fire 109 (record 0 .holdupLow [us] s) else s

/-- The measured clock of a running lane lies beyond ±1 % of its step (R29): LANE_CLOCK fires, once until it is back. -/
def judgeClock (s : State) (l : Lane) : State :=
  let r := laneOf s l
  if s.rst.stage == .ready && r.state != .off && r.clockIn && decide (10000 < r.freqDev.toInt.natAbs) then laneReflex 0x03 l s
  else s

/-- The hold-up that the section which holds up least predicts (R540). -/
def leastHold (m : Measured) : Nat := min m.holdCommon (min m.holdUs.a (min m.holdUs.b m.holdUs.c))

/-- The readings of a calibration (R29, R515, R540, R554). -/
def takeMeasured (m : Measured) (s : State) : State :=
  let s : State := { s with
    lane := s.lane.map (fun l r =>
      let p := s.pwr.paths.at l
      { r with vcoreMv := m.core.at l, freqDev := m.dev.at l, feed := p.feed, vmainOk := Window.feeds p.inputs.main
               vbackOk := Window.feeds p.inputs.back })
    wk := { s.wk with temps := m.temp }
    pwr := warm (lidTemp m.temp) s }
  let s := { s with pwr := { s.pwr with
    mainMv := m.mainMv, backMv := m.backMv, load := m.power, peak := max s.pwr.peak m.power
    sections := m.holdUs, holdCommon := m.holdCommon } }
  settleHalt (lanes.foldl judgeClock (judgeHoldup (leastHold m) s))

/-- CALIBRATION (R515): the first is made before READY (R555); none runs in recovery mode or during the self-test. -/
def execCalibration (t : Nat) (m : Measured) (s : State) : Host.Outcome State Fault Refusal :=
  let s := elapse t s
  .next (if s.rst.powered && !s.rst.recovery && !s.test.running && s.cyc.phase != .voting && s.cyc.phase != .voted
    then takeMeasured m (if s.rst.stage = .ready then notePass 6 10000000 s else s) else s)

/-- The figures of a telemetry cell (R519). -/
def telemetryVals (s : State) : List Nat :=
  lanes.flatMap (fun l =>
    let r := laneOf s l
    [r.vcoreMv, signed 16 (s.wk.temps.at l), r.freqDev.toNat, r.runMax, budget s, (s.port.at l).scanLoad, (s.port.at l).portLoad,
      s.wk.slack.at l, s.keep.plan.ro.at l]) ++ [s.pwr.mainMv, s.pwr.backMv] ++ s.wk.eyeNow

/-- TELEMETRY (R519). -/
def execTelemetry (t : Nat) (s : State) : Host.Outcome State Fault Refusal :=
  let s := elapse t s
  .next (
    let due := match s.wk.telemAt with
      | some x => decide (x + (setOf s).telemMin * 60000000 ≤ s.clk.lifeUs)
      | none => true
    if clusterFree s && due then
      let s := notePass 8 ((setOf s).telemMin * 60000000) s
      fire 104 (record 1 .telemetry (telemetryVals s) { s with wk := { s.wk with telemAt := some s.clk.lifeUs } })
    else s)

/-! ### Ageing (R520 to R523) -/

/-- SLACK_MEASURE (R520): every 1 s. -/
def execSlackMeasure (t : Nat) (ps : Tri Nat) (s : State) : Host.Outcome State Fault Refusal :=
  let s := elapse t s
  .next (if clusterFree s then
      { s with wk := { s.wk with slack := ps, sums := s.wk.sums.map (fun l x => (x.1 + ps.at l, x.2 + 1)) } }
    else s)

/-- A slack of `ps` lies below 8 % of the lane clock period at a step (R520). -/
def slackLow (step ps : Nat) : Bool := decide (ps * stepKhz step < 80000000)

/-- The daily means (R520). -/
def dailyMeans (s : State) : Tri Nat := s.wk.sums.map (fun l x => if x.2 = 0 then s.keep.plan.means.at l else x.1 / x.2)

/-- The clock step that a low daily mean plans (R521). -/
def planStep (s : State) : State :=
  let step := activeStep s
  let p := s.keep.plan
  if p.step = step ∧ step < 2 ∧ lanes.any (fun l => slackLow step (p.means.at l)) = true then
    raiseMargin 1 (step + 1) (fun p => { p with step := step + 1 }) s
  else s

/-- Days until a lane's mean slack reaches its threshold under its slope (R523); none when it does not fall. -/
def daysLeft (step mean : Nat) (slope : Int) : Option Nat :=
  if 0 ≤ slope then none
  else some ((mean * 1000 * stepKhz step - 80000000000) / ((-slope).toNat * stepKhz step))

/-- The worst lane's projection: its days and slope. -/
def forecastOf (s : State) (slope : Tri Int) : Nat × Int :=
  let p := s.keep.plan
  lanes.foldl (fun (m : Nat × Int) l =>
    match daysLeft (activeStep s) (p.means.at l) (slope.at l) with
    | some d => if d ≤ 65534 ∧ d < m.1 then (d, slope.at l) else m
    | none => m) (0xFFFF, 0)

/-- GLB_BUDGET at a clock step (R98). -/
def budgetAt (step : Nat) (s : State) : Nat := if s.glb.valid then 99 * stepKhz step * (tProg s - 36000) / 100000000 else 0

/-- The figures of R523: the active WCET, a staged WCET, and X plus the staged WCET. -/
def ageFigures (s : State) : List Nat :=
  let staged := ((stagedProg s).map (fun p => p.wcet)).getD 0
  [activeWcet s, staged, if staged = 0 then 0 else s.px.xclocks + staged]

/-- AGE_WARN is set and source 100 raised (R520, R523, R531). -/
def ageWarn (s : State) : State := fire 100 (markSet (flagKey 0x130000 16) { s with wk := { s.wk with warned := true } })

/-- The forecast of a day (R523). -/
def forecastDay (slope : Tri Int) (s : State) : State :=
  let f := forecastOf s slope
  let step := activeStep s
  let figs := ageFigures s
  let most := figs.foldl max 0
  let next := if step < 2 then budgetAt (step + 1) s else 0
  let s := { s with wk := { s.wk with forecast := f.1, slope := f.2, figure := next, wcet := most } }
  if 365 < f.1 then { s with wk := { s.wk with cellAt := none } }
  else
    let due := match s.wk.cellAt with
      | some x => decide (x + 30 * 86400000000 ≤ s.clk.lifeUs)
      | none => true
    if !due then s
    else
      let s := record 0 .ageForecast ([step, min 2 (step + 1)] ++ figs ++ [next, f.1]) { s with wk := { s.wk with cellAt := some s.clk.lifeUs } }
      if decide (2 ≤ step) || decide (next < most) then ageWarn s else s

/-- The eye of a link (R520): below 0.250 UI it raises AGE_WARN and names the link. -/
def judgeEye (eyes : List Nat) (s : State) (i : Nat) : State :=
  if nthD 1000 eyes i < 250 then
    ageWarn (record 0 .eyeWarn [i] s)
  else s

/-- A block's read threshold is re-planned, one offset of 8 levels (R520, R521). -/
def planThreshold (s : State) (x : Nat × Nat) : State :=
  raiseMargin 6 (x.2 % 8) (fun p => { p with thresholds := kvPut p.thresholds x.1 (x.2 % 8) }) s

/-- AGEING_DAILY (R520, R521, R523). -/
def execAgeingDaily (t : Nat) (a : Ageing) (s : State) : Host.Outcome State Fault Refusal :=
  let s := elapse t s
  .next (
    if !clusterFree s then s
    else
      let s := notePass 7 86400000000 s
      let now := (List.range 7).map (nthD 1000 a.eyes)
      let means := dailyMeans s
      let s := { s with
        keep := { s.keep with plan := { s.keep.plan with
          means := means, ro := a.ro, eyes := (List.range 7).map (fun i => min (nthD 1000 s.keep.plan.eyes i) (nthD 1000 now i)) } }
        wk := { s.wk with sums := ⟨(0, 0), (0, 0), (0, 0)⟩, eyeNow := now } }
      forecastDay a.slope (planStep ((List.range 7).foldl (judgeEye now) (a.replan.foldl planThreshold s))))

/-- DRAM_RETENTION_TEST (R520, R521): the window of a lane with a failing bit is 32 ms at once. -/
def execDramRetentionTest (t : Nat) (failing : Tri Bool) (s : State) : Host.Outcome State Fault Refusal :=
  let s := elapse t s
  .next (if clusterFree s && (failing.a || failing.b || failing.c) then
      let s := raiseRefresh s
      { s with keep := { s.keep with plan := { s.keep.plan with fast := s.keep.plan.fast.map (fun l x => x || failing.at l) } } }
    else s)

/-- TEMP_HIGH_TIMER (R552): above the limit for 10 s. -/
def execTempHighTimer (t : Nat) (s : State) : Host.Outcome State Fault Refusal :=
  let s := elapse t s
  .next (
    if s.pwr.hotAt.isSome && passed s.pwr.hotAt 10000000000 s && !s.pwr.hotTold then
      fire 110 (record 0 .tempHigh [signed 8 s.pwr.temp] { s with pwr := { s.pwr with hotTold := true } })
    else s)

end Sys2Proof.Machine
end

