-- ==== Sys2Proof/Machine/Time.lean ====
section
/-! DEFINITION. Time-keeping: the life clock, the calendar and its setters, PTP, lifetime counters (R416, R525 to R532). -/
namespace Sys2Proof.Machine

/-! ### The life clock (R525, R526) -/

/-- LIFE_CLOCK_CALIBRATE (R525): the rate is corrected by at most 200 ppm; the count is never stepped. -/
def execLifeClockCalibrate (t : Nat) (ppb : Int) (s : State) : Host.Outcome State Fault Refusal :=
  let s := elapse t s
  .next (if s.rst.powered then { s with clk := { s.clk with lifePpb := clampI 200000 ppb } } else s)

/-- LIFE_CHECKPOINT (R526). -/
def execLifeCheckpoint (t : Nat) (s : State) : Host.Outcome State Fault Refusal := .next (writeCheckpoint (elapse t s))

/-! ### The calendar (R364, R527 to R529) -/

/-- The calendar takes a value from a setter (R364, R527): a step back, or forward by more than 1 ms, is recorded with the
new calendar in its cell, and raises source 106. -/
def setCalendar (setter new : Nat) (s : State) : State :=
  let old := s.clk.calNs
  let s := { s with
    clk := { s.clk with calNs := new, calFrac := 0, calValid := true, calSetter := setter }
    tk := { s.tk with setSecond := some (s.clk.lifeUs / 1000000, setter == 2) } }
  if new < old ∨ old + 1000000 < new then
    fire 106 (recordOwn 0 0x02 (leBytes 8 old ++ leBytes 8 new ++ leBytes 1 setter) s)
  else s

/-- A set or step of the other kind was applied in this second (R529). -/
def setTaken (byPtp : Bool) (s : State) : Bool := s.tk.setSecond == some (s.clk.lifeUs / 1000000, !byPtp)

/-- PTP steers the calendar. -/
def ptpSteers (s : State) : Bool := s.eth.ptpOn && s.eth.ptpLock

/-- A host set or a calendar telegram is refused by state (R529). -/
def setForbidden (s : State) : Bool := ptpSteers s || setTaken false s

/-- The effect of a write of TK_CTL (R527, R529). -/
def tkCtl (h : HostId) (w : W32) (s : State) : State × Nat :=
  if bit w 0 = false then done s
  else if 999999999 < s.tk.setNs.toNat then (s, stUnmapped)
  else if setForbidden s then hostRefused 0x140020 h s
  else done (setCalendar 0 ((s.tk.setHi.toNat * 2 ^ 32 + s.tk.setLo.toNat) * 1000000000 + s.tk.setNs.toNat) s)

/-- TK_CAL_SET (R527). -/
def execTkCalSet (t : Nat) (h : HostId) (s : State) : Host.Outcome State Fault Refusal :=
  .next (hostWrite h 0x140020 (tkCtl h 1) (elapse t s))

/-- The lock to the PTP master changes: source 59 (R418). -/
def setPtpLock (on : Bool) (s : State) : State :=
  if s.eth.ptpLock = on then s else fire 59 { s with eth := { s.eth with ptpLock := on } }

/-- A PTP offset of the calendar from the master (R528): slewed within 1 ms, else stepped at the next whole second; a change
of currentUtcOffset is applied as a step. -/
def steer (offset utc : Int) (s : State) : State :=
  let s := setPtpLock true s
  let moved := s.eth.ptpSeen && s.eth.ptpUtc != utc
  let s := { s with eth := { s.eth with ptpOff := BitVec.ofInt 32 offset, ptpUtc := utc, ptpSeen := true } }
  if moved || decide (1000000 < offset.natAbs) then
    { s with eth := { s.eth with ptpStep := some (-offset, (s.clk.calNs / 1000000000 + 1) * 1000000000) } }
  else { s with clk := { s.clk with calPpb := clampI 500000 (Config.slewPpb 4 offset) } }

/-- The Ethernet services other than the update service run (R414, R489). -/
def ethRuns (s : State) : Bool := s.eth.link && s.rst.stage == .ready

/-- PTP_MESSAGE (R416, R528): an exchange that gives the offset, with the master's currentUtcOffset. -/
def execPtpMessage (t : Nat) (offset utc : Int) (s : State) : Host.Outcome State Fault Refusal :=
  let s := elapse t s
  .next (if ethRuns s && s.eth.ptpOn then steer offset utc s else s)

/-- PTP_LOCK_LOSS (R528): the calendar keeps its latest rate correction. -/
def execPtpLockLoss (t : Nat) (s : State) : Host.Outcome State Fault Refusal :=
  let s := setPtpLock false (elapse t s)
  .next { s with eth := { s.eth with ptpStep := none } }

/-- The step due is applied, unless a set was applied in the same second (R529). -/
def applyPtpStep (s : State) : State :=
  match s.eth.ptpStep with
  | none => s
  | some (d, due) =>
    if s.clk.calNs < due then s
    else
      let s := { s with eth := { s.eth with ptpStep := none } }
      if setTaken true s then s else setCalendar 2 ((s.clk.calNs : Int) + d).toNat s

/-- CALENDAR_STEP_AT_SECOND (R528). -/
def execCalendarStepAtSecond (t : Nat) (s : State) : Host.Outcome State Fault Refusal := .next (applyPtpStep (elapse t s))

/-- CHALLENGE_EXPIRY (R368, R476, R507): a challenge whose time is over is valid no more. -/
def execChallengeExpiry (t : Nat) (s : State) : Host.Outcome State Fault Refusal :=
  let s := elapse t s
  let live := fun (c : Option Challenge) => c.filter (fun x => decide (s.clk.lifeUs < x.upTo))
  .next { s with
    comb := { s.comb with chal := live s.comb.chal }
    test := { s.test with chal := live s.test.chal }
    upd := { s.upd with chalEth := live s.upd.chalEth, chalPl := live s.upd.chalPl } }

/-! ### Lifetime counters (R530) -/

/-- The band of CASE_T0 to CASE_T7. -/
def caseBand (x : Int) : Nat :=
  if x < 0 then 0 else if x < 25 then 1 else if x < 45 then 2 else if x < 60 then 3 else if x < 70 then 4
  else if x < 80 then 5 else if x ≤ 85 then 6 else 7

/-- A counter of a unit of µs takes dt more. -/
def addPart (i unit dt : Nat) (k : Keep) : Keep :=
  let x := nthD 0 k.parts i + dt
  { k with
    parts := setNth k.parts i (x % unit)
    counters := setNth k.counters i (satAdd (nthD 0 k.counters i) (x / unit) 0xFFFFFFFF) }

/-- The hour and minute counters take the time since their latest update. -/
def updateCounters (s : State) : State :=
  let hour := 3600000000
  let dt := s.clk.lifeUs - s.keep.countedAt
  let k := { s.keep with countedAt := s.clk.lifeUs }
  let k := if inputUsable s then addPart 0 hour dt k else k
  let k := if crowned s then addPart 1 hour dt k else k
  let k := if s.vote.mode == .degraded then addPart 2 60000000 dt k else k
  let k := if s.rst.powered then addPart (8 + caseBand s.pwr.temp) hour dt k else k
  { s with keep := k }

/-- LIFETIME_COUNTER_UPDATE (R530): every minute. -/
def execLifetimeCounterUpdate (t : Nat) (s : State) : Host.Outcome State Fault Refusal := .next (updateCounters (elapse t s))

/-! ### Registers whose low half latches (R236, R493, R532) -/

/-- A read of TB_TIME_LO. -/
def tbTimeLo (s : State) : State × W32 :=
  let x := ringNow s
  ({ s with tb := { s.tb with timeHi := BitVec.ofNat 32 (x / 2 ^ 32) } }, BitVec.ofNat 32 x)

/-- TB_TIME_LO_READ (R236). -/
def execTbTimeLoRead (t : Nat) (h : HostId) (s : State) : Host.Outcome State Fault Refusal :=
  .next (hostRead h 0x0C0000 tbTimeLo (elapse t s))

/-- A read of SET_ID_LO or SET_FROM_LO. -/
def setIdLo (src : Bool) (s : State) : State × W32 :=
  let x := if src then (setOf s).fromId else (setOf s).id
  let hi := x.extractLsb' 32 32
  ({ s with set := if src then { s.set with fromHi := hi } else { s.set with idHi := hi } }, x.extractLsb' 0 32)

/-- SET_ID_LO_READ (R493). -/
def execSetIdLoRead (t : Nat) (h : HostId) (src : Bool) (s : State) : Host.Outcome State Fault Refusal :=
  .next (hostRead h (if src then 0x020110 else 0x020108) (setIdLo src) (elapse t s))

/-- A read of TK_LIFE_LO or TK_CAL_SEC_LO: the calendar reads 0 while CAL_VALID is 0. -/
def tkLo (cal : Bool) (s : State) : State × W32 :=
  if cal then
    let ns := if s.clk.calValid then s.clk.calNs else 0
    let sec := ns / 1000000000
    ({ s with tk := { s.tk with calHi := BitVec.ofNat 32 (sec / 2 ^ 32), calNs := BitVec.ofNat 32 (ns % 1000000000) } },
      BitVec.ofNat 32 sec)
  else ({ s with tk := { s.tk with lifeHi := BitVec.ofNat 32 (s.clk.lifeUs / 2 ^ 32) } }, BitVec.ofNat 32 s.clk.lifeUs)

/-- TK_LO_READ (R532). -/
def execTkLoRead (t : Nat) (h : HostId) (cal : Bool) (s : State) : Host.Outcome State Fault Refusal :=
  .next (hostRead h (if cal then 0x140008 else 0x140000) (tkLo cal) (elapse t s))

end Sys2Proof.Machine
end

