-- ==== Sys2Proof/Machine/Power.lean ====
section
/-! DEFINITION. Supplies: the feed of the four paths, SUPPLY_LOST and hold-up, VKEEP (R433, R534 to R538). -/
namespace Sys2Proof.Machine

/-- The feed of a path after its inputs have changed (R535); false VMAIN, true VBACK. -/
def nextFeed (main back : Window) (feed : Bool) : Bool :=
  if feed then
    if main == .settled then false else if !Window.feeds back && Window.feeds main then false else true
  else !Window.feeds main && Window.feeds back

/-- A move of the feed is flagged and told; PWR_SWITCH counts those of the common path (R535, R554). -/
def noteMove (common toBack : Bool) (s : State) : State :=
  let p := s.pwr
  let s := markSet (flagKey 0x140100 4) { s with pwr := { p with
    switched := true, toBack := if common && toBack then satAdd p.toBack 1 0xFFFF else p.toBack
    toMain := if common && !toBack then satAdd p.toMain 1 0xFFFF else p.toMain } }
  fire 107 (record 0 .supplySwitch [b2n toBack] s)

/-- A lane's path after its inputs have changed: it decides its feed alone (R535). -/
def Path.take (x : Inputs) (p : Path) : Path := { inputs := x, feed := nextFeed x.main x.back p.feed }

/-- LANE_SUPPLY shows what the lanes' paths find (R46, R535). -/
def showPaths (s : State) : State :=
  { s with lane := s.lane.map (fun l r =>
      let p := s.pwr.paths.at l
      { r with feed := p.feed, vmainOk := Window.feeds p.inputs.main, vbackOk := Window.feeds p.inputs.back }) }

/-- The inputs have changed at the common path and at the lanes' paths; every path decides its feed from its own monitors
(R535). One command is told once: as a move of the common feed, or of the first lane whose feed moved (log entry 141). -/
def takeSupplies (common : Inputs) (islands : Tri Inputs) (s : State) : State :=
  let old := s.pwr
  let new := nextFeed common.main common.back old.feed
  let paths := old.paths.map (fun l p => p.take (islands.at l))
  let s := showPaths { s with pwr := { old with main := common.main, back := common.back, feed := new, paths := paths } }
  if s.rst.powered = false then s
  else if old.feed ≠ new then noteMove true new s
  else
    match lanes.find? (fun l => (old.paths.at l).feed != (paths.at l).feed) with
    | some l => noteMove false (paths.at l).feed s
    | none => s

/-- SUPPLY_CHANGE (R534, R535). -/
def execSupplyChange (t : Nat) (common : Inputs) (islands : Tri Inputs) (s : State) : Host.Outcome State Fault Refusal :=
  .next (takeSupplies common islands (elapse t s))

/-- SUPPLY_LOST (R536): the monitors of at least two lane islands find neither input usable. -/
def execSupplyLost (t : Nat) (islands : Tri Bool) (s : State) : Host.Outcome State Fault Refusal :=
  let s := elapse t s
  .next (if s.rst.powered && !s.pwr.holdup && decide (2 ≤ countLanes islands.at) then reflex 0x15 .a s else s)

/-- VKEEP_MEASURE (R538): told once for each fall below 2.6 V. -/
def execVkeepMeasure (t : Nat) (mv : Nat) (s : State) : Host.Outcome State Fault Refusal :=
  let s := elapse t s
  .next (
    if !inputUsable s then s
    else
      let low := decide (mv < 2600)
      let new := low && !s.pwr.keepLow
      let s := { s with pwr := { s.pwr with keepMv := mv, keepLow := low } }
      if new then fire 108 (record 0 .vkeepLow [mv] s) else s)

end Sys2Proof.Machine
end

