-- ==== Sys2Proof/Machine/Router.lean ====
section
/-! DEFINITION. The commands of the event router (R419 to R429). -/
namespace Sys2Proof.Machine

/-- Changes a source and notes which IRQ_N are asserted after it. -/
def updSource (n : Nat) (f : Source → Source) (s : State) : State :=
  let s := putSource s n (f (sourceOf s n))
  { s with evr := noteIrq s.evr }

/-- A read of EVR_CLAIMn (R422): the source it returns, which it claims. -/
def claim (n : HostId) (s : State) : State × Nat :=
  match bestFor s.evr n with
  | some k =>
    let s := putSource s k { sourceOf s k with state := .active, claimer := n, period := 0, deliver := 0 }
    let e := { s.evr with irqSeen := s.evr.irqSeen &&& ~~~(1#4 <<< n.val) }
    ({ s with evr := noteIrq e }, k)
  | none =>
    let e := { s.evr with irqSeen := s.evr.irqSeen &&& ~~~(1#4 <<< n.val) }
    ({ s with evr := e }, if s.evr.irqSeen.getLsbD n then 255 else 0)

/-- A source was completed in this clock (R419). -/
def noteDone (now k : Nat) (e : Evr) : Evr := { e with done := if e.doneAt = now then k :: e.done else [k], doneAt := now }

/-- A write of EVR_COMPLETEn (R423, R419): a source its claimer completes goes to IDLE, or back to PENDING and
deliverable at once. -/
def complete (n : HostId) (k : Nat) (s : State) : State :=
  let x := sourceOf s k
  if namedSource k ∧ x.claimer = n ∧ (x.state = .active ∨ x.state = .activePending) then
    if x.state = .active then
      let s := updSource k (fun x => { x with state := .idle }) s
      { s with evr := noteDone s.clk.now k s.evr }
    else updSource k (fun x => { x with state := .pending, period := 1, since := s.clk.now, deliver := 0xF }) s
  else { s with evr := { s.evr with ignored := satAdd s.evr.ignored 1 0xFFFF } }

/-- The echo of an RC read (R408). -/
def echo (h : HostId) (addr : Nat) (w : W32) (s : State) : State :=
  { s with hp := { s.hp with echo := s.hp.echo.put h w, echoAddr := s.hp.echoAddr.put h addr } }

/-- EVENT_SOURCE_FIRE (R419). -/
def execEventSourceFire (t n : Nat) (s : State) : Host.Outcome State Fault Refusal := .next (fire n (elapse t s))

/-- The address of EVR_CLAIMn. -/
def claimAddr (n : HostId) : Nat := 0x030010 + 4 * n.val

/-- A read of EVR_CLAIMn with its echo (R408). -/
def readClaim (h n : HostId) (s : State) : State × W32 :=
  let r := claim n s
  let w := BitVec.ofNat 32 r.2
  (echo h (claimAddr n) w r.1, w)

/-- EVR_CLAIM (R422, R408). -/
def execEvrClaim (t : Nat) (h n : HostId) (s : State) : Host.Outcome State Fault Refusal :=
  .next (hostRead h (claimAddr n) (readClaim h n) (elapse t s))

/-- EVR_COMPLETE (R423). -/
def execEvrComplete (t : Nat) (h n : HostId) (source : Byte) (s : State) : Host.Outcome State Fault Refusal :=
  .next (hostWrite h (0x030020 + 4 * n.val) (fun s => done (complete n source.toNat s)) (elapse t s))

/-- MODERATION_TIMEOUT (R424): MOD_TIME after its first fire a PENDING source is deliverable to every target. -/
def moderationDue (n : Nat) (s : State) : State :=
  let x := sourceOf s n
  if x.state = .pending ∧ x.since + x.modTime * 1000 ≤ s.clk.now then
    updSource n (fun x => { x with deliver := 0xF }) s
  else s

def execModerationTimeout (t n : Nat) (s : State) : Host.Outcome State Fault Refusal := .next (moderationDue n (elapse t s))

/-- HOST_IDLE_N[n] asserted (R425): every PENDING source becomes deliverable to n. -/
def idleAssert (n : HostId) (s : State) : State :=
  let d : BitVec 4 := 1#4 <<< n.val
  let e := { s.evr with
    idle := s.evr.idle ||| d
    src := s.evr.src.map (fun x => (x.1, if x.2.state = .pending then { x.2 with deliver := x.2.deliver ||| d } else x.2)) }
  { s with evr := noteIrq e }

/-- HOST_IDLE_ASSERT (R425). -/
def execHostIdleAssert (t : Nat) (n : HostId) (s : State) : Host.Outcome State Fault Refusal := .next (idleAssert n (elapse t s))

/-- HOST_IDLE_RELEASE (R424). -/
def execHostIdleRelease (t : Nat) (n : HostId) (s : State) : Host.Outcome State Fault Refusal :=
  let s := elapse t s
  .next { s with evr := { s.evr with idle := s.evr.idle &&& ~~~(1#4 <<< n.val) } }

end Sys2Proof.Machine
end

