-- ==== Sys2Proof/Machine/Registers.lean ====
section
/-! DEFINITION. What a write of each host register does (R12 to R16), and the rows that write one register. -/
namespace Sys2Proof.Machine

/-! ### Block by block -/

/-- Identity and global (R25, R328 to R334). -/
def writeGlb (h : HostId) (o : Nat) (w : W32) (s : State) : State × Nat :=
  match o with
  | 0x010 => done (if bit w 2 then { s with glb := { s.glb with svcForced := false } } else s)
  | 0x044 =>
    if bit w 2 then writePxCancel h s else if bit w 1 then writePropose h s else if bit w 0 then writeStage h s else done s
  | 0x048 => done { s with px := { s.px with target := w } }
  | _ => done s

/-- Reset controller (R438, R456): one of COLD and WARM, with the key. -/
def writeRst (h : HostId) (o : Nat) (w : W32) (s : State) : State × Nat :=
  match o with
  | 0x040 =>
    if bit w 0 = bit w 1 then done s
    else softReset (if bit w 0 then 6 else 7) (BitVec.ofNat 16 (bits w 31 16)) h s
  | 0x050 => done { s with rst := { s.rst with fuseSel := bits w 8 0 } }
  | _ => done s

/-- A PENDING source that its changed moderation makes deliverable (R424, R426). -/
def remoderate (x : Source) : Source := if x.state = .pending then { x with deliver := x.deliver ||| moderated x } else x

/-- Changes the source that EVR_SEL selects; a number that names none is not written (R430). -/
def writeSource (f : Source → Source) (s : State) : State :=
  if selShown s then updSource s.evr.sel (fun x => remoderate (f x)) s else s

/-- Software clears COALESCED; a source that coalesces in the same clock stays so (R16). -/
def clearCoalesced (now : Nat) (x : Source) : Source := { x with coalesced := x.coalescedAt == some now && x.coalesced }

/-- Event router (R423, R426, R428, R430). -/
def writeEvr (o : Nat) (w : W32) (s : State) : State × Nat :=
  match o with
  | 0x000 => done { s with evr := noteIrq { s.evr with floor := ⟨bits w 3 0, bits w 7 4, bits w 11 8, bits w 15 12⟩ } }
  | 0x020 => done (complete 0 (bits w 7 0) s)
  | 0x024 => done (complete 1 (bits w 7 0) s)
  | 0x028 => done (complete 2 (bits w 7 0) s)
  | 0x02C => done (complete 3 (bits w 7 0) s)
  | 0x080 => done { s with evr := { s.evr with sel := bits w 7 0 } }
  | 0x084 => done (writeSource (fun x =>
      { x with tier := bits w 27 24, modCount := bits w 23 16, mask := BitVec.ofNat 4 (bits w 11 8), order := bits w 7 0 }) s)
  | 0x088 => done (writeSource (fun x => { x with modTime := bits w 15 0 }) s)
  | 0x08C => done (if bit w 7 then writeSource (clearCoalesced s.clk.now) s else s)
  | _ => done s

/-- Vote unit (R153, R162, R165, R175): once REJOIN_HOLD is cleared a waiting rejoin starts. -/
def writeVote (o : Nat) (w : W32) (s : State) : State × Nat :=
  let v := s.vote
  match o with
  | 0x024 =>
    let s := { s with vote := { v with hold := bit w 0 } }
    done (if bit w 0 then s else tryRejoin s)
  | 0x044 => done { s with vote := { v with src := v.src &&& ~~~(w.setWidth 16 &&& 0x3FFF) } }
  | 0x060 => done { s with vote := { v with readback :=
      ⟨v.readback.a && !bit w 8, v.readback.b && !bit w 9, v.readback.c && !bit w 10⟩ } }
  | _ => done s

/-- A lane status block (R46, R90, R262). -/
def writeLane (l : Lane) (o : Nat) (w : W32) (s : State) : State × Nat :=
  match o with
  | 0x010 => done (updLane l (fun r => { r with fault := r.fault &&& ~~~(w.setWidth 8) }) s)
  | 0x028 => done (if bit w 0 then clrLaneMax l s else s)
  | 0x050 => done { s with tg := s.tg.upd l (fun x => { x with selRing := bits w 9 8, selAddr := bits w 7 0 }) }
  | _ => done s

/-- A ring port's RINGn_CTL (R206, R208, R209). -/
def ringCtl (r : Ring) (w : W32) (s : State) : State :=
  if swiftIdle s r then s else updRing r (fun p =>
    let p := { p with testCycle := bits w 6 4, testReq := bit w 0 }
    if bit w 1 then { p with roundMax := 0, overLimit := false } else p) s

/-- A ring port block (R209, R235). -/
def writeRing (r : Ring) (o : Nat) (w : W32) (s : State) : State × Nat :=
  if swiftIdle s r then done s else
  match o with
  | 0x040 => done (updRing r (fun p => { p with nodeSel := bits w 7 0 }) s)
  | 0x048 => done (ringCtl r w s)
  | 0x100 => done (if bit w 16 then updRing r (fun p => { p with gfault := false }) s else s)
  | _ => done s

/-- Time base (R236). -/
def writeTb (o : Nat) (w : W32) (s : State) : State × Nat :=
  match o with
  | 0x008 => done (if bit w 6 then { s with tb := { s.tb with stepped := false } } else s)
  | _ => done s

/-- Crown unit (R316, R320). -/
def writeCrown (h : HostId) (o : Nat) (w : W32) (s : State) : State × Nat :=
  match o with
  | 0x028 =>
    if bit w 0 && !crowned s then hostRefused 0x0D0028 h s
    else
      let s := { s with crown := { s.crown with hold := bit w 1 } }
      done (if bit w 0 then offerHandover .now s else s)
  | _ => done s

/-- Comb (R368, R371, R377, R380, R383). -/
def writeComb (h : HostId) (o : Nat) (w : W32) (s : State) : State × Nat :=
  if 0x0C0 ≤ o ∧ o ≤ 0x0FC then done { s with comb := { s.comb with sig := setNth s.comb.sig ((o - 0x0C0) / 4) w } }
  else match o with
  | 0x060 => writeFreeze h w s
  | 0x064 => done { s with comb := { s.comb with curSel := bits w 2 0 } }
  | 0x068 => done { s with comb := { s.comb with cursor := bits w 23 0 } }
  | 0x070 => writeClear h w s
  | 0x074 => done { s with comb := { s.comb with authOp := w } }
  | 0x100 => done (snapTrigger (BitVec.ofNat 4 (bits w 3 0)) s)
  | _ => done s

/-- Check units (R399). -/
def writeChk (o : Nat) (w : W32) (s : State) : State × Nat :=
  match o with
  | 0x040 =>
    let s := if bit w 1 then { s with chk := { s.chk with moved := false } } else s
    done (if bit w 0 then { s with chk := { s.chk with test := some [] } } else s)
  | 0x044 => done (testAbsorb (leBytes 4 w.toNat) s)
  | 0x048 => done (testAbsorb (leBytes 2 w.toNat) s)
  | 0x04C => done (testAbsorb (leBytes 1 w.toNat) s)
  | _ => done s

/-- Door guard (R281, R293). -/
def writeDoorBlock (h : HostId) (o : Nat) (w : W32) (s : State) : State × Nat :=
  match o with
  | 0x004 => done (if bit w 8 then { s with door := { s.door with gfault := false } } else s)
  | 0x040 => done { s with door := { s.door with sel := bits w 8 0 } }
  | 0x060 => if bit w 0 then clearUnit true h s else if bit w 1 then clearUnit false h s else done s
  | _ => done s

/-- Self-test and injection (R513). -/
def writeTest (h : HostId) (o : Nat) (w : W32) (s : State) : State × Nat :=
  if 0x080 ≤ o ∧ o ≤ 0x0BC then done { s with test := { s.test with sig := setNth s.test.sig ((o - 0x080) / 4) w } }
  else match o with
  | 0x004 => stCtl h w s
  | 0x020 => done { s with test := { s.test with entSel := bits w 3 0 } }
  | 0x040 => stAuth h true w s
  | 0x044 => done { s with test := { s.test with op := w } }
  | 0x100 => done { s with test := { s.test with injSel := w &&& 0x07FFFFFF } }
  | 0x104 => injCtl h w s
  | 0x110 => stOvr h w s
  | 0x120 => stAtb h w s
  | _ => done s

/-- Workers (R531). -/
def writeWk (o : Nat) (w : W32) (s : State) : State × Nat :=
  match o with
  | 0x000 => done (if bit w 16 then { s with wk := { s.wk with warned := false } } else s)
  | 0x054 => done { s with wk := { s.wk with eyeSel := bits w 3 0 } }
  | _ => done s

/-- Time-keeping and power (R532, R554). -/
def writeTk (h : HostId) (o : Nat) (w : W32) (s : State) : State × Nat :=
  match o with
  | 0x014 => done { s with tk := { s.tk with setLo := w } }
  | 0x018 => done { s with tk := { s.tk with setHi := w } }
  | 0x01C => done { s with tk := { s.tk with setNs := w } }
  | 0x020 => tkCtl h w s
  | 0x024 => done (if bit w 2 then { s with keep := { s.keep with lifeGap := false } } else s)
  | 0x030 => done { s with tk := { s.tk with sel := bits w 4 0 } }
  | 0x100 => done (if bit w 4 then { s with pwr := { s.pwr with switched := false } } else s)
  | _ => done s

/-- A write of a register that exists: its action, none for a register without a writable field (R15). -/
def regAction (h : HostId) (addr : Nat) (w : W32) (s : State) : State × Nat :=
  let o := addr % 0x10000
  match addr / 0x10000 with
  | 0x00 => writeGlb h o w s
  | 0x01 => writeRst h o w s
  | 0x03 => writeEvr o w s
  | 0x04 => writeVote o w s
  | 0x05 => writeLane .a o w s
  | 0x06 => writeLane .b o w s
  | 0x07 => writeLane .c o w s
  | 0x08 => writeRing 0 o w s
  | 0x09 => writeRing 1 o w s
  | 0x0A => writeRing 2 o w s
  | 0x0B => writeRing 3 o w s
  | 0x0C => writeTb o w s
  | 0x0D => writeCrown h o w s
  | 0x0E => writeComb h o w s
  | 0x0F => writeChk o w s
  | 0x10 => writeDoorBlock h o w s
  | 0x11 => if o = 0x020 then updCtl h w s else done s
  | 0x12 => writeTest h o w s
  | 0x13 => writeWk o w s
  | 0x14 => writeTk h o w s
  | _ => done s

/-- A write of an aligned address: ADDR_UNMAPPED where no register lies (R14). A flag that hardware sets in the same
clock stays set (R16). -/
def regWrite (h : HostId) (addr : Nat) (w : W32) (s : State) : State × Nat :=
  match regRead s addr with
  | some _ => regAction h addr (clearable s addr w) s
  | none => (s, stUnmapped)

/-- Host h writes an address (R13 to R15). -/
def busWrite (h : HostId) (addr : Nat) (w : W32) (s : State) : State :=
  if addr % 4 ≠ 0 then (if hostOpen s then reply h opWrite addr stUnaligned [] s else silentPort s)
  else if addr = 0x110020 then writeUpdCtl h w s
  else hostWrite h addr (regWrite h addr w) s

/-- REGISTER_WRITE (R15). -/
def execRegisterWrite (t : Nat) (h : HostId) (addr : BitVec 24) (data : W32) (s : State) : Host.Outcome State Fault Refusal :=
  .next (busWrite h addr.toNat data (elapse t s))

/-- The address of RINGn_CTL. -/
def ringCtlAddr (r : Ring) : Nat := 0x080048 + 0x10000 * r.val

/-- RING_TEST_REQ (R206): a write of RINGn_CTL. -/
def execRingTestReq (t : Nat) (h : HostId) (r : Ring) (w : W32) (s : State) : Host.Outcome State Fault Refusal :=
  .next (hostWrite h (ringCtlAddr r) (fun s => done (ringCtl r w s)) (elapse t s))

/-- RING_CLR_MAX (R208). -/
def execRingClrMax (t : Nat) (h : HostId) (r : Ring) (s : State) : Host.Outcome State Fault Refusal :=
  .next (hostWrite h (ringCtlAddr r) (fun s => done (updRing r (fun p => { p with roundMax := 0, overLimit := false }) s)) (elapse t s))

end Sys2Proof.Machine
end

