-- ==== Sys2Proof/Machine/Command.lean ====
section
/-! DEFINITION. Command telegrams (R108 to R113, R409 to R413) and calendar telegrams (R527). -/
namespace Sys2Proof.Machine

/-- A command telegram (R409). -/
structure Tele where
  slot : Nat
  zero : Nat
  tseq : Nat
  value : W64
  src : W32
  check : Nat
deriving DecidableEq, Repr

/-- The fields of 24 telegram bytes. -/
def readTele (b : List Byte) : Tele :=
  { slot := leAt b 0 2, zero := leAt b 2 2, tseq := leAt b 4 4, value := BitVec.ofNat 64 (leAt b 8 8)
    src := BitVec.ofNat 32 (leAt b 16 4), check := leAt b 20 4 }

/-- Test 1 of R411. -/
def teleSound (b : List Byte) : Bool :=
  let x := readTele b
  decide (b.length = 24) && decide ((checkOf 0x10 x.slot x.tseq (b.take 20)).toNat = x.check) && x.zero == 0

/-- The transport a telegram came by: a host's chip select, or an IPv4 address. -/
abbrev Transport := HostId ⊕ W32

/-- An entry of the command source table has this transport (R410, R468). -/
def onTransport (x : Transport) (e : CmdSource) : Bool :=
  match x with
  | .inl h => !e.ipv4 && decide (leAt e.address 0 1 = h.val)
  | .inr a => e.ipv4 && addrOf e.address == a

/-- The entry that may command a slot, or set the calendar (R411 test 3, R527). -/
def sourceEntry (x : Transport) (cal : Bool) (m : Tele) (s : State) : Option CmdSource :=
  (setOf s).cmds.find? (fun e =>
    e.id == m.src && onTransport x e && (if cal then e.cal else decide (e.first ≤ m.slot) && decide (m.slot ≤ e.last)))

/-- Test 4 of R411. -/
def seqFresh (m : Tele) (s : State) : Bool :=
  match kvGet s.keep.tseq m.src.toNat with
  | none => true
  | some last => inBounds 1 0x7FFFFFFF ((m.tseq + 2 ^ 32 - last) % 2 ^ 32)

/-- The status of a sound telegram (R411, R498, R529). -/
def teleStatus (x : Transport) (cal : Bool) (m : Tele) (s : State) : Nat :=
  if s.test.running then stTestBusy
  else if !crowned s || (cal && setForbidden s) then stStateRefused
  else if (sourceEntry x cal m s).isNone then stSourceRefused
  else if !seqFresh m s then stSeqRefused
  else if 256 ≤ s.cyc.cmds.length then stBusy
  else stOk

/-- The cycle whose latch a command accepted at ring time r enters (R109, R411). -/
def latchCycle (r : Nat) (s : State) : W32 :=
  let p := max 1 (tProg s)
  let from0 := s.cyc.b == 0
  let b := if from0 then (s.cyc.firstAt + p - 1) / p * p else s.cyc.b + p
  let late := (r + 2000 - b + p - 1) / p
  (if s.cyc.takeover then s.keep.lastCommit.getD 0 + BitVec.ofNat 32 (gapCycles s) else s.cyc.n) + 1 + BitVec.ofNat 32 late

/-- The source's last TSEQ is stored. -/
def storeTseq (m : Tele) (s : State) : State := { s with keep := { s.keep with tseq := kvPut s.keep.tseq m.src.toNat m.tseq } }

/-- An accepted command is queued (R111), and the standby is told (R295, R410). -/
def acceptCommand (eth : Bool) (m : Tele) (s : State) : State :=
  let r := ringNow s
  let c : HeldCmd := { slot := m.slot, value := m.value, when := r, deferred := false, eth := eth }
  let s := storeTseq m s
  send (.command { slot := m.slot, value := m.value, src := m.src, tseq := m.tseq, accepted := r })
    { s with cyc := { s.cyc with cmds := holdCmd c s.cyc.cmds } }

/-- The counts of a telegram's outcome in HP_CMD or ETH_CMD (R411, R430), each saturating at its field's maximum;
STATE_REFUSED of Ethernet is counted where R417 says. -/
def countTele (status : Nat) (c : CmdCounts) : CmdCounts :=
  if status = stOk then { c with accepted := satAdd c.accepted 1 0xFFFF }
  else if status = stStateRefused then { c with stateRef := satAdd c.stateRef 1 0xF }
  else if status = stSeqRefused then { c with seq := satAdd c.seq 1 0xF }
  else if status = stSourceRefused then { c with source := satAdd c.source 1 0xF }
  else if status = stCheckFailed ∨ status = stBusy then { c with check := satAdd c.check 1 0xF }
  else c

/-- A telegram refused because 256 commands are held is counted in GLB_CMD (R112), a calendar telegram too (DESIGN CHOICE,
log entry 160). -/
def countHeld (status : Nat) (s : State) : State :=
  if status = stBusy then { s with glb := { s.glb with cmdRefused := satAdd s.glb.cmdRefused 1 0xFFFF } } else s

/-- What a telegram does: its status and LATCH_CYCLE. -/
def takeTele (x : Transport) (cal : Bool) (m : Tele) (s : State) : State × Nat × W32 :=
  let st := teleStatus x cal m s
  if st ≠ stOk then (countHeld st s, st, 0)
  else if cal then (setCalendar 1 m.value.toNat (storeTseq m s), stOk, 0)
  else (acceptCommand x.isRight m s, stOk, latchCycle (ringNow s) s)

/-! ### Over Ethernet (R412) -/

/-- The acknowledgement of a telegram (R412). -/
def ackBytes (m : Tele) (status : Nat) (latch : W32) : List Byte :=
  let b := leBytes 4 m.tseq ++ leBytes 1 status ++ leBytes 3 0 ++ leBytes 4 latch.toNat
  b ++ leBytes 4 (checkOf 0x10 m.slot m.tseq b).toNat

/-- A telegram on the command port: SLOT 0xFFFF makes it a calendar telegram (R527). One that fails test 1 is not
acknowledged. -/
def ethTelegram (src : W32) (b : List Byte) (s : State) : State :=
  let m := readTele b
  let count := fun (st : Nat) (s : State) => { s with eth := { s.eth with cmd := countTele st s.eth.cmd } }
  if !teleSound b then count stCheckFailed s
  else
    let r := takeTele (.inr src) (m.slot == 0xFFFF) m s
    let s := if r.2.1 = stStateRefused then serviceRefused 47100 4 true r.1 else count r.2.1 r.1
    { s with eth := { s.eth with out := s.eth.out ++ [.ack src (ackBytes m r.2.1 r.2.2)] } }

/-- A datagram for a service that is not offered now is dropped (R414). -/
def dropFrame (s : State) : State := { s with eth := { s.eth with dropFrames := satAdd s.eth.dropFrames 1 0xFFFF } }

/-- A datagram reaches the command port, which is offered from READY (R414, R489). -/
def atCommandPort (src : W32) (tele : List Byte) (s : State) : State :=
  if !s.eth.link || !hostOpen s then s else if s.rst.recovery then dropFrame s else ethTelegram src tele s

/-- ETH_COMMAND (R411, R412). -/
def execEthCommand (t : Nat) (src : W32) (tele : List Byte) (s : State) : Host.Outcome State Fault Refusal :=
  .next (atCommandPort src tele (elapse t s))

/-- CAL_TELEGRAM (R527). -/
def execCalTelegram (t : Nat) (src : W32) (tele : List Byte) (s : State) : Host.Outcome State Fault Refusal :=
  .next (atCommandPort src tele (elapse t s))

end Sys2Proof.Machine
end

