-- ==== Sys2Proof/Machine/HostPort.lean ====
section
/-! DEFINITION. The host register port's transactions (R400 to R411). -/
namespace Sys2Proof.Machine

/-! ### Reads -/

/-- The comb window lies at these addresses (R12, R377). -/
def inWindow (addr : Nat) : Bool := inBounds 0x200000 0x2FFFFF addr

/-- A window read of a comb cell brings its group of 16 into the cache (R377). -/
def cacheGroup (addr : Nat) (s : State) : State :=
  let i := s.comb.cursor + (addr - 0x200000) / 256
  if s.comb.curSel ≤ 2 ∧ i < (s.comb.arr s.comb.curSel).cap then
    { s with comb := { s.comb with cache := some (s.comb.curSel, i / 16) } }
  else s

/-- A read of an aligned address with its side effects: a latched half, a claim, the window's cache. None where no register
lies. -/
def regReadFx (h : HostId) (addr : Nat) (s : State) : Option (State × W32) :=
  match addr with
  | 0x000054 => some (pxIdLo false s)
  | 0x00005C => some (pxIdLo true s)
  | 0x020108 => some (setIdLo false s)
  | 0x020110 => some (setIdLo true s)
  | 0x030010 => some (readClaim h 0 s)
  | 0x030014 => some (readClaim h 1 s)
  | 0x030018 => some (readClaim h 2 s)
  | 0x03001C => some (readClaim h 3 s)
  | 0x0C0000 => some (tbTimeLo s)
  | 0x0E0004 => some (combSeqLo s)
  | 0x140000 => some (tkLo false s)
  | 0x140008 => some (tkLo true s)
  | _ => (regRead s addr).map (fun w => (if inWindow addr then cacheGroup addr s else s, w))

/-- Host h reads an address (R13, R14, R406): data is zero unless the status is OK. An unaligned address is told before what
refuses every access (R489, R498): DESIGN CHOICE, log entry 158. -/
def busRead (h : HostId) (addr : Nat) (s : State) : State :=
  let zero := leBytes 4 0
  if addr % 4 ≠ 0 then reply h opRead addr stUnaligned zero s
  else match gate addr s with
    | some st => reply h opRead addr st zero s
    | none =>
      match regReadFx h addr s with
      | some r => answerRead h addr r.2 r.1
      | none => reply h opRead addr stUnmapped zero s

/-- The status that refuses a READ16 (R406); OK when none does. -/
def read16Status (addr : Nat) (s : State) : Nat :=
  if !inWindow addr then stWindowOnly
  else if addr % 64 ≠ 0 then stUnaligned
  else (gate addr s).getD stOk

/-- Host h reads 64 bytes of the comb window (R401, R406). -/
def busRead16 (h : HostId) (addr : Nat) (s : State) : State :=
  let st := read16Status addr s
  if st ≠ stOk then reply h opRead16 addr st (leBytes 64 0) s
  else
    let words := (List.range 16).flatMap (fun i => leBytes 4 ((regRead s (addr + 4 * i)).getD 0).toNat)
    reply h opRead16 addr stOk words (cacheGroup addr s)

/-! ### The command request (R409, R411) -/

/-- A command telegram over the host port. -/
def hostTelegram (h : HostId) (addr : Nat) (b : List Byte) (s : State) : State :=
  let answer := fun (st : Nat) (latch : W32) (s : State) =>
    reply h opCommand addr st (leBytes 4 latch.toNat) { s with hp := { s.hp with cmd := countTele st s.hp.cmd } }
  if s.rst.recovery then reply h opCommand addr stBusy (leBytes 4 0) s
  else if !teleSound b then answer stCheckFailed 0 s
  else
    let r := takeTele (.inl h) false (readTele b) s
    if r.2.1 = stStateRefused then answer r.2.1 0 (hostRefused (serviceType 1) h r.1).1 else answer r.2.1 r.2.2 r.1

/-! ### A transaction (R401 to R404) -/

/-- A request whose fields are those of READ, WRITE, READ16 or COMMAND. -/
inductive Request where
  | short
  | write (data : W32)
  | command (tele : List Byte)
deriving DecidableEq, Repr

/-- The request data bytes (R402). -/
def Request.bytes : Request → List Byte
  | .short => []
  | .write d => leBytes 4 d.toNat
  | .command b => b

/-- The opcode is one of R401. -/
def legalOpcode (op : Byte) : Bool := op == opRead || op == opWrite || op == opRead16 || op == opCommand

/-- A legal opcode is followed by the fields it calls for. -/
def fits (op : Byte) (q : Request) : Bool :=
  match q with
  | .short => op == opRead || op == opRead16
  | .write _ => op == opWrite
  | .command b => op == opCommand && decide (b.length = 24)

/-- The zero data of a response that performed nothing. -/
def noData (op : Byte) : List Byte :=
  if op = opRead ∨ op = opCommand then leBytes 4 0 else if op = opRead16 then leBytes 64 0 else []

/-- A request whose check verifies is performed. -/
def perform (h : HostId) (op : Byte) (addr : Nat) (q : Request) (s : State) : State :=
  match q with
  | .short => if op = opRead then busRead h addr s else busRead16 h addr s
  | .write d => busWrite h addr d s
  | .command b => hostTelegram h addr b s

/-- One transaction (R403, R404): an illegal opcode is counted and drives nothing; a request that ends before its check
is abandoned; one whose check fails performs nothing. -/
def transact (h : HostId) (op : Byte) (addr : Nat) (q : Request) (check : W32) (s : State) : State :=
  if !hostOpen s then silentPort s
  else if !legalOpcode op then silentPort (hpError (fun p => { p with opcode := satAdd p.opcode 1 0xFF }) s)
  else if !fits op q then silentPort (hpError (fun p => { p with abandoned := satAdd p.abandoned 1 0xFF }) s)
  else if hpCheck addr op ([0x00#8] ++ q.bytes) ≠ check then
    reply h op addr stCheckFailed (noData op) (hpError (fun p => { p with check := satAdd p.check 1 0xFF }) s)
  else perform h op addr q s

/-- HP_READ (R401, R406). -/
def execHpRead (t : Nat) (h : HostId) (opcode : Byte) (addr : BitVec 24) (check : W32) (s : State) :
    Host.Outcome State Fault Refusal := .next (transact h opcode addr.toNat .short check (elapse t s))

/-- HP_READ16 (R401, R406). -/
def execHpRead16 (t : Nat) (h : HostId) (opcode : Byte) (addr : BitVec 24) (check : W32) (s : State) :
    Host.Outcome State Fault Refusal := .next (transact h opcode addr.toNat .short check (elapse t s))

/-- HP_WRITE (R401, R406). -/
def execHpWrite (t : Nat) (h : HostId) (opcode : Byte) (addr : BitVec 24) (data check : W32) (s : State) :
    Host.Outcome State Fault Refusal := .next (transact h opcode addr.toNat (.write data) check (elapse t s))

/-- HP_COMMAND (R401, R411). -/
def execHpCommand (t : Nat) (h : HostId) (opcode : Byte) (slot : BitVec 24) (tele : List Byte) (check : W32) (s : State) :
    Host.Outcome State Fault Refusal := .next (transact h opcode slot.toNat (.command tele) check (elapse t s))

/-- HP_CS_ABANDON (R404). -/
def execHpCsAbandon (t : Nat) (s : State) : Host.Outcome State Fault Refusal :=
  let s := silentPort (elapse t s)
  .next (if hostOpen s then hpError (fun p => { p with abandoned := satAdd p.abandoned 1 0xFF }) s else s)

/-- HP_CS_CLASH (R407): the response is withheld. -/
def execHpCsClash (t : Nat) (s : State) : Host.Outcome State Fault Refusal :=
  let s := silentPort (elapse t s)
  .next (if hostOpen s then hpError (fun p => { p with clash := satAdd p.clash 1 0xFF }) s else s)

/-- HP_RESPONSE_TIMEOUT (R405): BUSY, with nothing performed. -/
def execHpResponseTimeout (t : Nat) (h : HostId) (opcode : Byte) (addr : BitVec 24) (s : State) :
    Host.Outcome State Fault Refusal :=
  let s := elapse t s
  .next (if hostOpen s then reply h opcode addr.toNat stBusy (noData opcode) s else silentPort s)

end Sys2Proof.Machine
end

