-- ==== Sys2Proof/Machine/Ethernet.lean ====
section
/-! DEFINITION. The maintenance Ethernet's link, address resolution, echoes and connections (R414). -/
namespace Sys2Proof.Machine

/-- The maintenance Ethernet runs. -/
def ethUp (s : State) : Bool := s.eth.link && hostOpen s

/-- The VT3 sends on the maintenance Ethernet. -/
def ethSend (x : EthOut) (s : State) : State := { s with eth := { s.eth with out := s.eth.out ++ [x] } }

/-- ETH_ARP_REQUEST (R414): a request for another address is dropped. -/
def execEthArpRequest (t : Nat) (target : W32) (s : State) : Host.Outcome State Fault Refusal :=
  let s := elapse t s
  .next (if !ethUp s then s else if target = s.eth.addr then ethSend (.arp target) s else dropFrame s)

/-- An echo request for this address: at most 10 replies a second. -/
def echoReply (data : List Byte) (s : State) : State :=
  let fresh := decide (s.eth.echoSince + 1000000000 ≤ s.clk.now) || s.eth.echoes == 0
  let since := if fresh then s.clk.now else s.eth.echoSince
  let n := if fresh then 0 else s.eth.echoes
  if 10 ≤ n then s
  else ethSend (.icmp data) { s with eth := { s.eth with echoSince := since, echoes := n + 1 } }

/-- ETH_ICMP_ECHO (R414). -/
def execEthIcmpEcho (t : Nat) (target : W32) (data : List Byte) (s : State) : Host.Outcome State Fault Refusal :=
  let s := elapse t s
  .next (if !ethUp s then s else if target = s.eth.addr ∧ s.rst.recovery = false then echoReply data s else dropFrame s)

/-- A connection attempt beyond its limit is refused with a reset and counted. -/
def refuseConn (port : Nat) (s : State) : State :=
  ethSend (.tcpReset port) { s with eth := { s.eth with dropConn := satAdd s.eth.dropConn 1 0xFF } }

/-- A connection attempt on a port (R414, R489). -/
def connect (port : Nat) (s : State) : State :=
  if port = 47120 then
    if s.eth.upd then refuseConn port s else ethSend (.tcpAccept .update) { s with eth := { s.eth with upd := true } }
  else if port = 47110 ∧ s.rst.recovery = false then
    if !s.eth.comb0 then ethSend (.tcpAccept (.comb 0)) { s with eth := { s.eth with comb0 := true } }
    else if !s.eth.comb1 then ethSend (.tcpAccept (.comb 1)) { s with eth := { s.eth with comb1 := true } }
    else refuseConn port s
  else dropFrame s

/-- ETH_CONNECTION_ATTEMPT (R414). -/
def execEthConnectionAttempt (t : Nat) (port : Nat) (s : State) : Host.Outcome State Fault Refusal :=
  let s := elapse t s
  .next (if ethUp s then connect port s else s)

/-- ETH_FRAME_DROP (R414). -/
def execEthFrameDrop (t : Nat) (s : State) : Host.Outcome State Fault Refusal :=
  let s := elapse t s
  .next (if ethUp s then dropFrame s else s)

/-- ETH_LINK_CHANGE (R414, R418): source 58 at a change. -/
def execEthLinkChange (t : Nat) (up : Bool) (s : State) : Host.Outcome State Fault Refusal :=
  let s := elapse t s
  .next (if s.eth.link = up then s else fire 58 { s with eth := { s.eth with link := up } })

/-- A connection closes (R414); closing the update connection ends its session (R478). -/
def disconnect (x : TcpService) (s : State) : State :=
  match x with
  | .comb c => if c = 0 then { s with eth := { s.eth with comb0 := false } } else { s with eth := { s.eth with comb1 := false } }
  | .update =>
    let s := { s with eth := { s.eth with upd := false } }
    if s.upd.lock = some .eth then abortSession updTimeout s else s

/-- ETH_CONNECTION_CLOSE (R478). -/
def execEthConnectionClose (t : Nat) (service : TcpService) (s : State) : Host.Outcome State Fault Refusal :=
  .next (disconnect service (elapse t s))

end Sys2Proof.Machine
end

