-- ==== Sys2Proof/Machine/Vin.lean ====
section
/-! DEFINITION. The local vital inputs (R168 to R173). -/
namespace Sys2Proof.Machine

/-- A contact's bit: contact 1 of inputs A to H in bits 0 to 7, contact 2 in bits 8 to 15. -/
def contactBit (input which : Nat) : Nat := 8 * which + input

/-- The test-pulse output that feeds a contact (R168). -/
def ownPulse (input which : Nat) : Nat := if input < 4 then which else 2 + which

/-- Pulse sample k of a contact. -/
def pulseAt (x : VinSample) (b k : Nat) : Bool :=
  (if k = 0 then x.p0 else if k = 1 then x.p1 else if k = 2 then x.p2 else x.p3).getLsbD b

/-- Why a contact fails its test in this ring cycle (R170): 2 its own pulse is not seen, 3 it is low at another's; 0 it
does not. Only a contact that reads closed can fail. -/
def contactFails (x : VinSample) (input which : Nat) : Nat :=
  let b := contactBit input which
  let own := ownPulse input which
  if !x.steady.getLsbD b then 0
  else if pulseAt x b own then 2
  else if [0, 1, 2, 3].any (fun k => k != own && !pulseAt x b k) then 3
  else 0

/-- A contact after a ring cycle: failed cycles are counted for each contact (DESIGN CHOICE, log entry 164). -/
def contactNext (x : VinSample) (input which : Nat) (c : Contact) : Contact :=
  { closed := x.steady.getLsbD (contactBit input which)
    failed := if contactFails x input which = 0 then 0 else min 2 (c.failed + 1) }

/-- One input of one lane after a ring cycle whose steady sample lies at `at0` (R170 to R172), d the debounce count. -/
def vinNext (d at0 : Nat) (x : VinSample) (input : Nat) (v : VinEval) : VinEval :=
  let c1 := contactNext x input 0 v.x1
  let c2 := contactNext x input 1 v.x2
  let clean := c1.failed = 0 ∧ c2.failed = 0
  let good := if c1.closed ∧ c2.closed ∧ clean then min 8 (v.good + 1) else 0
  let opened := if !c1.closed ∧ !c2.closed then min 8 (v.openRun + 1) else 0
  let why := if c1.failed = 2 then contactFails x input 0 else if c2.failed = 2 then contactFails x input 1 else 0
  let cause := if v.cause = 0 then why else if why = 0 ∧ 0 < d ∧ d ≤ opened then 0 else v.cause
  { x1 := c1, x2 := c2, good := good, openRun := opened
    differ := if c1.closed = c2.closed then none else some (v.differ.getD at0)
    cause := cause, closed := decide (cause = 0 ∧ 0 < d ∧ d ≤ good) }

/-- Each latching and each clearing of an input's fault writes a cell (R172). -/
def vinCell (l : Lane) (old new : List VinEval) (s : State) (i : Nat) : State :=
  let a := (nthD {} old i).cause
  let b := (nthD {} new i).cause
  let s := recordIf (decide (a = 0 ∧ b ≠ 0)) 0 .vinLatched [l.num, i, b] s
  recordIf (decide (a ≠ 0 ∧ b = 0)) 0 .vinCleared [l.num, i] s

/-- A sample with one contact reading closed whatever is connected. -/
def stuck (b : Nat) (x : VinSample) : VinSample :=
  { steady := putBit x.steady b true, p0 := putBit x.p0 b true, p1 := putBit x.p1 b true, p2 := putBit x.p2 b true
    p3 := putBit x.p3 b true }

/-- The samples with the injected stuck contacts (R509). -/
def injectVin (s : State) (x : VinSample) : VinSample :=
  let f := fun (x : VinSample) (which : Nat) => match injected (0x0801 + which) s with
    | some i => stuck (contactBit (i.arg % 8) which) x
    | none => x
  f (f x 0) 1

/-- The boundary of the ring cycle that ring time lies in. -/
def vinCycle (s : State) : Nat := ringNow s / max 1 (tRing s) * tRing s

/-- A lane's inputs after a ring cycle. -/
def vinLane (x : VinSample) (l : Lane) (s : State) : State :=
  if !(laneOf s l).ready then s else
  let old := s.vin.ev.at l
  let at0 := vinCycle s + 5000
  let new := (List.range 8).map (fun i => vinNext s.vin.debounce at0 x i (nthD {} old i))
  (List.range 8).foldl (vinCell l old new) { s with vin := { s.vin with ev := s.vin.ev.put l new } }

/-- The samples of the present ring cycle are complete, not yet evaluated, and no step of ring time cut the cycle (R169). -/
def vinDue (s : State) : Bool :=
  decide (vinCycle s + 115000 ≤ ringNow s) && decide (s.vin.scaleFrom ≤ vinCycle s) && s.vin.doneAt != some (vinCycle s)

/-- VIN_EVALUATE (R170): from READY on, every lane evaluates its samples of the ring cycle, once. -/
def execVinEvaluate (t : Nat) (x : Tri VinSample) (s : State) : Host.Outcome State Fault Refusal :=
  let s := elapse t s
  .next (if s.rst.stage = .ready ∧ vinDue s = true then
      let s := { s with vin := { s.vin with doneAt := some (vinCycle s) } }
      spendOnce 0x0801 (spendOnce 0x0802 (lanes.foldl (fun s l => vinLane (injectVin s (x.at l)) l s) s))
    else s)

/-- An input's contacts have differed for longer than the discrepancy time (R172). -/
def discrepancyLatch (l : Lane) (i : Nat) (s : State) : State :=
  let old := s.vin.ev.at l
  let v := nthD {} old i
  match v.differ with
  | some x =>
    if v.cause = 0 ∧ x + s.vin.discrepMs * 1000000 < ringNow s then
      let new := setNth old i { v with cause := 1, closed := false }
      vinCell l old new { s with vin := { s.vin with ev := s.vin.ev.put l new } } i
    else s
  | none => s

/-- VIN_DISCREPANCY_TIMEOUT (R172). -/
def execVinDiscrepancyTimeout (t : Nat) (l : Lane) (input : Fin 8) (s : State) : Host.Outcome State Fault Refusal :=
  .next (discrepancyLatch l input.val (elapse t s))

end Sys2Proof.Machine
end

