-- ==== Sys2Proof/Machine/Dispatch.lean ====
section
/-! DEFINITION. One arm per constructor of Instr, each one direct call of that command's meaning. -/
namespace Sys2Proof.Machine

def exec (i : Instr) (s : State) : Host.Outcome State Fault Refusal :=
  match i with
  | .verbLd l w => Sys2Proof.Machine.execVerbLd l w s
  | .verbLdn l w => Sys2Proof.Machine.execVerbLdn l w s
  | .verbAnd l w => Sys2Proof.Machine.execVerbAnd l w s
  | .verbAndn l w => Sys2Proof.Machine.execVerbAndn l w s
  | .verbOr l w => Sys2Proof.Machine.execVerbOr l w s
  | .verbOrn l w => Sys2Proof.Machine.execVerbOrn l w s
  | .verbXor l w => Sys2Proof.Machine.execVerbXor l w s
  | .verbXorn l w => Sys2Proof.Machine.execVerbXorn l w s
  | .verbNot l w => Sys2Proof.Machine.execVerbNot l w s
  | .verbLdk l w => Sys2Proof.Machine.execVerbLdk l w s
  | .verbSt l w => Sys2Proof.Machine.execVerbSt l w s
  | .verbStn l w => Sys2Proof.Machine.execVerbStn l w s
  | .verbSet l w => Sys2Proof.Machine.execVerbSet l w s
  | .verbRst l w => Sys2Proof.Machine.execVerbRst l w s
  | .verbOpen l w => Sys2Proof.Machine.execVerbOpen l w s
  | .verbOpenn l w => Sys2Proof.Machine.execVerbOpenn l w s
  | .verbCloseAnd l w => Sys2Proof.Machine.execVerbCloseAnd l w s
  | .verbCloseOr l w => Sys2Proof.Machine.execVerbCloseOr l w s
  | .verbTon l w => Sys2Proof.Machine.execVerbTon l w s
  | .verbTof l w => Sys2Proof.Machine.execVerbTof l w s
  | .verbTp l w => Sys2Proof.Machine.execVerbTp l w s
  | .verbTrst l w => Sys2Proof.Machine.execVerbTrst l w s
  | .verbTrd l w => Sys2Proof.Machine.execVerbTrd l w s
  | .verbEdgr l w => Sys2Proof.Machine.execVerbEdgr l w s
  | .verbEdgf l w => Sys2Proof.Machine.execVerbEdgf l w s
  | .verbWld l w => Sys2Proof.Machine.execVerbWld l w s
  | .verbWst l w => Sys2Proof.Machine.execVerbWst l w s
  | .verbWldi l w => Sys2Proof.Machine.execVerbWldi l w s
  | .verbWadd l w => Sys2Proof.Machine.execVerbWadd l w s
  | .verbWsub l w => Sys2Proof.Machine.execVerbWsub l w s
  | .verbWaddi l w => Sys2Proof.Machine.execVerbWaddi l w s
  | .verbWand l w => Sys2Proof.Machine.execVerbWand l w s
  | .verbWor l w => Sys2Proof.Machine.execVerbWor l w s
  | .verbWeq l w => Sys2Proof.Machine.execVerbWeq l w s
  | .verbWlt l w => Sys2Proof.Machine.execVerbWlt l w s
  | .verbWeqi l w => Sys2Proof.Machine.execVerbWeqi l w s
  | .verbWlti l w => Sys2Proof.Machine.execVerbWlti l w s
  | .verbWlda l w => Sys2Proof.Machine.execVerbWlda l w s
  | .verbAldw l w => Sys2Proof.Machine.execVerbAldw l w s
  | .verbWcnt l w => Sys2Proof.Machine.execVerbWcnt l w s
  | .verbJmp l w => Sys2Proof.Machine.execVerbJmp l w s
  | .verbJc l w => Sys2Proof.Machine.execVerbJc l w s
  | .verbJnc l w => Sys2Proof.Machine.execVerbJnc l w s
  | .verbCall l w => Sys2Proof.Machine.execVerbCall l w s
  | .verbRet l w => Sys2Proof.Machine.execVerbRet l w s
  | .verbEntry l w => Sys2Proof.Machine.execVerbEntry l w s
  | .verbEnd l w => Sys2Proof.Machine.execVerbEnd l w s
  | .verbNop l w => Sys2Proof.Machine.execVerbNop l w s
  | .verbCmall l w => Sys2Proof.Machine.execVerbCmall l w s
  | .verbCmset l w => Sys2Proof.Machine.execVerbCmset l w s
  | .verbCmld l w => Sys2Proof.Machine.execVerbCmld l w s
  | .verbFault l w => Sys2Proof.Machine.execVerbFault l w s
  | .flowGuard t l => Sys2Proof.Machine.execFlowGuard t l s
  | .inputLatch t => Sys2Proof.Machine.execInputLatch t s
  | .logicPhaseStart t => Sys2Proof.Machine.execLogicPhaseStart t s
  | .commitDeadline t => Sys2Proof.Machine.execCommitDeadline t s
  | .voteComplete t digErr => Sys2Proof.Machine.execVoteComplete t digErr s
  | .commit t => Sys2Proof.Machine.execCommit t s
  | .retentiveCopy t l whole => Sys2Proof.Machine.execRetentiveCopy t l s whole
  | .reflexFire t code l r => Sys2Proof.Machine.execReflexFire t code l s r
  | .serviceRoleMove t => Sys2Proof.Machine.execServiceRoleMove t s
  | .laneVoteReset t l => Sys2Proof.Machine.execLaneVoteReset t l s
  | .laneReady t l kat => Sys2Proof.Machine.execLaneReady t l kat s
  | .rejoinPassEnd t err => Sys2Proof.Machine.execRejoinPassEnd t s err
  | .rejoinTimeout t => Sys2Proof.Machine.execRejoinTimeout t s
  | .degradedClockExpiry t => Sys2Proof.Machine.execDegradedClockExpiry t s
  | .degExpiryGraceEnd t => Sys2Proof.Machine.execDegExpiryGraceEnd t s
  | .vinEvaluate t x => Sys2Proof.Machine.execVinEvaluate t x s
  | .vinDiscrepancyTimeout t l input => Sys2Proof.Machine.execVinDiscrepancyTimeout t l input s
  | .ringCycleBoundary t => Sys2Proof.Machine.execRingCycleBoundary t s
  | .ringFrameReceive t r p f arrived ppb cut invalid => Sys2Proof.Machine.execRingFrameReceive t r p f arrived ppb s cut invalid
  | .ringFrameReturn t r p f invalid => Sys2Proof.Machine.execRingFrameReturn t r p f s invalid
  | .returnDeadline t => Sys2Proof.Machine.execReturnDeadline t s
  | .linkSyncLost t r p invalid => Sys2Proof.Machine.execLinkSyncLost t r p invalid s
  | .linkSyncRegained t r p invalid => Sys2Proof.Machine.execLinkSyncRegained t r p s invalid
  | .linkFaultReceived t r p => Sys2Proof.Machine.execLinkFaultReceived t r p s
  | .healReadyTimer t r => Sys2Proof.Machine.execHealReadyTimer t r s
  | .healTimer t r => Sys2Proof.Machine.execHealTimer t r s
  | .ringTestStart t r => Sys2Proof.Machine.execRingTestStart t r s
  | .lockSilenceTimeout t r => Sys2Proof.Machine.execLockSilenceTimeout t r s
  | .ringCandidateStart t r => Sys2Proof.Machine.execRingCandidateStart t r s
  | .claimFrameReceive t r p f => Sys2Proof.Machine.execClaimFrameReceive t r p f s
  | .claimSilenceWin t r => Sys2Proof.Machine.execClaimSilenceWin t r s
  | .claimAbandon t r => Sys2Proof.Machine.execClaimAbandon t r s
  | .laneTimeMeasure t dev => Sys2Proof.Machine.execLaneTimeMeasure t dev s
  | .quietIntervalComplete t unit => Sys2Proof.Machine.execQuietIntervalComplete t unit s
  | .doorDegTimeExpiry t unit => Sys2Proof.Machine.execDoorDegTimeExpiry t unit s
  | .dgClrGuard t h => Sys2Proof.Machine.execDgClrGuard t h s
  | .dgClrIsolate t h => Sys2Proof.Machine.execDgClrIsolate t h s
  | .leaseRecord t x => Sys2Proof.Machine.execLeaseRecord t x s
  | .leaseAckRecord t x ts epoch => Sys2Proof.Machine.execLeaseAckRecord t x ts epoch s
  | .timeRecord t x t1 t2 t3 t4 => Sys2Proof.Machine.execTimeRecord t x t1 t2 t3 t4 s
  | .timeRecordTimeout t => Sys2Proof.Machine.execTimeRecordTimeout t s
  | .partRecord t x b => Sys2Proof.Machine.execPartRecord t x b s
  | .commandRecord t x b => Sys2Proof.Machine.execCommandRecord t x b s
  | .latchRecord t x b => Sys2Proof.Machine.execLatchRecord t x b s
  | .commitRecord t x => Sys2Proof.Machine.execCommitRecord t x s
  | .guardRecord t x units => Sys2Proof.Machine.execGuardRecord t x units s
  | .copyRecord t x b => Sys2Proof.Machine.execCopyRecord t x b s
  | .statusRecord t x b => Sys2Proof.Machine.execStatusRecord t x b s
  | .handoverOffer t x => Sys2Proof.Machine.execHandoverOffer t x s
  | .handoverAccept t x => Sys2Proof.Machine.execHandoverAccept t x s
  | .handoverRefuse t x => Sys2Proof.Machine.execHandoverRefuse t x s
  | .handoverCommit t x => Sys2Proof.Machine.execHandoverCommit t x s
  | .handoverCancel t x => Sys2Proof.Machine.execHandoverCancel t x s
  | .releaseRecord t x => Sys2Proof.Machine.execReleaseRecord t x s
  | .claimRecord t x => Sys2Proof.Machine.execClaimRecord t x s
  | .eventRecord t x payload => Sys2Proof.Machine.execEventRecord t x payload s
  | .plLaneSyncChange t l up => Sys2Proof.Machine.execPlLaneSyncChange t l up s
  | .leaseExpiry t => Sys2Proof.Machine.execLeaseExpiry t s
  | .crownTake t => Sys2Proof.Machine.execCrownTake t s
  | .outTimeout t => Sys2Proof.Machine.execOutTimeout t s
  | .startWaitExpiry t => Sys2Proof.Machine.execStartWaitExpiry t s
  | .rotationDue t => Sys2Proof.Machine.execRotationDue t s
  | .rotationRetry t => Sys2Proof.Machine.execRotationRetry t s
  | .rotateNow t h => Sys2Proof.Machine.execRotateNow t h s
  | .pxStage t h => Sys2Proof.Machine.execPxStage t h s
  | .stagingDone t => Sys2Proof.Machine.execStagingDone t s
  | .pxPropose t h => Sys2Proof.Machine.execPxPropose t h s
  | .pxCancel t h => Sys2Proof.Machine.execPxCancel t h s
  | .pxGoDeadline t => Sys2Proof.Machine.execPxGoDeadline t s
  | .bankDirectoryUpdate t => Sys2Proof.Machine.execBankDirectoryUpdate t s
  | .cellCreate t comb note vals => Sys2Proof.Machine.execCellCreate t comb note vals s
  | .cellWriteDone t how => Sys2Proof.Machine.execCellWriteDone t how s
  | .queueRoom t => Sys2Proof.Machine.execQueueRoom t s
  | .combScanDone t found => Sys2Proof.Machine.execCombScanDone t found s
  | .combHoldupStop t => Sys2Proof.Machine.execCombHoldupStop t s
  | .nandTimeout t => Sys2Proof.Machine.execNandTimeout t s
  | .combFreezeReq t h w => Sys2Proof.Machine.execCombFreezeReq t h w s
  | .freezeActive t => Sys2Proof.Machine.execFreezeActive t s
  | .freezeTimeout t => Sys2Proof.Machine.execFreezeTimeout t s
  | .combChalReq t h mask => Sys2Proof.Machine.execCombChalReq t h mask s
  | .combClearGo t h mask => Sys2Proof.Machine.execCombClearGo t h mask s
  | .clearInitialEraseDone t arr failed => Sys2Proof.Machine.execClearInitialEraseDone t arr s failed
  | .clearDone t comb failed => Sys2Proof.Machine.execClearDone t comb s failed
  | .combSnapTrig t h lists => Sys2Proof.Machine.execCombSnapTrig t h lists s
  | .combStreamRequest t conn comb first last => Sys2Proof.Machine.execCombStreamRequest t conn comb first last s
  | .portByteWrite t l ctx x => Sys2Proof.Machine.execPortByteWrite t l ctx x s
  | .portHalfWrite t l ctx x => Sys2Proof.Machine.execPortHalfWrite t l ctx x s
  | .portWordWrite t l ctx x => Sys2Proof.Machine.execPortWordWrite t l ctx x s
  | .portCopy t l src dst => Sys2Proof.Machine.execPortCopy t l src dst s
  | .portSplice t l src dst => Sys2Proof.Machine.execPortSplice t l src dst s
  | .portRead t l ctx => Sys2Proof.Machine.execPortRead t l ctx s
  | .scanRequest t l r => Sys2Proof.Machine.execScanRequest t l r s
  | .scanDone t l words => Sys2Proof.Machine.execScanDone t l words s
  | .storedCheckFail t code place stored found abandoned => Sys2Proof.Machine.execStoredCheckFail t code place stored found abandoned s
  | .chkTestOpen t h => Sys2Proof.Machine.execChkTestOpen t h s
  | .chkTestWord t h x => Sys2Proof.Machine.execChkTestWord t h x s
  | .chkTestHalf t h x => Sys2Proof.Machine.execChkTestHalf t h x s
  | .chkTestByte t h x => Sys2Proof.Machine.execChkTestByte t h x s
  | .hpRead t h opcode addr check => Sys2Proof.Machine.execHpRead t h opcode addr check s
  | .hpWrite t h opcode addr data check => Sys2Proof.Machine.execHpWrite t h opcode addr data check s
  | .hpRead16 t h opcode addr check => Sys2Proof.Machine.execHpRead16 t h opcode addr check s
  | .hpCommand t h opcode slot tele check => Sys2Proof.Machine.execHpCommand t h opcode slot tele check s
  | .hpCsAbandon t => Sys2Proof.Machine.execHpCsAbandon t s
  | .hpCsClash t => Sys2Proof.Machine.execHpCsClash t s
  | .hpResponseTimeout t h opcode addr => Sys2Proof.Machine.execHpResponseTimeout t h opcode addr s
  | .ethCommand t src tele => Sys2Proof.Machine.execEthCommand t src tele s
  | .calTelegram t src tele => Sys2Proof.Machine.execCalTelegram t src tele s
  | .ethArpRequest t target => Sys2Proof.Machine.execEthArpRequest t target s
  | .ethIcmpEcho t target data => Sys2Proof.Machine.execEthIcmpEcho t target data s
  | .ethConnectionAttempt t port => Sys2Proof.Machine.execEthConnectionAttempt t port s
  | .ethFrameDrop t => Sys2Proof.Machine.execEthFrameDrop t s
  | .ethLinkChange t up => Sys2Proof.Machine.execEthLinkChange t up s
  | .ptpMessage t offset utc => Sys2Proof.Machine.execPtpMessage t offset utc s
  | .eventSourceFire t n => Sys2Proof.Machine.execEventSourceFire t n s
  | .evrClaim t h n => Sys2Proof.Machine.execEvrClaim t h n s
  | .evrComplete t h n source => Sys2Proof.Machine.execEvrComplete t h n source s
  | .moderationTimeout t n => Sys2Proof.Machine.execModerationTimeout t n s
  | .hostIdleAssert t n => Sys2Proof.Machine.execHostIdleAssert t n s
  | .powerOn t keepLost => Sys2Proof.Machine.execPowerOn t keepLost s
  | .brownOut t => Sys2Proof.Machine.execBrownOut t s
  | .nrstPulse t periods => Sys2Proof.Machine.execNrstPulse t periods s
  | .nrstRelease t => Sys2Proof.Machine.execNrstRelease t s
  | .laneWdogExpiry t l => Sys2Proof.Machine.execLaneWdogExpiry t l s
  | .rstSwCold t h key => Sys2Proof.Machine.execRstSwCold t h key s
  | .rstSwWarm t h key => Sys2Proof.Machine.execRstSwWarm t h key s
  | .holdEnd t => Sys2Proof.Machine.execHoldEnd t s
  | .clocksStable t refs => Sys2Proof.Machine.execClocksStable t refs s
  | .clockStableTimeout t => Sys2Proof.Machine.execClockStableTimeout t s
  | .optionLoadDone t => Sys2Proof.Machine.execOptionLoadDone t s
  | .pllStable t plls => Sys2Proof.Machine.execPllStable t plls s
  | .firmwareAccepted t accepted => Sys2Proof.Machine.execFirmwareAccepted t accepted s
  | .startupSelftestDone t entries => Sys2Proof.Machine.execStartupSelftestDone t entries s
  | .settingsLoadDone t => Sys2Proof.Machine.execSettingsLoadDone t s
  | .moduleReady t loaded kats => Sys2Proof.Machine.execModuleReady t loaded s kats
  | .updHello t src item => Sys2Proof.Machine.execUpdHello t src item s
  | .updOpen t src item length version check op sig => Sys2Proof.Machine.execUpdOpen t src item length version check op sig s
  | .updData t src offset payload => Sys2Proof.Machine.execUpdData t src offset payload s
  | .updClose t src => Sys2Proof.Machine.execUpdClose t src s
  | .updAbortMsg t src status => Sys2Proof.Machine.execUpdAbortMsg t src status s
  | .updChecksDone t lanesEqual => Sys2Proof.Machine.execUpdChecksDone t lanesEqual s
  | .updWriteDone t good => Sys2Proof.Machine.execUpdWriteDone t good s
  | .updSessionTimeout t => Sys2Proof.Machine.execUpdSessionTimeout t s
  | .updCtlAbort t h => Sys2Proof.Machine.execUpdCtlAbort t h s
  | .updCtlRestart t h key => Sys2Proof.Machine.execUpdCtlRestart t h key s
  | .updCtlRecover t h key => Sys2Proof.Machine.execUpdCtlRecover t h key s
  | .recoveryReqSend t => Sys2Proof.Machine.execRecoveryReqSend t s
  | .recoveryReq t x item version reason => Sys2Proof.Machine.execRecoveryReq t x item version reason s
  | .pairInfoSend t => Sys2Proof.Machine.execPairInfoSend t s
  | .pairInfo t x version level least => Sys2Proof.Machine.execPairInfo t x version level least s
  | .stStop t h key andThen => Sys2Proof.Machine.execStStop t h key andThen s
  | .selftestStart t => Sys2Proof.Machine.execSelftestStart t s
  | .selftestStepDone t entries => Sys2Proof.Machine.execSelftestStepDone t entries s
  | .loopbackEnd t => Sys2Proof.Machine.execLoopbackEnd t s
  | .selftestCutShort t => Sys2Proof.Machine.execSelftestCutShort t s
  | .stAuthChalReq t h purpose => Sys2Proof.Machine.execStAuthChalReq t h purpose s
  | .stAuthGo t h purpose cleared => Sys2Proof.Machine.execStAuthGo t h purpose cleared s
  | .jtagInstruction t x => Sys2Proof.Machine.execJtagInstruction t x s
  | .stInjFire t h count => Sys2Proof.Machine.execStInjFire t h count s
  | .stInjEnd t h count => Sys2Proof.Machine.execStInjEnd t h count s
  | .injectSessionExpiry t => Sys2Proof.Machine.execInjectSessionExpiry t s
  | .injectionEnd t => Sys2Proof.Machine.execInjectionEnd t s
  | .stOvrArm t h => Sys2Proof.Machine.execStOvrArm t h s
  | .stAtbSelect t h atb0 atb1 => Sys2Proof.Machine.execStAtbSelect t h atb0 atb1 s
  | .ringTestReq t h r w => Sys2Proof.Machine.execRingTestReq t h r w s
  | .ringClrMax t h r => Sys2Proof.Machine.execRingClrMax t h r s
  | .laneClrMax t h l => Sys2Proof.Machine.execLaneClrMax t h l s
  | .tkCalSet t h => Sys2Proof.Machine.execTkCalSet t h s
  | .tbTimeLoRead t h => Sys2Proof.Machine.execTbTimeLoRead t h s
  | .combSeqLoRead t h => Sys2Proof.Machine.execCombSeqLoRead t h s
  | .pxIdLoRead t h sid => Sys2Proof.Machine.execPxIdLoRead t h sid s
  | .setIdLoRead t h src => Sys2Proof.Machine.execSetIdLoRead t h src s
  | .tkLoRead t h cal => Sys2Proof.Machine.execTkLoRead t h cal s
  | .registerWrite t h addr data => Sys2Proof.Machine.execRegisterWrite t h addr data s
  | .scrubPass t f => Sys2Proof.Machine.execScrubPass t f s
  | .calibration t m => Sys2Proof.Machine.execCalibration t m s
  | .telemetry t => Sys2Proof.Machine.execTelemetry t s
  | .slackMeasure t ps => Sys2Proof.Machine.execSlackMeasure t ps s
  | .ageingDaily t a => Sys2Proof.Machine.execAgeingDaily t a s
  | .dramRetentionTest t failing => Sys2Proof.Machine.execDramRetentionTest t failing s
  | .lifeClockCalibrate t ppb => Sys2Proof.Machine.execLifeClockCalibrate t ppb s
  | .lifeCheckpoint t => Sys2Proof.Machine.execLifeCheckpoint t s
  | .lifetimeCounterUpdate t => Sys2Proof.Machine.execLifetimeCounterUpdate t s
  | .vkeepMeasure t mv => Sys2Proof.Machine.execVkeepMeasure t mv s
  | .tempHighTimer t => Sys2Proof.Machine.execTempHighTimer t s
  | .supplyChange t common islands => Sys2Proof.Machine.execSupplyChange t common islands s
  | .supplyLost t islands => Sys2Proof.Machine.execSupplyLost t islands s
  | .laneIslandBackInRange t l => Sys2Proof.Machine.execLaneIslandBackInRange t l s
  | .hostIdleRelease t n => Sys2Proof.Machine.execHostIdleRelease t n s
  | .ethConnectionClose t service => Sys2Proof.Machine.execEthConnectionClose t service s
  | .challengeExpiry t => Sys2Proof.Machine.execChallengeExpiry t s
  | .ptpLockLoss t => Sys2Proof.Machine.execPtpLockLoss t s
  | .calendarStepAtSecond t => Sys2Proof.Machine.execCalendarStepAtSecond t s

end Sys2Proof.Machine
end

