-- ==== Sys2Proof/WellFormed.lean ====
section
/-! DEFINITION. Which commands are well formed: what the spec's layouts and ranges demand of a command's operands. A
command that is not well formed is one nobody can send; exec gives every command a meaning all the same. -/
namespace Sys2Proof

/-- The VERB field of an instruction word (R60). -/
def verbCode (w : W64) : Nat := (w.extractLsb' 58 6).toNat

/-- A verb code that R63 defines; the other 12 are illegal (R62). -/
def legalVerb (c : Nat) : Bool :=
  (1 ≤ c && c ≤ 0x0A) || (0x10 ≤ c && c ≤ 0x1E) || (0x20 ≤ c && c ≤ 0x2E) || (0x30 ≤ c && c ≤ 0x35) || (0x38 ≤ c && c ≤ 0x3D)

/-- A word that may stand for the verb of code c: it carries that code or an illegal one, which traps (R62, R87). -/
def verbWord (c : Nat) (w : W64) : Bool := verbCode w == c || !legalVerb (verbCode w)

/-- A section's parts are as long as it says, 2 to 128 bytes each (R183). -/
def Sec.wf (x : Sec) : Bool :=
  x.out.length == x.olen.toNat && x.inp.length == x.ilen.toNat && decide (2 ≤ x.olen.toNat) && decide (x.olen.toNat ≤ 128)
    && decide (2 ≤ x.ilen.toNat) && decide (x.ilen.toNat ≤ 128)

/-- A frame has a claim body exactly when it is a CLAIM frame (R182, R229), and otherwise the sections it counts. -/
def Frame.wf (f : Frame) : Bool :=
  if f.hdr.ftype = 2 then f.claim.isSome && f.secs.isEmpty && f.hdr.secCount == 1
  else f.claim.isNone && f.secs.length == f.hdr.secCount.toNat && f.secs.all Sec.wf && decide (1 ≤ f.secs.length)

/-- An event router source number (R419). -/
def sourceNumber (n : Nat) : Bool := decide (1 ≤ n) && decide (n ≤ 191)

/-- A reflex code of R158. -/
def reflexCode (c : Nat) : Bool := (1 ≤ c && c ≤ 3) || (0x10 ≤ c && c ≤ 0x1A)

/-- A scan request covers 1 to 2^24 words (R390). -/
def ScanReq.wf (r : ScanReq) : Bool := decide (1 ≤ r.len) && decide (r.len ≤ 2 ^ 24)

/-- A command is well formed. -/
def Instr.wf : Instr → Bool
  | .verbLd _ w => verbWord 0x01 w
  | .verbLdn _ w => verbWord 0x02 w
  | .verbAnd _ w => verbWord 0x03 w
  | .verbAndn _ w => verbWord 0x04 w
  | .verbOr _ w => verbWord 0x05 w
  | .verbOrn _ w => verbWord 0x06 w
  | .verbXor _ w => verbWord 0x07 w
  | .verbXorn _ w => verbWord 0x08 w
  | .verbNot _ w => verbWord 0x09 w
  | .verbLdk _ w => verbWord 0x0A w
  | .verbSt _ w => verbWord 0x10 w
  | .verbStn _ w => verbWord 0x11 w
  | .verbSet _ w => verbWord 0x12 w
  | .verbRst _ w => verbWord 0x13 w
  | .verbOpen _ w => verbWord 0x14 w
  | .verbOpenn _ w => verbWord 0x15 w
  | .verbCloseAnd _ w => verbWord 0x16 w
  | .verbCloseOr _ w => verbWord 0x17 w
  | .verbTon _ w => verbWord 0x18 w
  | .verbTof _ w => verbWord 0x19 w
  | .verbTp _ w => verbWord 0x1A w
  | .verbTrst _ w => verbWord 0x1B w
  | .verbTrd _ w => verbWord 0x1C w
  | .verbEdgr _ w => verbWord 0x1D w
  | .verbEdgf _ w => verbWord 0x1E w
  | .verbWld _ w => verbWord 0x20 w
  | .verbWst _ w => verbWord 0x21 w
  | .verbWldi _ w => verbWord 0x22 w
  | .verbWadd _ w => verbWord 0x23 w
  | .verbWsub _ w => verbWord 0x24 w
  | .verbWaddi _ w => verbWord 0x25 w
  | .verbWand _ w => verbWord 0x26 w
  | .verbWor _ w => verbWord 0x27 w
  | .verbWeq _ w => verbWord 0x28 w
  | .verbWlt _ w => verbWord 0x29 w
  | .verbWeqi _ w => verbWord 0x2A w
  | .verbWlti _ w => verbWord 0x2B w
  | .verbWlda _ w => verbWord 0x2C w
  | .verbAldw _ w => verbWord 0x2D w
  | .verbWcnt _ w => verbWord 0x2E w
  | .verbJmp _ w => verbWord 0x30 w
  | .verbJc _ w => verbWord 0x31 w
  | .verbJnc _ w => verbWord 0x32 w
  | .verbCall _ w => verbWord 0x33 w
  | .verbRet _ w => verbWord 0x34 w
  | .verbEntry _ w => verbWord 0x35 w
  | .verbEnd _ w => verbWord 0x38 w
  | .verbNop _ w => verbWord 0x39 w
  | .verbCmall _ w => verbWord 0x3A w
  | .verbCmset _ w => verbWord 0x3B w
  | .verbCmld _ w => verbWord 0x3C w
  | .verbFault _ w => verbWord 0x3D w
  | .reflexFire _ code _ _ => reflexCode code
  | .linkSyncLost _ _ _ invalid => decide (4 ≤ invalid)
  | .ringFrameReceive _ _ _ f _ _ _ _ => f.wf
  | .ringFrameReturn _ _ _ f _ => f.wf
  | .claimFrameReceive _ _ _ f => f.wf && f.hdr.ftype == 2
  | .quietIntervalComplete _ unit => decide (unit < 512)
  | .doorDegTimeExpiry _ unit => decide (unit < 512)
  | .commandRecord _ _ b => decide (b.slot < 512)
  | .guardRecord _ _ units => units.all (fun g => decide (g.unit < 512) && decide (g.state < 4) && decide (g.proof < 3))
  | .eventRecord _ _ payload => decide (payload.length ≤ 235)
  | .combStreamRequest _ _ comb first last => decide (comb ≤ 2) && decide (first < 2 ^ 64) && decide (last < 2 ^ 64)
  | .scanRequest _ _ r => r.wf
  | .storedCheckFail _ code place _ _ _ => code.val != 3 || decide (place < 6)
  | .hpCommand _ _ _ _ tele _ => tele.length == 24
  | .ethConnectionAttempt _ port => decide (port < 65536)
  | .eventSourceFire _ n => sourceNumber n
  | .moderationTimeout _ n => sourceNumber n
  | .startupSelftestDone _ entries => entries.length == 11
  | .selftestStepDone _ entries => decide (entries.length ≤ 3)
  | .updOpen _ _ _ _ _ _ _ sig => sig.length == 64
  | .updData _ _ _ payload => decide (payload.length ≤ 1024)
  | .ageingDaily _ a => a.eyes.length == 7
  | .flowGuard _ _ => true
  | .inputLatch _ => true
  | .logicPhaseStart _ => true
  | .commitDeadline _ => true
  | .voteComplete _ _ => true
  | .commit _ => true
  | .retentiveCopy _ _ _ => true
  | .serviceRoleMove _ => true
  | .laneVoteReset _ _ => true
  | .laneReady _ _ _ => true
  | .rejoinPassEnd _ _ => true
  | .rejoinTimeout _ => true
  | .degradedClockExpiry _ => true
  | .degExpiryGraceEnd _ => true
  | .vinEvaluate _ _ => true
  | .vinDiscrepancyTimeout _ _ _ => true
  | .ringCycleBoundary _ => true
  | .returnDeadline _ => true
  | .linkSyncRegained _ _ _ _ => true
  | .linkFaultReceived _ _ _ => true
  | .healReadyTimer _ _ => true
  | .healTimer _ _ => true
  | .ringTestStart _ _ => true
  | .lockSilenceTimeout _ _ => true
  | .ringCandidateStart _ _ => true
  | .claimSilenceWin _ _ => true
  | .claimAbandon _ _ => true
  | .laneTimeMeasure _ _ => true
  | .dgClrGuard _ _ => true
  | .dgClrIsolate _ _ => true
  | .leaseRecord _ _ => true
  | .leaseAckRecord _ _ _ _ => true
  | .timeRecord _ _ _ _ _ _ => true
  | .timeRecordTimeout _ => true
  | .partRecord _ _ _ => true
  | .latchRecord _ _ _ => true
  | .commitRecord _ _ => true
  | .copyRecord _ _ _ => true
  | .statusRecord _ _ _ => true
  | .handoverOffer _ _ => true
  | .handoverAccept _ _ => true
  | .handoverRefuse _ _ => true
  | .handoverCommit _ _ => true
  | .handoverCancel _ _ => true
  | .releaseRecord _ _ => true
  | .claimRecord _ _ => true
  | .plLaneSyncChange _ _ _ => true
  | .leaseExpiry _ => true
  | .crownTake _ => true
  | .outTimeout _ => true
  | .startWaitExpiry _ => true
  | .rotationDue _ => true
  | .rotationRetry _ => true
  | .rotateNow _ _ => true
  | .pxStage _ _ => true
  | .stagingDone _ => true
  | .pxPropose _ _ => true
  | .pxCancel _ _ => true
  | .pxGoDeadline _ => true
  | .bankDirectoryUpdate _ => true
  | .cellCreate _ _ _ _ => true
  | .cellWriteDone _ _ => true
  | .queueRoom _ => true
  | .combScanDone _ _ => true
  | .combHoldupStop _ => true
  | .nandTimeout _ => true
  | .combFreezeReq _ _ _ => true
  | .freezeActive _ => true
  | .freezeTimeout _ => true
  | .combChalReq _ _ _ => true
  | .combClearGo _ _ _ => true
  | .clearInitialEraseDone _ _ _ => true
  | .clearDone _ _ _ => true
  | .combSnapTrig _ _ _ => true
  | .portByteWrite _ _ _ _ => true
  | .portHalfWrite _ _ _ _ => true
  | .portWordWrite _ _ _ _ => true
  | .portCopy _ _ _ _ => true
  | .portSplice _ _ _ _ => true
  | .portRead _ _ _ => true
  | .scanDone _ _ _ => true
  | .chkTestOpen _ _ => true
  | .chkTestWord _ _ _ => true
  | .chkTestHalf _ _ _ => true
  | .chkTestByte _ _ _ => true
  | .hpRead _ _ _ _ _ => true
  | .hpWrite _ _ _ _ _ _ => true
  | .hpRead16 _ _ _ _ _ => true
  | .hpCsAbandon _ => true
  | .hpCsClash _ => true
  | .hpResponseTimeout _ _ _ _ => true
  | .ethCommand _ _ _ => true
  | .calTelegram _ _ _ => true
  | .ethArpRequest _ _ => true
  | .ethIcmpEcho _ _ _ => true
  | .ethFrameDrop _ => true
  | .ethLinkChange _ _ => true
  | .ptpMessage _ _ _ => true
  | .evrClaim _ _ _ => true
  | .evrComplete _ _ _ _ => true
  | .hostIdleAssert _ _ => true
  | .powerOn _ _ => true
  | .brownOut _ => true
  | .nrstPulse _ _ => true
  | .nrstRelease _ => true
  | .laneWdogExpiry _ _ => true
  | .rstSwCold _ _ _ => true
  | .rstSwWarm _ _ _ => true
  | .holdEnd _ => true
  | .clocksStable _ _ => true
  | .clockStableTimeout _ => true
  | .optionLoadDone _ => true
  | .pllStable _ _ => true
  | .firmwareAccepted _ _ => true
  | .settingsLoadDone _ => true
  | .moduleReady _ _ _ => true
  | .updHello _ _ _ => true
  | .updClose _ _ => true
  | .updAbortMsg _ _ _ => true
  | .updChecksDone _ _ => true
  | .updWriteDone _ _ => true
  | .updSessionTimeout _ => true
  | .updCtlAbort _ _ => true
  | .updCtlRestart _ _ _ => true
  | .updCtlRecover _ _ _ => true
  | .recoveryReqSend _ => true
  | .recoveryReq _ _ _ _ _ => true
  | .pairInfoSend _ => true
  | .pairInfo _ _ _ _ _ => true
  | .stStop _ _ _ _ => true
  | .selftestStart _ => true
  | .loopbackEnd _ => true
  | .selftestCutShort _ => true
  | .stAuthChalReq _ _ _ => true
  | .stAuthGo _ _ _ _ => true
  | .jtagInstruction _ _ => true
  | .stInjFire _ _ _ => true
  | .stInjEnd _ _ _ => true
  | .injectSessionExpiry _ => true
  | .injectionEnd _ => true
  | .stOvrArm _ _ => true
  | .stAtbSelect _ _ _ _ => true
  | .ringTestReq _ _ _ _ => true
  | .ringClrMax _ _ _ => true
  | .laneClrMax _ _ _ => true
  | .tkCalSet _ _ => true
  | .tbTimeLoRead _ _ => true
  | .combSeqLoRead _ _ => true
  | .pxIdLoRead _ _ _ => true
  | .setIdLoRead _ _ _ => true
  | .tkLoRead _ _ _ => true
  | .registerWrite _ _ _ _ => true
  | .scrubPass _ _ => true
  | .calibration _ _ => true
  | .telemetry _ => true
  | .slackMeasure _ _ => true
  | .dramRetentionTest _ _ => true
  | .lifeClockCalibrate _ _ => true
  | .lifeCheckpoint _ => true
  | .lifetimeCounterUpdate _ => true
  | .vkeepMeasure _ _ => true
  | .tempHighTimer _ => true
  | .supplyChange _ _ _ => true
  | .supplyLost _ _ => true
  | .laneIslandBackInRange _ _ => true
  | .hostIdleRelease _ _ => true
  | .ethConnectionClose _ _ => true
  | .challengeExpiry _ => true
  | .ptpLockLoss _ => true
  | .calendarStepAtSecond _ => true

end Sys2Proof
end

