-- ==== Sys2Proof/Safety.lean ====
section
/-! DEFINITION. The terms claims are stated in: which words execute, how an engine moves on, what a host is answered, what
holds in every state a run can reach. -/
namespace Sys2Proof.Machine

/-! ### The engine -/

/-- The lane and the instruction word of an engine verb's command, with the code of its row (R60, R63). -/
def verbOf : Instr → Option (Nat × Lane × W64)
  | .verbLd l w => some (0x01, l, w)
  | .verbLdn l w => some (0x02, l, w)
  | .verbAnd l w => some (0x03, l, w)
  | .verbAndn l w => some (0x04, l, w)
  | .verbOr l w => some (0x05, l, w)
  | .verbOrn l w => some (0x06, l, w)
  | .verbXor l w => some (0x07, l, w)
  | .verbXorn l w => some (0x08, l, w)
  | .verbNot l w => some (0x09, l, w)
  | .verbLdk l w => some (0x0A, l, w)
  | .verbSt l w => some (0x10, l, w)
  | .verbStn l w => some (0x11, l, w)
  | .verbSet l w => some (0x12, l, w)
  | .verbRst l w => some (0x13, l, w)
  | .verbOpen l w => some (0x14, l, w)
  | .verbOpenn l w => some (0x15, l, w)
  | .verbCloseAnd l w => some (0x16, l, w)
  | .verbCloseOr l w => some (0x17, l, w)
  | .verbTon l w => some (0x18, l, w)
  | .verbTof l w => some (0x19, l, w)
  | .verbTp l w => some (0x1A, l, w)
  | .verbTrst l w => some (0x1B, l, w)
  | .verbTrd l w => some (0x1C, l, w)
  | .verbEdgr l w => some (0x1D, l, w)
  | .verbEdgf l w => some (0x1E, l, w)
  | .verbWld l w => some (0x20, l, w)
  | .verbWst l w => some (0x21, l, w)
  | .verbWldi l w => some (0x22, l, w)
  | .verbWadd l w => some (0x23, l, w)
  | .verbWsub l w => some (0x24, l, w)
  | .verbWaddi l w => some (0x25, l, w)
  | .verbWand l w => some (0x26, l, w)
  | .verbWor l w => some (0x27, l, w)
  | .verbWeq l w => some (0x28, l, w)
  | .verbWlt l w => some (0x29, l, w)
  | .verbWeqi l w => some (0x2A, l, w)
  | .verbWlti l w => some (0x2B, l, w)
  | .verbWlda l w => some (0x2C, l, w)
  | .verbAldw l w => some (0x2D, l, w)
  | .verbWcnt l w => some (0x2E, l, w)
  | .verbJmp l w => some (0x30, l, w)
  | .verbJc l w => some (0x31, l, w)
  | .verbJnc l w => some (0x32, l, w)
  | .verbCall l w => some (0x33, l, w)
  | .verbRet l w => some (0x34, l, w)
  | .verbEntry l w => some (0x35, l, w)
  | .verbEnd l w => some (0x38, l, w)
  | .verbNop l w => some (0x39, l, w)
  | .verbCmall l w => some (0x3A, l, w)
  | .verbCmset l w => some (0x3B, l, w)
  | .verbCmld l w => some (0x3C, l, w)
  | .verbFault l w => some (0x3D, l, w)
  | _ => none

/-- The instruction word executes (R51, R60, R86): it carries verb code c, lane l's engine runs, and it meets no trap
condition. -/
def Executes (c : Nat) (l : Lane) (w : W64) (s : State) : Prop :=
  (vword w).verb.toNat = c ∧ (s.eng.at l).run = .running
    ∧ trapOf ((activeProg s l).getD {}) (s.bank.at l).active (workOf s l) (vword w) = none

/-- The engine runs and reads a word of verb code c without an uncorrectable error (R51, R52). -/
def Fetched (c : Nat) (l : Lane) (w : W64) (s : State) : Prop :=
  (vword w).verb.toNat = c ∧ (s.eng.at l).run = .running
    ∧ (s.st.at l).bad.contains (.insn (s.bank.at l).active (s.eng.at l).pc.toNat) = false

/-- The command traps lane l with a cause (R86, R87): the engine stops with its registers as they were, no store changes,
the cause and the index of the instruction are recorded, and the cause's flag of LANE_FAULT is set. -/
def TrapsWith (cause : Nat) (i : Instr) (l : Lane) (s : State) : Prop :=
  ∃ t : State, exec i s = .next t
    ∧ t.eng = s.eng.put l { s.eng.at l with run := .stopped }
    ∧ t.st = s.st
    ∧ (t.lane.at l).trap = pack [(1, 31), (cause, 0)]
    ∧ (t.lane.at l).trapIndex = pack [(b2n (s.bank.at l).active, 31), (0, 30), ((s.eng.at l).pc.toNat, 0)]
    ∧ (t.lane.at l).fault = (s.lane.at l).fault ||| (1#8 <<< trapFlag cause)

/-- The engine after an instruction that changes no other register: PC and the lane clocks move on. -/
def stepped (v : VWord) (e : Engine) : Engine :=
  { e with pc := e.pc + 1, viaCall := false, clocks := e.clocks + verbClocks e v }

/-- Column j is acted on (R49, R50). -/
def acts (e : Engine) (v : VWord) (j : Nat) : Bool := if v.p then e.cmask.getLsbD j else decide (j = 0)

/-- The operand bit that column j sees (R53, R55): Q of a timer cell, or a bit of the addressed word. -/
def seen (st : Stores) (v : VWord) (j : Nat) : Bool :=
  if timerHalf v then (readTimer st (lowAddr v + (if v.p then j else 0))).q
  else (readLoc st (operandWord v)).getLsbD (if v.p then j else operandBit v)

/-- Bit j of the addressed word is written by a bit store (R65): an enabled column, or the one bit addressed. -/
def touched (e : Engine) (v : VWord) (j : Nat) : Bool := if v.p then e.cmask.getLsbD j else decide (j = operandBit v)

/-- The bit of ACC that goes to bit j of the addressed word. -/
def source (e : Engine) (v : VWord) (j : Nat) : Bool := if v.p then e.acc.getLsbD j else e.acc.getLsbD 0

/-! ### What a verb does, in the shapes of its tables -/

/-- A verb of R64: each column acted on takes f of the word, its old ACC bit and the operand bit; every other column of ACC,
every other register of the engine and every store keep what they held. -/
def LogicVerb (i : Lane → W64 → Instr) (c : Nat) (f : W64 → Bool → Bool → Bool) : Prop :=
  ∀ (l : Lane) (w : W64) (s : State), Executes c l w s →
    ∃ a : W64, exec (i l w) s
        = .next (putWork l { workOf s l with eng := { stepped (vword w) (s.eng.at l) with acc := a } } s)
      ∧ ∀ j, j < 64 → a.getLsbD j =
          if acts (s.eng.at l) (vword w) j then f w ((s.eng.at l).acc.getLsbD j) (seen (s.st.at l) (vword w) j)
          else (s.eng.at l).acc.getLsbD j

/-- A verb of R65: each bit written takes f of ACC and the old bit; every other bit of the addressed word and every other
word of every store keep what they held, and so does the engine but for PC and its clocks. -/
def StoreVerb (i : Lane → W64 → Instr) (c : Nat) (f : Bool → Bool → Bool) : Prop :=
  ∀ (l : Lane) (w : W64) (s : State), Executes c l w s →
    ∃ x : Stores, exec (i l w) s
        = .next (putWork l { workOf s l with eng := stepped (vword w) (s.eng.at l), st := x } s)
      ∧ (∀ j, j < 64 → (readLoc x (operandWord (vword w))).getLsbD j =
          if touched (s.eng.at l) (vword w) j then
            f (source (s.eng.at l) (vword w) j) ((readLoc (s.st.at l) (operandWord (vword w))).getLsbD j)
          else (readLoc (s.st.at l) (operandWord (vword w))).getLsbD j)
      ∧ (∀ y, y ≠ operandWord (vword w) → readLoc x y = readLoc (s.st.at l) y)
      ∧ x.timer = (s.st.at l).timer ∧ x.inp = (s.st.at l).inp ∧ x.bad = (s.st.at l).bad

/-- OPEN or OPENN (R66): all of ACC is pushed, then each column acted on takes f of its operand bit. -/
def OpenVerb (i : Lane → W64 → Instr) (c : Nat) (f : Bool → Bool) : Prop :=
  ∀ (l : Lane) (w : W64) (s : State), Executes c l w s →
    (s.eng.at l).clause.length < 32 ∧
    ∃ a : W64, exec (i l w) s
        = .next (putWork l { workOf s l with eng := { stepped (vword w) (s.eng.at l) with
            acc := a, clause := (s.eng.at l).acc :: (s.eng.at l).clause } } s)
      ∧ ∀ j, j < 64 → a.getLsbD j =
          if acts (s.eng.at l) (vword w) j then f (seen (s.st.at l) (vword w) j) else (s.eng.at l).acc.getLsbD j

/-- CLOSE.AND or CLOSE.OR (R66): the top entry is popped and combined with ACC in each column acted on. -/
def CloseVerb (i : Lane → W64 → Instr) (c : Nat) (f : Bool → Bool → Bool) : Prop :=
  ∀ (l : Lane) (w : W64) (s : State), Executes c l w s →
    ∃ (top : W64) (rest : List W64) (a : W64), (s.eng.at l).clause = top :: rest ∧ exec (i l w) s
        = .next (putWork l { workOf s l with eng := { stepped (vword w) (s.eng.at l) with acc := a, clause := rest } } s)
      ∧ ∀ j, j < 64 → a.getLsbD j =
          if acts (s.eng.at l) (vword w) j then f (top.getLsbD j) ((s.eng.at l).acc.getLsbD j)
          else (s.eng.at l).acc.getLsbD j

/-- The timer cell that column j of a timer verb addresses (R50, R71). -/
def cellAt (v : VWord) (j : Nat) : Nat := lowAddr v + (if v.p then j else 0)

/-- A timer verb (R71, R73): the cell of every column acted on is evaluated once, with input from ACC, and its Q goes to
ACC; every other cell, store and column keeps what it held. -/
def TimerVerb (i : Lane → W64 → Instr) (c : Nat) (f : BitVec 26 → Bool → TimerCell → TimerCell) : Prop :=
  ∀ (l : Lane) (w : W64) (s : State), Executes c l w s →
    ∃ (x : Stores) (a : W64), exec (i l w) s
        = .next (putWork l { workOf s l with eng := { stepped (vword w) (s.eng.at l) with acc := a }, st := x } s)
      ∧ (∀ j, j < 64 → acts (s.eng.at l) (vword w) j = true →
          readTimer x (cellAt (vword w) j) = f ((vword w).op2.extractLsb' 0 26) ((s.eng.at l).acc.getLsbD j)
            (readTimer (s.st.at l) (cellAt (vword w) j))
          ∧ a.getLsbD j = (readTimer x (cellAt (vword w) j)).q)
      ∧ (∀ j, j < 64 → acts (s.eng.at l) (vword w) j = false → a.getLsbD j = (s.eng.at l).acc.getLsbD j)
      ∧ (∀ k, (∀ j, j < 64 → acts (s.eng.at l) (vword w) j = true → k ≠ cellAt (vword w) j) →
          readTimer x k = readTimer (s.st.at l) k)
      ∧ x.noun = (s.st.at l).noun ∧ x.inp = (s.st.at l).inp ∧ x.out = (s.st.at l).out ∧ x.bad = (s.st.at l).bad

/-- The prime mark of bit j of an edge word (R342). -/
def marked (k : Work) (v : VWord) (j : Nat) : Bool := (tabGet 0 k.primes (lowAddr v / (if v.p then 1 else 64))).getLsbD j

/-- EDGR or EDGF (R75, R342): each bit acted on, whose mark holds, first takes m := A; then the result is f A m, and m := A.
Marks of the bits acted on are cleared. `bit` is the bit of the edge word that column j uses. -/
def EdgeVerb (i : Lane → W64 → Instr) (c : Nat) (f : Bool → Bool → Bool) : Prop :=
  ∀ (l : Lane) (w : W64) (s : State), Executes c l w s →
    ∃ (x : Stores) (a : W64) (p : Tab W64), exec (i l w) s
        = .next (putWork l { eng := { stepped (vword w) (s.eng.at l) with acc := a }, st := x, primes := p } s)
      ∧ (∀ j, j < 64 → acts (s.eng.at l) (vword w) j = true →
          a.getLsbD j = f ((s.eng.at l).acc.getLsbD j)
            (if marked (workOf s l) (vword w) (if (vword w).p then j else operandBit (vword w))
              then (s.eng.at l).acc.getLsbD j else seen (s.st.at l) (vword w) j))
      ∧ (∀ j, j < 64 → acts (s.eng.at l) (vword w) j = false → a.getLsbD j = (s.eng.at l).acc.getLsbD j)
      ∧ (∀ j, j < 64 → (readLoc x (operandWord (vword w))).getLsbD j =
          if touched (s.eng.at l) (vword w) j then source (s.eng.at l) (vword w) j
          else (readLoc (s.st.at l) (operandWord (vword w))).getLsbD j)
      ∧ (∀ y, y ≠ operandWord (vword w) → readLoc x y = readLoc (s.st.at l) y)
      ∧ (∀ j, j < 64 → touched (s.eng.at l) (vword w) j = true → marked ⟨s.eng.at l, x, p⟩ (vword w) j = false)
      ∧ x.timer = (s.st.at l).timer ∧ x.inp = (s.st.at l).inp ∧ x.bad = (s.st.at l).bad

/-- A word verb (R76): W takes f of W and the word x gives; ACC, the other registers and the stores keep what they held. -/
def WordVerb (i : Lane → W64 → Instr) (c : Nat) (x : Stores → Engine → VWord → W64) (f : W64 → W64 → W64) : Prop :=
  ∀ (l : Lane) (w : W64) (s : State), Executes c l w s →
    exec (i l w) s = .next (putWork l { workOf s l with eng := { stepped (vword w) (s.eng.at l) with
      w := f (s.eng.at l).w (x (s.st.at l) (s.eng.at l) (vword w)) } } s)

/-- A verb that gives every enabled column of ACC the bit f of W and the word x gives (R76). -/
def ColumnVerb (i : Lane → W64 → Instr) (c : Nat) (x : Stores → Engine → VWord → W64) (f : W64 → W64 → Nat → Bool) : Prop :=
  ∀ (l : Lane) (w : W64) (s : State), Executes c l w s →
    ∃ a : W64, exec (i l w) s
        = .next (putWork l { workOf s l with eng := { stepped (vword w) (s.eng.at l) with acc := a } } s)
      ∧ ∀ j, j < 64 → a.getLsbD j =
          if (s.eng.at l).cmask.getLsbD j then f (s.eng.at l).w (x (s.st.at l) (s.eng.at l) (vword w)) j
          else (s.eng.at l).acc.getLsbD j

/-- A flow or mask verb: the engine becomes f of the word, the engine that has moved on, and the engine before; the stores
keep what they held. -/
def EngineVerb (i : Lane → W64 → Instr) (c : Nat) (f : VWord → Stores → Engine → Engine) : Prop :=
  ∀ (l : Lane) (w : W64) (s : State), Executes c l w s →
    exec (i l w) s = .next (putWork l { workOf s l with eng := f (vword w) (s.st.at l) (stepped (vword w) (s.eng.at l)) } s)

/-- The condition of a jump (R77): some enabled column of ACC, or column 0 alone in the singular form. -/
def someColumn (e : Engine) (v : VWord) : Prop := ∃ j, j < 64 ∧ acts e v j = true ∧ e.acc.getLsbD j = true

/-! ### The host port -/

/-- The host port is open and the block of an address is served. -/
def Served (addr : Nat) (s : State) : Prop := hostOpen s = true ∧ gate addr s = none

/-- The response the module drives to host h: a status and data (R401, R402). -/
def Answers (h : HostId) (status : Nat) (data : List Byte) (p : Hp) : Prop :=
  ∃ r, p.resp = some r ∧ r.host = h ∧ r.status = status ∧ r.data = data

/-! ### The partner link -/

/-- A record sent once arrives sound (R295), and no fault is injected into it (R509). -/
def Sound (x : Rcv) (s : State) : Prop := x.sound = true ∧ injected 0x0901 s = none

/-- A record sent twice arrives with both copies saying b, in time (R296). -/
def Agreed {α : Type} (x : Twin α) (b : α) (s : State) : Prop :=
  x.c0 = some b ∧ x.c1 = some b ∧ x.gap ≤ 2000 ∧ injected 0x0901 s = none

/-- A record sent twice (R296): each copy without a sound check is counted, and copies that are not two, equal and in time
count once and change nothing else; an injected fault takes the first copy (R509). Agreed copies complete, and how far apart
they came is all one. -/
def TwinChecked {α : Type} (f : Nat → Twin α → Instr) : Prop :=
  ∀ (t : Nat) (x : Twin α) (c0 : Option α) (s u : State), u = elapse t s → c0 = (if (injected 0x0901 u).isSome then none else x.c0) →
    ((c0 = none ∨ x.c1 = none) ∨ c0 ≠ x.c1 ∨ 2000 < x.gap → exec (f t x) s = .next { spendOnce 0x0901 u with
      pl := { u.pl with
        errCheck := satAdd u.pl.errCheck (b2n c0.isNone + b2n x.c1.isNone) 0xFFFF
        errDup := if c0.isNone && x.c1.isNone then u.pl.errDup else satAdd u.pl.errDup 1 0xFFFF } })
    ∧ (∀ b, Agreed x b u → ∃ v : State, exec (f t x) s = .next v ∧ exec (f t { x with gap := 0 }) s = .next v)

/-- The state once a sound record of a rank has been taken. -/
def heard (rank : W32) (s : State) : State := { s with crown := { s.crown with partnerRank := rank } }

/-- What the partner link has sent after one more record: nothing more while neither lane is in sync (R297). -/
def sent (r : PlOut) (s : State) : List PlSent := if s.pl.sync0 || s.pl.sync1 then s.pl.out ++ plCopies r s else s.pl.out

/-! ### Resets -/

/-- The blocks that no reset keeps anything of (R431, R435) hold their reset values. -/
def BlocksReset (v : State) : Prop :=
  v.eng = State.reset.eng ∧ v.st = State.reset.st ∧ v.tg = State.reset.tg ∧ v.wp = State.reset.wp ∧ v.door = State.reset.door
    ∧ v.px = State.reset.px ∧ v.cyc = State.reset.cyc ∧ v.vote = State.reset.vote ∧ v.vin = State.reset.vin
    ∧ v.glb = State.reset.glb ∧ v.set = State.reset.set ∧ v.port = State.reset.port ∧ v.chk = State.reset.chk
    ∧ v.crown = State.reset.crown

/-! ### Every state -/

/-- The code store is in its canonical form: addresses rising, no byte listed that reads as erased. -/
def storeWf (s : State) : Bool := tabWf 0xFF s.store

/-- What holds in every state: the code store is canonical, and every command that waits is well formed. -/
def Inv (s : State) : Prop := storeWf s = true ∧ s.pending.all Instr.wf = true

end Sys2Proof.Machine
end

