-- ==== Sys2Proof/Certificates/Slice0/Obligations.lean ====
section
/-! DEFINITION. The statements for the provers. -/
open Sys2Proof Sys2Proof.Machine

/-! ## The machine -/

/-- R60: fields and words of instructions are the same thing, and the word of the fields is the sum the rule gives. -/
def Obligations.InstructionWordFields : Prop :=
  (∀ v : VWord, vword (vwordEncode v) = v
    ∧ (vwordEncode v).toNat = v.verb.toNat * 2 ^ 58 + v.p.toNat * 2 ^ 57 + v.space.toNat * 2 ^ 55 + v.addr.toNat * 2 ^ 32
        + v.op2.toNat)
  ∧ (∀ w : W64, vwordEncode (vword w) = w)
  ∧ ((List.range 64).filter (fun c => (verbForm (BitVec.ofNat 6 c)).isSome)).length = 52

/-- The command at the front of the queue is performed on the state with the queue's rest. The model's choice (log entry 2):
with no command waiting nothing happens. -/
def Obligations.StepPerformsTheFrontCommand : Prop :=
  (∀ (c : Instr) (rest : List Instr) (s : State), s.pending = c :: rest → step s = exec c { s with pending := rest })
  ∧ (∀ s : State, s.pending = [] → step s = .next s)

/-- The invariant holds right after reset. Model choices: log entries 3, 4. -/
def Obligations.InvariantAtReset : Prop := Inv State.reset

/-- Every step keeps the invariant: the code store stays canonical and the queue holds well-formed commands. Model choices:
log entries 2, 4. -/
def Obligations.StepKeepsInvariant : Prop := ∀ s t : State, Inv s → step s = .next t → Inv t

/-- No command touches the queue of the commands that wait, and none writes a fuse. -/
def Obligations.CommandsLeaveQueueAndFuses : Prop :=
  ∀ (c : Instr) (s t : State), exec c s = .next t → t.pending = s.pending ∧ t.fuse = s.fuse

/-! ## The engine -/

/-- R64: the ten verbs that set ACC from ACC and an operand bit; an LDK with a bit of OP2 [31:1] set traps. -/
def Obligations.LogicVerbs : Prop :=
  LogicVerb .verbLd 0x01 (fun _ _ x => x) ∧ LogicVerb .verbLdn 0x02 (fun _ _ x => !x)
  ∧ LogicVerb .verbAnd 0x03 (fun _ a x => a && x) ∧ LogicVerb .verbAndn 0x04 (fun _ a x => a && !x)
  ∧ LogicVerb .verbOr 0x05 (fun _ a x => a || x) ∧ LogicVerb .verbOrn 0x06 (fun _ a x => a || !x)
  ∧ LogicVerb .verbXor 0x07 (fun _ a x => a != x) ∧ LogicVerb .verbXorn 0x08 (fun _ a x => a == x)
  ∧ LogicVerb .verbNot 0x09 (fun _ a _ => !a) ∧ LogicVerb .verbLdk 0x0A (fun w _ _ => w.getLsbD 0)
  ∧ (∀ (l : Lane) (w : W64) (s : State), Fetched 0x0A l w s → (vword w).op2 >>> 1 ≠ 0 → TrapsWith 0x02 (.verbLdk l w) l s)

/-- R65: the four verbs that store bits; a store into SPACE 0b01 or 0b11 traps with READ_ONLY, where the word meets no
condition of a lower code (R86). -/
def Obligations.BitStoreVerbs : Prop :=
  StoreVerb .verbSt 0x10 (fun a _ => a) ∧ StoreVerb .verbStn 0x11 (fun a _ => !a)
  ∧ StoreVerb .verbSet 0x12 (fun a x => x || a) ∧ StoreVerb .verbRst 0x13 (fun a x => x && !a)
  ∧ (∀ (i : Instr) (c : Nat) (l : Lane) (w : W64) (s : State), verbOf i = some (c, l, w) → 0x10 ≤ c → c ≤ 0x13 → Fetched c l w s →
      ((vword w).space = 1 ∨ (vword w).space = 3) → inRange (vword w) = true → (vword w).op2 = 0 → TrapsWith 0x04 i l s)

/-- R66: the clause stack. -/
def Obligations.ClauseVerbs : Prop :=
  OpenVerb .verbOpen 0x14 (fun x => x) ∧ OpenVerb .verbOpenn 0x15 (fun x => !x)
  ∧ CloseVerb .verbCloseAnd 0x16 (fun e a => e && a) ∧ CloseVerb .verbCloseOr 0x17 (fun e a => e || a)

/-- R71: a timer verb evaluates each cell it addresses once, by the steps of its row of the table, in their order; the cell
keeps its BASE and RET, and A takes Q. R74: TRD sets W to COUNT, zero-extended, and changes nothing else. -/
def Obligations.TimerVerbs : Prop :=
  TimerVerb .verbTon 0x18 (fun preset i c =>
      let c1 : TimerCell := if i = false then { c with q := false, run := false, count := preset } else c
      let c2 : TimerCell := if i = true ∧ c1.run = false ∧ c1.q = false then { c1 with run := true, count := preset } else c1
      if c2.run = true ∧ c2.count = 0 then { c2 with q := true, run := false } else c2)
  ∧ TimerVerb .verbTof 0x19 (fun preset i c =>
      let c1 : TimerCell := if i = true then { c with q := true, run := false, count := preset } else c
      let c2 : TimerCell := if i = false ∧ c1.q = true ∧ c1.run = false then { c1 with run := true } else c1
      if c2.run = true ∧ c2.count = 0 then { c2 with q := false, run := false } else c2)
  ∧ TimerVerb .verbTp 0x1A (fun preset i c =>
      let c1 : TimerCell := if i = true ∧ c.last = false ∧ c.run = false then { c with q := true, run := true, count := preset } else c
      let c2 : TimerCell := if c1.run = true ∧ c1.count = 0 then { c1 with q := false, run := false } else c1
      { c2 with last := i })
  ∧ TimerVerb .verbTrst 0x1B (fun preset i c =>
      if i = true then { c with q := false, run := false, last := false, count := preset } else c)
  ∧ WordVerb .verbTrd 0x1C (fun st _ v => (readTimer st (lowAddr v)).count.setWidth 64) (fun _ x => x)

/-- R75, with the first evaluation of R342: the edge verbs; one whose operand lies outside the edge half traps with
ILLEGAL_FORM. -/
def Obligations.EdgeVerbs : Prop :=
  EdgeVerb .verbEdgr 0x1D (fun a m => a && !m) ∧ EdgeVerb .verbEdgf 0x1E (fun a m => !a && m)
  ∧ (∀ (i : Instr) (c : Nat) (l : Lane) (w : W64) (s : State), verbOf i = some (c, l, w) → (c = 0x1D ∨ c = 0x1E) → Fetched c l w s →
      ((vword w).space ≠ 3 ∨ (vword w).addr.getLsbD 22 = false) → TrapsWith 0x02 i l s)

/-- R76: the verbs that set W, and WST, which stores it and traps with READ_ONLY in SPACE 0b01 and 0b11. R76: the
comparisons, signed for WLT and WLTI, and ALDW, which puts W into ACC column by column. -/
def Obligations.WordVerbs : Prop :=
  (WordVerb .verbWld 0x20 (fun st _ v => readLoc st (operandWord v)) (fun _ x => x)
  ∧ WordVerb .verbWldi 0x22 (fun _ _ v => v.op2.signExtend 64) (fun _ x => x)
  ∧ WordVerb .verbWadd 0x23 (fun st _ v => readLoc st (operandWord v))
      (fun y x => BitVec.ofInt 64 (max (-2 ^ 63) (min (2 ^ 63 - 1) (y.toInt + x.toInt))))
  ∧ WordVerb .verbWsub 0x24 (fun st _ v => readLoc st (operandWord v))
      (fun y x => BitVec.ofInt 64 (max (-2 ^ 63) (min (2 ^ 63 - 1) (y.toInt - x.toInt))))
  ∧ WordVerb .verbWaddi 0x25 (fun _ _ v => v.op2.signExtend 64)
      (fun y x => BitVec.ofInt 64 (max (-2 ^ 63) (min (2 ^ 63 - 1) (y.toInt + x.toInt))))
  ∧ WordVerb .verbWand 0x26 (fun st _ v => readLoc st (operandWord v)) (fun y x => y &&& x)
  ∧ WordVerb .verbWor 0x27 (fun st _ v => readLoc st (operandWord v)) (fun y x => y ||| x)
  ∧ WordVerb .verbWlda 0x2C (fun _ e _ => e.acc) (fun _ x => x)
  ∧ WordVerb .verbWcnt 0x2E (fun _ e _ => BitVec.ofNat 64
      ((List.range 64).filter (fun j => e.acc.getLsbD j && e.cmask.getLsbD j)).length) (fun _ x => x)
  ∧ (∀ (l : Lane) (w : W64) (s : State), Executes 0x21 l w s →
      ∃ x : Stores, exec (.verbWst l w) s
          = .next (putWork l { workOf s l with eng := stepped (vword w) (s.eng.at l), st := x } s)
        ∧ readLoc x (operandWord (vword w)) = (s.eng.at l).w
        ∧ (∀ y, y ≠ operandWord (vword w) → readLoc x y = readLoc (s.st.at l) y)
        ∧ x.timer = (s.st.at l).timer ∧ x.inp = (s.st.at l).inp ∧ x.bad = (s.st.at l).bad)
  ∧ (∀ (l : Lane) (w : W64) (s : State), Fetched 0x21 l w s → ((vword w).space = 1 ∨ (vword w).space = 3) → (vword w).p = true →
      inRange (vword w) = true → (vword w).op2 = 0 → TrapsWith 0x04 (.verbWst l w) l s))
  ∧ (ColumnVerb .verbWeq 0x28 (fun st _ v => readLoc st (operandWord v)) (fun y x _ => decide (y = x))
  ∧ ColumnVerb .verbWlt 0x29 (fun st _ v => readLoc st (operandWord v)) (fun y x _ => decide (y.toInt < x.toInt))
  ∧ ColumnVerb .verbWeqi 0x2A (fun _ _ v => v.op2.signExtend 64) (fun y x _ => decide (y = x))
  ∧ ColumnVerb .verbWlti 0x2B (fun _ _ v => v.op2.signExtend 64) (fun y x _ => decide (y.toInt < x.toInt))
  ∧ ColumnVerb .verbAldw 0x2D (fun _ _ _ => 0) (fun y _ j => y.getLsbD j))

/-- R77, R79, R80: jumps are taken or not by ACC, CALL pushes the next index, RET goes back to it. Model choices: log
entries 27, 156, 157. -/
def Obligations.FlowVerbs : Prop :=
  EngineVerb .verbJmp 0x30 (fun v _ e => { e with pc := v.op2.setWidth 18 })
  ∧ EngineVerb .verbCall 0x33 (fun v _ e => { e with call := e.pc :: e.call, pc := v.op2.setWidth 18, viaCall := true })
  ∧ EngineVerb .verbEntry 0x35 (fun _ _ e => e)
  ∧ (∀ (l : Lane) (w : W64) (s : State), Executes 0x31 l w s →
      (someColumn (s.eng.at l) (vword w) → exec (.verbJc l w) s = .next (putWork l { workOf s l with
          eng := { stepped (vword w) (s.eng.at l) with pc := (vword w).op2.setWidth 18 } } s))
      ∧ (¬ someColumn (s.eng.at l) (vword w) → exec (.verbJc l w) s = .next (putWork l { workOf s l with
          eng := stepped (vword w) (s.eng.at l) } s)))
  ∧ (∀ (l : Lane) (w : W64) (s : State), Executes 0x32 l w s →
      (¬ someColumn (s.eng.at l) (vword w) → exec (.verbJnc l w) s = .next (putWork l { workOf s l with
          eng := { stepped (vword w) (s.eng.at l) with pc := (vword w).op2.setWidth 18 } } s))
      ∧ (someColumn (s.eng.at l) (vword w) → exec (.verbJnc l w) s = .next (putWork l { workOf s l with
          eng := stepped (vword w) (s.eng.at l) } s)))
  ∧ (∀ (l : Lane) (w : W64) (s : State), Executes 0x34 l w s →
      ∃ (r : BitVec 18) (rs : List (BitVec 18)), (s.eng.at l).call = r :: rs ∧ exec (.verbRet l w) s
        = .next (putWork l { workOf s l with eng := { stepped (vword w) (s.eng.at l) with pc := r, call := rs } } s))

/-- R83, R84: NOP, the column mask verbs, and FAULT, which acts only while column 0 of ACC is 1. -/
def Obligations.MaskAndFaultVerbs : Prop :=
  EngineVerb .verbNop 0x39 (fun _ _ e => e)
  ∧ EngineVerb .verbCmall 0x3A (fun _ _ e => { e with cmask := 0xFFFFFFFFFFFFFFFF })
  ∧ EngineVerb .verbCmset 0x3B (fun _ _ e => { e with cmask := e.acc })
  ∧ EngineVerb .verbCmld 0x3C (fun v st e => { e with cmask := readLoc st (operandWord v) })
  ∧ EngineVerb .verbFault 0x3D (fun v _ e => if e.acc.getLsbD 0 then
      { e with faultWord := addFault e.faultWord (v.op2.extractLsb' 30 2) (v.op2.extractLsb' 0 16) } else e)

/-- R81, R90: END stops the engine with its phase ended; LANE_RUN and its maximum take the lane clocks of the phase; the
stores of every lane, the other engines and the other lanes' status blocks keep what they held. Model choices: log entry 23.
-/
def Obligations.EndVerb : Prop :=
  ∀ (l : Lane) (w : W64) (s : State), Executes 0x38 l w s →
    ∃ t : State, exec (.verbEnd l w) s = .next t
      ∧ t.eng = s.eng.put l { stepped (vword w) (s.eng.at l) with run := .ended }
      ∧ t.st = s.st
      ∧ (t.lane.at l).run = (s.eng.at l).clocks + 1
      ∧ (t.lane.at l).runMax = max (s.lane.at l).runMax ((s.eng.at l).clocks + 1)
      ∧ (t.lane.at l).cycle = (s.eng.at l).cycle
      ∧ (∀ m, m ≠ l → t.lane.at m = s.lane.at m)
      ∧ t.cyc = s.cyc ∧ t.keep = s.keep ∧ t.evr = s.evr ∧ t.comb = s.comb ∧ t.clk = s.clk

/-- R86, R87: a word that meets a trap condition, whatever verb it stands for, stops the engine and has no other effect on
the engine, ACC, the stacks and the stores; the cause and the instruction's index are recorded. R82: the flow guard stops an
engine whose count of lane clocks has passed WCET, with cause FLOW_GUARD. R51: while the engine of its lane does not run, a
word of a verb changes nothing at all. Model choices: log entries 1, 23, 24, 28. -/
def Obligations.TrapsStopTheEngine : Prop :=
  (∀ (i : Instr) (c : Nat) (l : Lane) (w : W64) (s : State) (cause : Nat),
    verbOf i = some (c, l, w) → i.wf = true → (s.eng.at l).run = .running →
    trapOf ((activeProg s l).getD {}) (s.bank.at l).active (workOf s l) (vword w) = some cause → TrapsWith cause i l s)
  ∧ (∀ (t : Nat) (l : Lane) (s : State), (s.eng.at l).run = .running →
    ((activeProg s l).getD {}).wcet < phaseClocks (elapse t s) l →
    ∃ u : State, exec (.flowGuard t l) s = .next u
      ∧ u.eng = s.eng.put l { s.eng.at l with run := .stopped }
      ∧ u.st = s.st
      ∧ (u.lane.at l).trap = pack [(1, 31), (0x07, 0)]
      ∧ (u.lane.at l).fault = (s.lane.at l).fault ||| 4#8)
  ∧ (∀ (i : Instr) (c : Nat) (l : Lane) (w : W64) (s : State),
    verbOf i = some (c, l, w) → i.wf = true → (s.eng.at l).run ≠ .running → exec i s = .next s)

/-! ## The program cycle -/

/-- R93, R94, R96: at B(n) the cycle's number and instants advance; every lane that latches sees n and B(n) in words 0x1212
and 0x1213 of its input image, which a lane still in the phase of the cycle before takes up at its end (R57); engines, lane
states, the vote unit and the keep domain stay. Model choices: log entries 1, 65, 73. -/
def Obligations.InputLatchOpensTheCycle : Prop :=
  ∀ (t : Nat) (s u : State), u = elapse t s →
    u.cyc.on = true → u.cyc.phase = .idle → crowned u = true → u.crown.firstLatch = false → u.cyc.takeover = false →
    0 < tProg u → ringNow u < boundaryAt u (ringNow u) + 4000 → boundaryAt u (ringNow u) ≠ u.cyc.b →
    u.cyc.firstAt ≤ boundaryAt u (ringNow u) →
    ∃ v : State, exec (.inputLatch t) s = .next v
      ∧ v.cyc.n = u.cyc.n + 1 ∧ v.cyc.b = boundaryAt u (ringNow u) ∧ v.cyc.bPrev = u.cyc.b ∧ v.cyc.phase = .latched
      ∧ (∀ l, latches u l = true →
          tabGet 0 ((v.st.at l).latched.getD (v.st.at l).inp) 0x1212 = (u.cyc.n + 1).setWidth 64
          ∧ tabGet 0 ((v.st.at l).latched.getD (v.st.at l).inp) 0x1213 = BitVec.ofNat 64 (boundaryAt u (ringNow u)))
      ∧ (∀ l, (v.st.at l).noun = (u.st.at l).noun ∧ (v.st.at l).timer = (u.st.at l).timer ∧ (v.st.at l).out = (u.st.at l).out)
      ∧ v.eng = u.eng ∧ v.lane = u.lane ∧ v.vote = u.vote ∧ v.keep = u.keep ∧ v.comb = u.comb ∧ v.evr = u.evr ∧ v.clk = u.clk

/-- R47, R70: at L(n) the engine of every lane that runs the phase starts with empty registers and the 4,096 clocks of the
timer sweep, over the output image committed last; the timer sweep changes no noun word; other lanes are not touched. Model
choices: log entries 1, 65. -/
def Obligations.LogicPhaseStartsTheEngines : Prop :=
  ∀ (t : Nat) (s u : State), u = elapse t s →
    u.cyc.phase = .latched → runsCycles u = true → u.cyc.b + 4000 ≤ ringNow u → u.cyc.imaged = true → u.px.swap = false →
    u.vote.mode ≠ .halted → (∀ l, (u.eng.at l).run ≠ .running) → (∀ l, sweepStop (u.st.at l) = none) → u.test.inj = none →
    ∃ v : State, exec (.logicPhaseStart t) s = .next v ∧ v.cyc.phase = .logic
      ∧ (∀ l, runsPhase u l = true →
          v.eng.at l = { run := .running, clocks := 4096, startAt := u.clk.now, cycle := u.cyc.n }
          ∧ (v.st.at l).out = u.cyc.img ∧ (v.st.at l).noun = (u.st.at l).noun
          ∧ (v.st.at l).inp = (u.st.at l).latched.getD (u.st.at l).inp)
      ∧ (∀ l, runsPhase u l = false → v.eng.at l = u.eng.at l ∧ v.st.at l = u.st.at l)
      ∧ v.lane = u.lane ∧ v.vote = u.vote ∧ v.keep = u.keep ∧ v.comb = u.comb ∧ v.evr = u.evr ∧ v.ring = u.ring

/-- R114, R120: at D(n) a lane whose phase of cycle n has ended takes part in the vote; one still running skips the cycle
and counts it. Engines and stores stay; class 2 scans are suspended. Model choices: log entries 1, 65. -/
def Obligations.CommitDeadlineDecidesSkips : Prop :=
  ∀ (t : Nat) (s u : State), u = elapse t s → u.cyc.phase = .logic → u.cyc.b + tProg u ≤ ringNow u + 32000 →
    ∃ v : State, exec (.commitDeadline t) s = .next v ∧ v.cyc.phase = .voting
      ∧ (∀ l, takesPart u l = true → (u.eng.at l).run = .ended → (u.eng.at l).cycle = u.cyc.n →
          v.cyc.atEnd.at l = true ∧ (v.lane.at l).skipConsec = 0)
      ∧ (∀ l, takesPart u l = true → (u.eng.at l).run = .running →
          v.cyc.skipping.at l = true ∧ (v.lane.at l).skipTotal = satAdd (u.lane.at l).skipTotal 1 0xFFFF)
      ∧ (∀ l, (v.port.at l).susp = true)
      ∧ v.eng = u.eng ∧ v.st = u.st ∧ v.keep = u.keep ∧ v.ring = u.ring ∧ v.clk = u.clk

/-- R137, R138: of three images present, a word takes the value that two of them share, else its declared safe value. R135
to R141: the vote ends with its result in hand; the images and engines it compared stay as they are. Model choices: log
entries 1, 58, 162. -/
def Obligations.VoteTakesTheMajority : Prop :=
  (∀ (s : State) (w : Nat), presentLanes s = [.a, .b, .c] → w < 0x1000 →
    let x := tabGet 0 s.st.a.out w
    let y := tabGet 0 s.st.b.out w
    let z := tabGet 0 s.st.c.out w
    (x = y ∨ x = z → tabGet 0 (voteImages s).image w = x)
    ∧ (y = z → tabGet 0 (voteImages s).image w = y)
    ∧ (x ≠ y → x ≠ z → y ≠ z → tabGet 0 (voteImages s).image w = tabGet 0 (safeTable s) w))
  ∧ (∀ (t : Nat) (e : Tri W32) (s u : State), u = elapse t s → u.cyc.phase = .voting → crowned u = true →
    ∃ (v : State) (r : VoteRes), exec (.voteComplete t e) s = .next v ∧ v.cyc.phase = .voted ∧ v.cyc.res = some r
      ∧ r.image = (voteImages u).image ∧ r.faultWord = (voteImages u).faultWord ∧ r.skipped = (voteImages u).skipped
      ∧ v.eng = u.eng ∧ v.st = u.st ∧ v.lane = u.lane ∧ v.ring = u.ring ∧ v.clk = u.clk)

/-- R33, R94, R118, R124: at C(n) the voted image is committed and the write phase of cycle n carries it; a cycle skipped as
a whole repeats the latest image, HELD. The keep domain holds n as the latest committed cycle. R125, R386: a lane's
retentive copy of the latest committed cycle goes into the slot that does not hold its newest verified copy, with its stamp
and a check that verifies; cut off, it leaves that slot without a valid stamp; the other slot, and everything else, stays.
Model choices: log entries 1, 65, 66, 71. -/
def Obligations.CommitTakesTheVote : Prop :=
  (∀ (t : Nat) (r : VoteRes) (s u : State), u = elapse t s →
    commitDue u = true → u.cyc.res = some r → crowned u = true → u.crown.ho = none →
    ∃ v : State, exec (.commit t) s = .next v
      ∧ v.keep.lastCommit = some u.cyc.n ∧ v.glb.commitCycle = u.cyc.n ∧ v.vote.cycle = u.cyc.n ∧ v.cyc.phase = .idle
      ∧ (r.skipped = false → u.vote.mode ≠ .halted → u.cyc.safeStop = false → r.faultWord.getLsbD 63 = false →
          v.cyc.img = r.image ∧ v.wp.img = r.image ∧ v.wp.cycle = u.cyc.n ∧ v.wp.held = false)
      ∧ (skippedWhole u r = true → v.cyc.img = u.cyc.img ∧ v.wp.img = u.wp.img ∧ v.wp.held = true)
      ∧ v.st = u.st ∧ v.store = u.store)
  ∧ (∀ (t : Nat) (l : Lane) (s u : State), u = elapse t s → copyDue u l = true →
    (∃ (x : RetSlots) (r : LaneRegs) (c : RetCopy),
      exec (.retentiveCopy t l true) s = .next { u with ret := u.ret.put l x, lane := u.lane.put l r }
      ∧ r = { u.lane.at l with retValid := true, retSlot := r.retSlot, retCycle := u.cyc.imgCycle }
      ∧ ((u.lane.at l).retValid = true → r.retSlot = !(u.lane.at l).retSlot)
      ∧ (if r.retSlot then x.slot1 = some c ∧ x.slot0 = (u.ret.at l).slot0 else x.slot0 = some c ∧ x.slot1 = (u.ret.at l).slot1)
      ∧ c.cycle = u.cyc.imgCycle ∧ c.progId = (copyProgram u l).id ∧ copyVerifies l r.retSlot c = true
      ∧ (∀ k, (copyProgram u l).retStart ≤ k → k < (copyProgram u l).retStart + (copyProgram u l).retLen →
          tabGet 0 c.noun k = tabGet 0 (u.st.at l).noun k))
    ∧ ∃ x : RetSlots, exec (.retentiveCopy t l false) s = .next { u with ret := u.ret.put l x }
      ∧ (∀ c, x.at ((u.lane.at l).retValid && !(u.lane.at l).retSlot) = some c → c.stamped = false)
      ∧ x.at (!((u.lane.at l).retValid && !(u.lane.at l).retSlot)) = (u.ret.at l).at (!((u.lane.at l).retValid && !(u.lane.at l).retSlot)))

/-! ## Lanes, vote unit and vital inputs -/

/-- R24 to R26: the service role moves to the next lane in service, is counted, and closes the host's check context. Model
choices: log entries 1, 7. -/
def Obligations.ServiceRoleMoves : Prop :=
  ∀ (t : Nat) (m : Lane) (s u : State), u = elapse t s →
    inService u u.glb.svc = false → nextService u u.glb.svc = some m →
    ∃ (g : Glb) (k : Chk) (e : Evr) (c : Comb),
      exec (.serviceRoleMove t) s = .next { u with glb := g, chk := k, evr := e, comb := c }
      ∧ g = { u.glb with svc := m, svcMoves := satAdd u.glb.svcMoves 1 0xFF, svcForced := g.svcForced }
      ∧ k.test = none ∧ k.moved = (u.chk.moved || u.chk.test.isSome)

/-- R144, R145, R432: the vote-ordered reset of an excluded lane gives it the state STARTING with fresh units; a lane whose
supply or clock is out of range waits, and takes its reset when its island is back in range; other lanes stay. R158, R432: a
lane whose watchdog expires takes a LANE_WDOG reset: fresh units, its counter, the WATCHDOG fault flag. Model choices: log
entries 1, 69. -/
def Obligations.LaneResets : Prop :=
  ((∀ (t : Nat) (l : Lane) (s u : State), u = elapse t s → (u.lane.at l).state = .excluded → (u.lane.at l).resetDue = true →
    (u.lane.at l).wdogReset = false → (u.lane.at l).supplyIn = true → (u.lane.at l).clockIn = true →
    ∃ v : State, exec (.laneVoteReset t l) s = .next v
      ∧ (v.lane.at l).state = .starting ∧ (v.lane.at l).resetDue = false ∧ (v.lane.at l).ready = false
      ∧ v.eng.at l = {} ∧ v.st.at l = {} ∧ v.port.at l = {} ∧ v.keep.cnt = setNth u.keep.cnt 4 (satAdd (nthD 0 u.keep.cnt 4) 1 0xFFFF)
      ∧ (∀ m, m ≠ l → v.lane.at m = u.lane.at m ∧ v.eng.at m = u.eng.at m ∧ v.st.at m = u.st.at m)
      ∧ v.cyc = u.cyc ∧ v.ring = u.ring ∧ v.store = u.store)
  ∧ (∀ (t : Nat) (l : Lane) (s u : State), u = elapse t s → (u.lane.at l).state = .excluded → (u.lane.at l).resetDue = true →
    (u.lane.at l).wdogReset = false → (u.lane.at l).resetHeld = true → u.test.inj = none → u.test.once = none →
    ∃ v : State, exec (.laneIslandBackInRange t l) s = .next v
      ∧ (v.lane.at l).state = .starting ∧ (v.lane.at l).supplyIn = true ∧ (v.lane.at l).clockIn = true
      ∧ (v.lane.at l).resetHeld = false ∧ v.eng.at l = {}
      ∧ (∀ m, m ≠ l → v.lane.at m = u.lane.at m ∧ v.eng.at m = u.eng.at m)))
  ∧ (∀ (t : Nat) (l : Lane) (s u : State), u = elapse t s → (u.lane.at l).state ≠ .off → (u.lane.at l).state ≠ .excluded →
    u.vote.mode ≠ .halted → u.vote.rejoin = none →
    ∃ v : State, exec (.laneWdogExpiry t l) s = .next v
      ∧ v.eng.at l = {} ∧ v.st.at l = {} ∧ (v.lane.at l).fault.getLsbD 0 = true ∧ (v.lane.at l).wdogReset = true
      ∧ v.keep.cnt = setNth u.keep.cnt 3 (satAdd (nthD 0 u.keep.cnt 3) 1 0xFFFF) ∧ v.keep.laneSrc = 4 ∧ v.keep.laneOf = l.num
      ∧ (∀ m, m ≠ l → v.lane.at m = u.lane.at m ∧ v.eng.at m = u.eng.at m ∧ v.st.at m = u.st.at m))

/-- R323, R393: a starting lane is ready when both of its check units give their known answers and it has loaded its
program, and not otherwise. R148, R149, R151: a good pass that ends after the next L starts the next pass; pass 0 that has
lasted 8 program cycles fails the rejoin, which excludes the lane and is counted. Model choices: log entries 1, 102. -/
def Obligations.LaneReadinessAndRejoin : Prop :=
  (∀ (t : Nat) (l : Lane) (units : BitVec 2) (s u : State), u = elapse t s → u.rst.stage = .ready →
    (u.lane.at l).state = .starting → (u.lane.at l).ready = false → u.test.katWrong.at l = false →
    ∃ v : State, exec (.laneReady t l units) s = .next v ∧ (v.port.at l).kat = units
      ∧ (v.lane.at l).ready = (decide (units = 3) && (loadProgram u u.keep.bank).isSome)
      ∧ (∀ m, m ≠ l → (v.lane.at m).ready = (u.lane.at m).ready) ∧ v.eng = u.eng ∧ v.st = u.st ∧ v.keep = u.keep)
  ∧ ((∀ (t : Nat) (err : W32) (r : Rejoin) (s u : State), u = elapse t s → u.vote.rejoin = some r → r.proving = false →
    r.inPass = true → u.cyc.phase = .idle → passGood err u r = true → r.pass < 63 → r.snapB + tProg u + 4000 < ringNow u →
    ∃ v : State, exec (.rejoinPassEnd t err) s = .next v
      ∧ v.vote.rejoin = some { r with pass := r.pass + 1, inPass := false }
      ∧ (∀ m, m ≠ r.lane → v.st.at m = u.st.at m) ∧ v.eng = u.eng ∧ v.keep = u.keep ∧ v.cyc = u.cyc)
  ∧ (∀ (t : Nat) (r : Rejoin) (s u : State), u = elapse t s → u.vote.rejoin = some r → r.proving = false → r.inPass = true →
    r.pass = 0 → 8 ≤ r.cycles → u.vote.hold = true →
    ∃ v : State, exec (.rejoinTimeout t) s = .next v
      ∧ v.vote.rejoin = none ∧ v.vote.aborts = satAdd u.vote.aborts 1 0xFF
      ∧ (v.lane.at r.lane).state ≠ .rejoining ∧ (v.lane.at r.lane).resetDue = true ∧ v.st = u.st ∧ v.eng = u.eng))

/-- R155, R156: when the degraded clock expires a module that does not hold the crown refuses it from then on and forgoes a
handover it has accepted or its own candidacy; the holder waits a second for its handover, and then the vote unit halts with
DEG_EXPIRED. Model choices: log entries 1, 70. -/
def Obligations.DegradedClockExpires : Prop :=
  (∀ (t : Nat) (s u : State), u = elapse t s → u.vote.degRun = true → u.vote.degEnd ≤ u.clk.lifeUs → crowned u = false →
    ∃ v : State, exec (.degradedClockExpiry t) s = .next v
      ∧ v.vote = { u.vote with degRun := false, degLeft := 0, degExpired := true }
      ∧ v.crown.ho = none ∧ v.crown.state ≠ .candidate ∧ v.lane = u.lane ∧ v.eng = u.eng ∧ v.st = u.st
      ∧ (u.crown.state ≠ .candidate → ∃ (e : Evr) (c : Comb),
          v = { u with vote := v.vote, evr := e, comb := c, crown := { u.crown with ho := none } }))
  ∧ (∀ (t : Nat) (s u : State), u = elapse t s → u.vote.degRun = true → u.vote.degEnd ≤ u.clk.lifeUs → crowned u = true →
    ∃ v : State, exec (.degradedClockExpiry t) s = .next v ∧ v.vote.degRun = false
      ∧ v.vote.graceEnd = some (u.clk.lifeUs + 1000000) ∧ v.lane = u.lane ∧ v.eng = u.eng ∧ v.cyc = u.cyc)
  ∧ (∀ (t e : Nat) (s u : State), u = elapse t s → u.vote.graceEnd = some e → e ≤ u.clk.lifeUs → crowned u = true →
    ∃ v : State, exec (.degExpiryGraceEnd t) s = .next v ∧ v.vote.mode = .halted ∧ 0x19 ∈ v.vote.modAct
      ∧ v.vote.graceEnd = none ∧ (∀ l, v.vote.permit.at l = false) ∧ v.lane = u.lane ∧ v.eng = u.eng)

/-- R158, R159, R162, R164: a module-scope detector takes every permit low at once, is the first reflex when none was, sets
its REFLEX_SRC flag, and halts the vote unit unless its code is SUPPLY_LOST or SAFE_STOP; a lane-scope one stops its lane
alone. Model choices: log entry 1. -/
def Obligations.ReflexActs : Prop :=
  (∀ (t code : Nat) (l : Lane) (r : Ring) (s u : State), u = elapse t s → 0x10 ≤ code → code ≤ 0x19 → crowned u = true →
    ∃ v : State, exec (.reflexFire t code l r) s = .next v
      ∧ code ∈ v.vote.modAct ∧ (∀ m, v.vote.permit.at m = false)
      ∧ (v.vote.mode = .halted ↔ (u.vote.mode = .halted ∨ (code ≠ 0x15 ∧ code ≠ 0x18)))
      ∧ v.vote.first = (if u.vote.first = 0 ∨ (u.vote.firstAt = u.clk.now ∧ code < u.vote.first) then code else u.vote.first)
      ∧ v.vote.src.getLsbD (srcBit code) = true ∧ v.cyc.safeStop = (u.cyc.safeStop || code == 0x18)
      ∧ (code = 0x17 → (v.ring.at r).gfault = true)
      ∧ (code = 0x15 → u.rst.powered = true → u.pwr.holdup = false → v.pwr.holdup = true ∧ v.crown.closed = true)
      ∧ v.lane = u.lane ∧ v.eng = u.eng ∧ v.st = u.st ∧ v.crown.state = u.crown.state ∧ v.crown.epoch = u.crown.epoch)
  ∧ (∀ (t code : Nat) (l : Lane) (r : Ring) (s u : State), u = elapse t s → 1 ≤ code → code ≤ 3 → u.vote.mode ≠ .halted →
      u.vote.rejoin = none →
    ∃ v : State, exec (.reflexFire t code l r) s = .next v
      ∧ v.vote.laneAct.at l = true ∧ v.vote.permit.at l = false ∧ v.vote.modAct = u.vote.modAct
      ∧ (v.lane.at l).fault.getLsbD (laneCodeFlag code) = true
      ∧ (∀ m, m ≠ l → v.lane.at m = u.lane.at m) ∧ v.eng = u.eng ∧ v.st = u.st ∧ v.keep = u.keep)

/-- R169 to R172: once in each ring cycle every ready lane evaluates its samples by its own contacts: an input reads closed
only while both contacts read closed and pass their tests for the debounce count with no fault latched; contacts that differ
longer than the discrepancy time latch cause 1 and read open. Model choices: log entries 1, 61, 164. -/
def Obligations.VitalInputsAreEvaluated : Prop :=
  (∀ (t : Nat) (x : Tri VinSample) (s u : State), u = elapse t s → u.rst.stage = .ready → vinDue u = true → u.test.inj = none →
    u.test.once = none →
    ∃ (f : Vin) (c : Comb), exec (.vinEvaluate t x) s = .next { u with vin := f, comb := c }
      ∧ f.discrepMs = u.vin.discrepMs ∧ f.debounce = u.vin.debounce
      ∧ (∀ l, (u.lane.at l).ready = false → f.ev.at l = u.vin.ev.at l)
      ∧ (∀ l i, (u.lane.at l).ready = true → i < 8 → (nthD {} (f.ev.at l) i).closed = true →
          (x.at l).steady.getLsbD i = true ∧ (x.at l).steady.getLsbD (8 + i) = true
          ∧ contactFails (x.at l) i 0 = 0 ∧ contactFails (x.at l) i 1 = 0 ∧ (nthD {} (f.ev.at l) i).cause = 0
          ∧ u.vin.debounce ≤ (nthD {} (f.ev.at l) i).good))
  ∧ (∀ (t d : Nat) (l : Lane) (i : Fin 8) (s u : State), u = elapse t s → (u.vin.ev.at l).length = 8 →
      (nthD {} (u.vin.ev.at l) i.val).differ = some d → (nthD {} (u.vin.ev.at l) i.val).cause = 0 →
      d + u.vin.discrepMs * 1000000 < ringNow u →
    ∃ (f : Vin) (c : Comb), exec (.vinDiscrepancyTimeout t l i) s = .next { u with vin := f, comb := c }
      ∧ (nthD {} (f.ev.at l) i.val).cause = 1 ∧ (nthD {} (f.ev.at l) i.val).closed = false
      ∧ (∀ j, j ≠ i.val → nthD {} (f.ev.at l) j = nthD {} (u.vin.ev.at l) j) ∧ (∀ m, m ≠ l → f.ev.at m = u.vin.ev.at m))

/-! ## The rings -/

/-- R181 to R184, R191, R198, R217, R242, R299: at a boundary that both channels find open, the master of a ring sends one
CYCLE frame, in dual transmission one on each pair: its header names the committed cycle, the epoch, the boundary's ring
time and this module, its checks verify; it carries section 255 and then a section for each node of the table, or, when
HELD, the sections sent last with their seals. A renewal in it is noted at that ring time. R228, R229, R295: a candidate
sends the next CLAIM frame on both pairs and a CLAIM record. R206: a port in test mode sends a TEST frame of epoch and cycle
0, its output parts and seals 0. The other ring ports, the engines, the stores, the lanes, the vote unit, the keep domain
and the router stay. Model choices: log entries 1, 6, 16, 67. -/
def Obligations.MasterSendsTheCycleFrame : Prop :=
  ∀ (t b : Nat) (r : Ring) (x y : Lane) (zs : List Lane) (s u : State), u = elapse t s → inUse u r = true →
    (∀ q, q ≠ r → inUse u q = false ∧ (u.ring.at q).testOn = false ∧ (u.ring.at q).toWin = false) →
    viewLanes u = x :: y :: zs → channelOpen u r x = some b → channelOpen u r y = some b → (u.ring.at r).sentRing ≠ b →
    (crowned u = true → (u.ring.at r).testOn = false → (u.ring.at r).toWin = false → (u.ring.at r).claim.state ≠ .claiming →
      (u.ring.at r).dualPend = false → (u.ring.at r).healSent = false → (u.ring.at r).cleanRun < 8 →
      ∃ (v : State) (f g : Frame), exec (.ringCycleBoundary t) s = .next v
        ∧ (v.ring.at r).tx = (if (u.ring.at r).dual then [(.fwd, f), (.bwd, g)] else [(.fwd, f)])
        ∧ (v.ring.at r).sent = some f ∧ (v.ring.at r).sentRing = b
        ∧ (v.ring.at r).frames = (u.ring.at r).frames + (if (u.ring.at r).dual then 2 else 1)
        ∧ f.hdr.ftype = 1 ∧ f.hdr.cycle = u.wp.cycle ∧ f.hdr.epoch = u.crown.epoch ∧ f.hdr.ringTime = BitVec.ofNat 64 b
        ∧ f.hdr.masterId = u.fuse.rank ∧ f.hdr.beaconSeq = BitVec.ofNat 16 (b / tRing u)
        ∧ f.hdr.flags = BitVec.ofNat 8 (4 * b2n u.wp.held + 8 * b2n ((u.ring.at r).dual && (u.ring.at r).heal) + 16 * b2n (u.ring.at r).dual)
        ∧ f.hdr.secCount = BitVec.ofNat 16 f.secs.length ∧ hdrOk r f.hdr = true ∧ trlOk r f = true
        ∧ g.secs = f.secs ∧ g.hdr = { f.hdr with flags := f.hdr.flags + 2, check := g.hdr.check } ∧ hdrOk r g.hdr = true ∧ trlOk r g = true
        ∧ (u.wp.held = false → f.secs.map Sec.addr = 255 :: (u.ring.at r).table.map (fun e => BitVec.ofNat 8 e.addr))
        ∧ (∀ h, u.wp.held = true → (u.ring.at r).sent = some h →
            f.secs.map Sec.addr = h.secs.map Sec.addr ∧ f.secs.map Sec.seals = h.secs.map Sec.seals)
        ∧ (u.wp.held = false → renews u = true → v.crown.lastTs = max u.crown.lastTs b)
        ∧ (∀ q, q ≠ r → v.ring.at q = u.ring.at q)
        ∧ v.eng = u.eng ∧ v.st = u.st ∧ v.lane = u.lane ∧ v.vote = u.vote ∧ v.keep = u.keep ∧ v.evr = u.evr)
    ∧ (u.crown.state = .candidate → (u.ring.at r).testOn = false → (u.ring.at r).claim.state = .claiming →
      ∃ (v : State) (f g : Frame) (c : ClaimBody), exec (.ringCycleBoundary t) s = .next v
        ∧ (v.ring.at r).tx = [(.fwd, f), (.bwd, g)] ∧ (v.ring.at r).sentRing = b
        ∧ f.hdr.ftype = 2 ∧ f.hdr.epoch = u.crown.epoch ∧ f.hdr.cycle = 0 ∧ f.hdr.ringTime = BitVec.ofNat 64 b
        ∧ f.hdr.masterId = u.fuse.rank ∧ hdrOk r f.hdr = true ∧ trlOk r f = true
        ∧ f.claim = some c ∧ c.seq = BitVec.ofNat 16 (u.ring.at r).claim.next ∧ c.mask = BitVec.ofNat 8 (2 ^ r.val)
        ∧ g.claim = some c ∧ g.hdr = { f.hdr with flags := 2, check := g.hdr.check } ∧ hdrOk r g.hdr = true ∧ trlOk r g = true
        ∧ (v.ring.at r).claim.sent = (b, u.clk.now, (u.ring.at r).claim.next) :: (u.ring.at r).claim.sent
        ∧ (v.ring.at r).claim.next = (u.ring.at r).claim.next + 1
        ∧ (v.ring.at r).claim.first = some ((u.ring.at r).claim.first.getD u.clk.now)
        ∧ v.pl.out = sent (.claim { epoch := u.crown.epoch, body := c }) u
        ∧ (∀ q, q ≠ r → v.ring.at q = u.ring.at q)
        ∧ v.crown = u.crown ∧ v.eng = u.eng ∧ v.st = u.st ∧ v.lane = u.lane ∧ v.vote = u.vote ∧ v.keep = u.keep ∧ v.evr = u.evr)
    ∧ (crowned u = false → u.crown.state ≠ .candidate → u.crown.state ≠ .off → (u.ring.at r).testOn = true →
      (u.ring.at r).testReq = true → (u.ring.at r).testLeave = false →
      ∃ (v : State) (f : Frame), exec (.ringCycleBoundary t) s = .next v
        ∧ (v.ring.at r).tx = [(.fwd, f)] ∧ (v.ring.at r).sent = some f ∧ (v.ring.at r).sentRing = b
        ∧ f.hdr.ftype = 4 ∧ f.hdr.epoch = 0 ∧ f.hdr.cycle = 0 ∧ f.hdr.ringTime = BitVec.ofNat 64 b ∧ f.hdr.masterId = u.fuse.rank
        ∧ hdrOk r f.hdr = true ∧ trlOk r f = true
        ∧ f.secs.map Sec.addr = 255 :: (u.ring.at r).table.map (fun e => BitVec.ofNat 8 e.addr)
        ∧ (∀ x ∈ f.secs, x.seals = ⟨0, 0, 0⟩ ∧ ∀ z ∈ x.out, z = 0)
        ∧ (∀ q, q ≠ r → v.ring.at q = u.ring.at q)
        ∧ v.crown = u.crown ∧ v.eng = u.eng ∧ v.st = u.st ∧ v.lane = u.lane ∧ v.vote = u.vote ∧ v.keep = u.keep ∧ v.evr = u.evr)

/-- R188 to R190, R194, R208: the master's own frame comes back whole, unaltered and in time on the forward pair of a ring
in single transmission: the copy is taken, the round trip measured, and a section whose FRESH has risen by one becomes the
master's copy of that node's input part. Model choices: log entries 1, 40, 85. -/
def Obligations.ReturnedFrameIsTaken : Prop :=
  ∀ (t : Nat) (r : Ring) (f g : Frame) (s u : State), u = elapse t s → crowned u = true → roleOf u r = .master →
    (u.ring.at r).testOn = false → (u.ring.at r).dual = false → (u.ring.at r).sent = some g → (u.ring.at r).heardF = false →
    (u.ring.at r).copyF = none → (u.ring.at r).copyB = none → inTime u r = true → frameOk r f = true → sameBlocks f g = true →
    f.hdr.masterId = u.fuse.rank → f.hdr.epoch = u.crown.epoch → f.hdr.ftype = 1 → injected 0x0603 u = none →
    ∃ v : State, exec (.ringFrameReturn t r .fwd f 0) s = .next v
      ∧ (v.ring.at r).copyF = some f ∧ (v.ring.at r).heardF = true
      ∧ (v.ring.at r).round = u.clk.now - (u.ring.at r).sentAt
      ∧ (v.ring.at r).roundMax = max (u.ring.at r).roundMax (u.clk.now - (u.ring.at r).sentAt)
      ∧ (v.ring.at r).check = (u.ring.at r).check ∧ (v.ring.at r).altered = (u.ring.at r).altered
      ∧ (∀ a x0 x, a ∈ frameAddrs (u.ring.at r) → secOf g a = some x0 → secOf f a = some x → x.fresh = x0.fresh + 1 →
          (nodeCnt (v.ring.at r) a).fresh = x.fresh ∧ (nodeCnt (v.ring.at r) a).inp = x.inp
          ∧ (nodeCnt (v.ring.at r) a).age = 0 ∧ (nodeCnt (v.ring.at r) a).line = 1)
      ∧ (∀ q, q ≠ r → v.ring.at q = u.ring.at q) ∧ v.eng = u.eng ∧ v.st = u.st ∧ v.lane = u.lane

/-- R194, R198: at the return deadline each master's frame is settled: the copies that have not come are counted late, and
one whose forward copy has not come sets dual transmission for the next boundary. Model choices: log entries 1, 168. -/
def Obligations.ReturnDeadlineCountsLateCopies : Prop :=
  ∀ (t : Nat) (s u : State), u = elapse t s → crowned u = true →
    ∃ v : State, exec (.returnDeadline t) s = .next v ∧ v.eng = u.eng ∧ v.st = u.st
      ∧ ∀ r, roleOf u r = .master → (u.ring.at r).sent.isSome = true → (u.ring.at r).merged = false →
          (u.ring.at r).testOn = false → (u.ring.at r).sentRing + ringCycle u r ≤ ringNow u + 2000 →
          (v.ring.at r).merged = true
          ∧ ((u.ring.at r).dual = true →
              (v.ring.at r).late = satAdd (u.ring.at r).late (b2n (!(u.ring.at r).heardF) + b2n (!(u.ring.at r).heardB)) 0xFFFF)
          ∧ ((u.ring.at r).dual = false → (u.ring.at r).heardF = false → (v.ring.at r).dualPend = true)

/-- R185, R186, R192, R230, R304: a standby port passes a whole frame on with HOPS one higher, its header and every section
but 255 as they came and its checks right; of an epoch not seen before the keep domain takes note. A candidate's own claim
is taken off the ring and its round trip measured. Model choices: log entries 1, 79, 169. -/
def Obligations.StandbyPassesFramesOn : Prop :=
  (∀ (t arrived : Nat) (ppb : Int) (r : Ring) (p : Pair) (f : Frame) (s u : State), u = elapse t s → roleOf u r = .standby →
    (u.ring.at r).wrapped = none → (u.ring.at r).silent = false → u.test.looped.at r = false → u.vote.mode ≠ .halted →
    u.crown.degRestart = false → frameOk r f = true → f.hdr.ftype = 1 → isWrapped f = false → f.hdr.masterId ≠ u.fuse.rank →
    firstCopy (u.ring.at r) f = true → injected 0x0603 u = none →
    ∃ (v : State) (g : Frame), exec (.ringFrameReceive t r p f arrived ppb false 0) s = .next v
      ∧ (v.ring.at r).tx = [(p, g)] ∧ g.hdr = f.hdr ∧ g.trl.hops = f.trl.hops + 1 ∧ g.trl.flags = f.trl.flags ∧ trlOk r g = true
      ∧ g.secs.length = f.secs.length
      ∧ (∀ (i : Nat) (x : Sec), f.secs[i]? = some x → x.addr ≠ 255 → g.secs[i]? = some x)
      ∧ (v.ring.at r).lastSeen = some f.hdr.ringTime ∧ u.keep.epochKept.toNat ≤ v.keep.epochKept.toNat
      ∧ f.hdr.epoch.toNat ≤ v.keep.epochKept.toNat ∧ v.eng = u.eng ∧ v.st = u.st ∧ v.lane = u.lane)
  ∧ (∀ (t : Nat) (r : Ring) (p : Pair) (f : Frame) (s u : State), u = elapse t s → roleOf u r = .standby →
    (u.ring.at r).wrapped = none → (u.ring.at r).silent = false → u.test.looped.at r = false → u.vote.mode ≠ .halted →
    frameOk r f = true → f.hdr.ftype = 2 → isWrapped f = false → f.hdr.masterId ≠ u.fuse.rank → injected 0x0603 u = none →
    ∃ (v : State) (g : Frame), exec (.claimFrameReceive t r p f) s = .next v
      ∧ (v.ring.at r).tx = [(p, g)] ∧ g.hdr = f.hdr ∧ g.secs = f.secs ∧ g.claim = f.claim ∧ g.trl.hops = f.trl.hops + 1
      ∧ trlOk r g = true ∧ f.hdr.epoch.toNat ≤ v.keep.epochKept.toNat ∧ v.crown = u.crown ∧ v.eng = u.eng ∧ v.lane = u.lane)
  ∧ (∀ (t b at0 n : Nat) (r : Ring) (p : Pair) (f : Frame) (s u : State), u = elapse t s → roleOf u r = .origin →
    (u.ring.at r).testOn = false → (u.ring.at r).silent = false → u.test.looped.at r = false → u.vote.mode ≠ .halted →
    frameOk r f = true → f.hdr.ftype = 2 → f.hdr.masterId = u.fuse.rank → f.hdr.epoch = u.crown.epoch →
    (u.ring.at r).claim.sent = [(b, at0, n)] → f.hdr.ringTime.toNat = b → injected 0x0603 u = none →
    ∃ v : State, exec (.claimFrameReceive t r p f) s = .next v
      ∧ (v.ring.at r).tx = [] ∧ (v.ring.at r).claim.rt = max (u.ring.at r).claim.rt (u.clk.now - at0)
      ∧ (v.ring.at r).claim.state = (u.ring.at r).claim.state ∧ v.crown = u.crown ∧ v.keep = u.keep ∧ v.eng = u.eng)

/-- R179, R196, R201, R206, R223, R228: link and silence events at one ring port; the other ports, and everything else,
stay. A standby wraps on the side that broke, and turns to its other side where that is the broken one when this one regains
sync; the side is ready to heal after 100 ms in sync, and the master announces HEAL after 2 s; 8 ms of silence unlocks; test
mode begins after 64 ms of silence; a candidate begins to claim after two silent ring cycles. Model choices: log entries 1,
83. -/
def Obligations.LinkAndSilenceEvents : Prop :=
  ∀ (t : Nat) (r : Ring) (p : Pair) (s u : State), u = elapse t s →
    (∀ n, ∃ q : RingPort, exec (.linkSyncLost t r p n) s = .next { u with ring := u.ring.put r q }
      ∧ (if p = .fwd then q.syncF else q.syncB) = false
      ∧ (roleOf u r = .standby → q.wrapped = some p ∧ q.healReady = false)
      ∧ (roleOf u r ≠ .standby → q.wrapped = (u.ring.at r).wrapped))
    ∧ (∃ q : RingPort, exec (.linkSyncRegained t r p 0) s = .next { u with ring := u.ring.put r q }
      ∧ (if p = .fwd then q.syncF else q.syncB) = true ∧ (if p = .fwd then q.faultF else q.faultB) = false
      ∧ (let broken := if p = .fwd then !(u.ring.at r).syncB || (u.ring.at r).faultB else !(u.ring.at r).syncF || (u.ring.at r).faultF
        q.wrapped = if broken ∧ ((u.ring.at r).wrapped = some p ∨ ((u.ring.at r).wrapped = none ∧ roleOf u r = .standby))
          then some (otherPair p) else (u.ring.at r).wrapped))
    ∧ (∃ q : RingPort, exec (.linkFaultReceived t r p) s = .next { u with ring := u.ring.put r q }
      ∧ (if p = .fwd then q.faultF else q.faultB) = true ∧ (roleOf u r = .standby → q.wrapped = some p))
    ∧ ((u.ring.at r).wrapped = some .fwd → (u.ring.at r).syncF = true → (u.ring.at r).sinceF + 100000000 ≤ u.clk.now →
        exec (.healReadyTimer t r) s = .next { u with ring := u.ring.put r { u.ring.at r with healReady := true, faultF := false } })
    ∧ (∀ t0, (u.ring.at r).healSince = some t0 → (u.ring.at r).dual = true → t0 + 2000000000 ≤ u.clk.now →
        exec (.healTimer t r) s = .next { u with ring := u.ring.put r { u.ring.at r with heal := true } })
    ∧ (silentFor (u.ring.at r) u.clk.now 8000000 = true →
        exec (.lockSilenceTimeout t r) s
          = .next { u with ring := u.ring.put r { u.ring.at r with lock := .unlocked, refF := none, refB := none } })
    ∧ ((u.ring.at r).testReq = true → crowned u = false → roleOf u r = .standby → silentFor (u.ring.at r) u.clk.now 64000000 = true →
        exec (.ringTestStart t r) s
          = .next { u with ring := u.ring.put r { u.ring.at r with testOn := true, testLeave := false, sent := none } })
    ∧ (u.crown.state = .candidate → inUse u r = true → (u.ring.at r).claim.state = .idle →
        silentFor (u.ring.at r) u.clk.now (2 * tRing u) = true →
        exec (.ringCandidateStart t r) s
          = .next { u with ring := u.ring.put r { u.ring.at r with claim := { state := .claiming } } })

/-- R232, R233, R311: a candidate whose claim has met silence for three round trips wins the ring and, having withdrawn on
none, enters CROWNED with its lease running from now; one that has claimed for 64 ring cycles abandons the ring, and with
every ring abandoned goes OUT. Model choices: log entries 1, 84. -/
def Obligations.ClaimsAreWonOrAbandoned : Prop :=
  (∀ (t : Nat) (r : Ring) (s u : State), u = elapse t s → u.crown.state = .candidate → inUse u r = true →
    (u.ring.at r).claim.state = .claiming → silenceWon u r = true →
    (∀ q, inUse u q = true → (u.ring.at q).claim.state ≠ .withdrawn ∧ (u.ring.at q).claim.state ≠ .clone) →
    ∃ v : State, exec (.claimSilenceWin t r) s = .next v
      ∧ (v.ring.at r).claim.state = .won ∧ (v.ring.at r).dual = true ∧ (v.ring.at r).toWin = false
      ∧ v.crown.state = .crowned ∧ v.crown.epoch = u.crown.epoch ∧ v.crown.tAck = ringNow u ∧ v.crown.lease = leaseNs u
      ∧ v.crown.takes = satAdd u.crown.takes 1 0xFFF ∧ v.cyc.on = true)
  ∧ (∀ (t t0 : Nat) (r : Ring) (s u : State), u = elapse t s → u.crown.state = .candidate → inUse u r = true →
    (u.ring.at r).claim.state = .claiming → (u.ring.at r).claim.first = some t0 → t0 + 64 * tRing u ≤ u.clk.now →
    (∀ q, inUse u q = true → (u.ring.at q).claim.state ≠ .won) →
    ∃ v : State, exec (.claimAbandon t r) s = .next v
      ∧ (v.ring.at r).claim.state = .abandoned
      ∧ (v.crown.state = if (∀ q, inUse u q = true → q ≠ r → (u.ring.at q).claim.state = .abandoned) then .out else .candidate)
      ∧ v.eng = u.eng ∧ v.st = u.st ∧ v.lane = u.lane ∧ v.cyc = u.cyc)

/-- R206, R208: RINGn_CTL asks for test mode with its cycle, and CLR_MAX clears the longest round trip; the other ports
stay. R90: LANE_CTL.CLR_MAX clears LANE_RUN_MAX of its lane and nothing else but the response. Model choices: log entry 1.
-/
def Obligations.RingAndLaneControls : Prop :=
  (∀ (t : Nat) (h : HostId) (r : Ring) (s u : State), u = elapse t s → Served (ringCtlAddr r) u →
    (∀ w : W32, ∃ (q : RingPort) (p : Hp), exec (.ringTestReq t h r w) s = .next { u with ring := u.ring.put r q, hp := p }
      ∧ Answers h 0 [] p
      ∧ q = { u.ring.at r with
          testReq := w.getLsbD 0, testCycle := (w.extractLsb' 4 3).toNat, roundMax := q.roundMax, overLimit := q.overLimit }
      ∧ (w.getLsbD 1 = true → q.roundMax = 0 ∧ q.overLimit = false)
      ∧ (w.getLsbD 1 = false → q.roundMax = (u.ring.at r).roundMax ∧ q.overLimit = (u.ring.at r).overLimit))
    ∧ ∃ p : Hp, exec (.ringClrMax t h r) s
        = .next { u with ring := u.ring.put r { u.ring.at r with roundMax := 0, overLimit := false }, hp := p } ∧ Answers h 0 [] p)
  ∧ (∀ (t : Nat) (h : HostId) (l : Lane) (s u : State), u = elapse t s → Served (0x050028 + 0x10000 * l.num) u →
    ∃ p : Hp, exec (.laneClrMax t h l) s
        = .next { u with lane := u.lane.put l { u.lane.at l with runMax := 0 }, hp := p } ∧ Answers h 0 [] p)

/-! ## Time -/

/-- R212, R213: a lane's deviation from the time-master lane is kept, and the lane corrects its counter by slewing, 200 ppm
at the most; no counter is stepped. A lane in VOTING state beyond 40 ns for the second time in a row is a clock out of
range: CLOCK_RANGE is set. Model choices: log entries 1, 18, 86. -/
def Obligations.LanesFollowTheTimeMaster : Prop :=
  ∀ (t : Nat) (m : Lane) (dev : Tri Int) (s u : State), u = elapse t s → u.tb.tm = some m → inService u m = true →
    ∃ v : State, exec (.laneTimeMeasure t dev) s = .next v ∧ v.tb.tm = some m ∧ v.clk.now = u.clk.now
      ∧ (∀ l, (v.clk.ring.at l).ns = (u.clk.ring.at l).ns) ∧ v.clk.ring.at m = u.clk.ring.at m
      ∧ (∀ l, l ≠ m → (v.clk.ring.at l).slewPpb.natAbs ≤ 200000)
      ∧ (∀ l, l ≠ m → (dev.at l).natAbs ≤ 40 → v.tb.dev.at l = dev.at l ∧ v.tb.far.at l = 0)
      ∧ (∀ l, l ≠ m → 40 < (dev.at l).natAbs → v.tb.far.at l = u.tb.far.at l + 1
          ∧ (u.tb.far.at l = 1 → (u.lane.at l).state = .voting → (v.lane.at l).fault.getLsbD 6 = true))
      ∧ v.eng = u.eng ∧ v.st = u.st

/-- R214, R236, R312: a TIME exchange gives the offset to the holder; eight in a row within 200 ns gain time lock, one
beyond 500 ns ends it, and so does 1 ms without a record. Reading TB_TIME_LO latches the high half of the ring time it
shows. Model choices: log entries 1, 18, 41, 86. -/
def Obligations.TimeRecordsAndReads : Prop :=
  (∀ (t t1 t2 t3 t4 : Nat) (x : Rcv) (s u : State), u = elapse t s → Sound x u → crowned u = false → u.crown.state ≠ .off →
    u.crown.state ≠ .candidate → (u.crown.partner = 8 ∨ u.crown.renewed = true) →
    ∃ (b : Tb) (c : Clocks) (i : Vin), exec (.timeRecord t x t1 t2 t3 t4) s
        = .next { heard x.rank u with tb := b, clk := c, vin := i }
      ∧ i = { u.vin with scaleFrom := i.scaleFrom, doneAt := i.doneAt }
      ∧ b.partnerOff = timeOffset t1 t2 t3 t4 ∧ b.lastTime = u.clk.now ∧ b.established = true
      ∧ (500 < b.partnerOff.natAbs → b.locked = false)
      ∧ (b.partnerOff.natAbs ≤ 200 → b.lockRun = min 8 (u.tb.lockRun + 1) ∧ (7 ≤ u.tb.lockRun → b.locked = true))
      ∧ (u.tb.established = true → ∀ l, (c.ring.at l).ns = (u.clk.ring.at l).ns)
      ∧ c.now = u.clk.now ∧ c.lifeUs = u.clk.lifeUs ∧ c.calNs = u.clk.calNs)
  ∧ (∀ (t : Nat) (s u : State), u = elapse t s → u.tb.lastTime + 1000000 ≤ u.clk.now →
    exec (.timeRecordTimeout t) s = .next { u with
      tb := { u.tb with locked := false, lockRun := 0 }, crown := { u.crown with partnerLocked := false } })
  ∧ (∀ (t : Nat) (h : HostId) (s u : State), u = elapse t s → Served 0x0C0000 u →
    ∃ p : Hp, exec (.tbTimeLoRead t h) s
        = .next { u with tb := { u.tb with timeHi := BitVec.ofNat 32 (ringNow u / 2 ^ 32) }, hp := p }
      ∧ Answers h 0 (leBytes 4 (ringNow u % 2 ^ 32)) p)

/-! ## The door guard -/

/-- R279, R280: a quiet interval complete in both channels, each with its own copy of the door's entry: a tripped unit is
supervised again when both encoders have been sound for TRIP_HOLD, unless a GUARD or PARAM trip stands; with one encoder
failed it becomes degraded under a confirmation, or isolated when the door has no confirmation source or its degraded time
is spent. Other units stay. Model choices: log entries 1, 90. -/
def Obligations.QuietIntervalCompletes : Prop :=
  ∀ (t n : Nat) (e : DoorEntry) (s u : State), u = elapse t s → doorEntry u.door n = some e → crowned u = true →
    quietDone u (chanOf u.door 0 n) = true → quietDone u (chanOf u.door 1 n) = true →
    ∃ (d : Door) (k : Keep) (c : Comb) (r : Evr),
      exec (.quietIntervalComplete t n) s = .next { u with door := d, keep := k, comb := c, evr := r }
      ∧ d.table = u.door.table
      ∧ ∀ j, j < 2 →
          ((chanOf u.door j n).state = .tripped → (chanOf u.door j n).cause ≠ 9 → (chanOf u.door j n).cause ≠ 10 →
            heldLong u (chanOf u.door j n).both = true → (chanOf d j n).state = .supervised ∧ (chanOf d j n).proof = .unproven
              ∧ (chanOf d j n).failX = false ∧ (chanOf d j n).failY = false)
          ∧ ((chanOf u.door j n).state = .tripped → ((chanOf u.door j n).cause = 9 ∨ (chanOf u.door j n).cause = 10) →
            chanOf d j n = chanOf u.door j n)
          ∧ ((chanOf u.door j n).state = .tripped → (chanOf u.door j n).cause ≠ 9 → (chanOf u.door j n).cause ≠ 10 →
            heldLong u (chanOf u.door j n).both = false → (chanOf u.door j n).failX ≠ (chanOf u.door j n).failY →
            (((if j = 0 then e else entryY u.door e).staff.isNone = true ∨ degSpent (if j = 0 then e else entryY u.door e) (chanOf u.door j n) = true) →
              (chanOf d j n).state = .isolated ∧ n ∈ k.isolated)
            ∧ ((if j = 0 then e else entryY u.door e).staff.isNone = false → degSpent (if j = 0 then e else entryY u.door e) (chanOf u.door j n) = false →
              heldLong u (chanOf u.door j n).one = true → (chanOf u.door j n).conf = true → (chanOf d j n).state = .degraded))
          ∧ (∀ m, m ≠ n → chanOf d j m = chanOf u.door j m)

/-- R281, R286, R288: a degraded unit that has used its degraded time is isolated with cause DEG_TIME, which the keep domain
holds; a host clears a GUARD trip, or an isolation, whose conditions hold in both channels, and the unit is supervised
again. R265, R292: a module that does not hold the crown mirrors the units of a GUARD record in both channels. Model
choices: log entries 1, 90. -/
def Obligations.DoorUnitsAreClearedAndMirrored : Prop :=
  ((∀ (t n : Nat) (e : DoorEntry) (s u : State), u = elapse t s → doorEntry u.door n = some e → crowned u = true →
    ∃ (d : Door) (k : Keep) (c : Comb) (r : Evr),
      exec (.doorDegTimeExpiry t n) s = .next { u with door := d, keep := k, comb := c, evr := r }
      ∧ (∀ j, j < 2 → (chanOf u.door j n).state = .degraded →
          e.degMax * 60000000000 ≤ (chanOf u.door j n).used + (ringNow u - (chanOf u.door j n).degAt) →
          (chanOf d j n).state = .isolated ∧ (chanOf d j n).cause = 7 ∧ n ∈ k.isolated)
      ∧ (∀ j m, j < 2 → m ≠ n → chanOf d j m = chanOf u.door j m))
  ∧ (∀ (t : Nat) (h : HostId) (guard : Bool) (e : DoorEntry) (s u : State), u = elapse t s → Served 0x100060 u →
    doorEntry u.door u.door.sel = some e → crowned u = true → clearAllowed u guard e (chanOf u.door 0 u.door.sel) = true →
    clearAllowed u guard e (chanOf u.door 1 u.door.sel) = true →
    ∃ (d : Door) (k : Keep) (c : Comb) (r : Evr) (p : Hp),
      exec (if guard then .dgClrGuard t h else .dgClrIsolate t h) s
        = .next { u with door := d, keep := k, comb := c, evr := r, hp := p }
      ∧ Answers h 0 [] p ∧ k.isolated = u.keep.isolated.erase u.door.sel
      ∧ (∀ j, j < 2 → (chanOf d j u.door.sel).state = .supervised ∧ (chanOf d j u.door.sel).proof = .unproven
          ∧ (chanOf d j u.door.sel).failX = false ∧ (chanOf d j u.door.sel).failY = false)
      ∧ (∀ j m, j < 2 → m ≠ u.door.sel → chanOf d j m = chanOf u.door j m)))
  ∧ (∀ (t : Nat) (x : Rcv) (units : List GuardUnit) (s u : State), u = elapse t s → Sound x u → crowned u = false →
    (units.map (fun g => g.unit)).Nodup →
    ∃ (d : Door) (k : Keep), exec (.guardRecord t x units) s = .next { heard x.rank u with door := d, keep := k }
      ∧ (∀ g j, g ∈ units → j < 2 →
          (chanOf d j g.unit).state = doorStateOf g.state ∧ (chanOf d j g.unit).proof = proofOf g.proof
          ∧ (chanOf d j g.unit).failX = g.failX ∧ (chanOf d j g.unit).failY = g.failY ∧ (chanOf d j g.unit).cause = g.cause
          ∧ (chanOf d j g.unit).used = g.used)
      ∧ (∀ m j, m ∉ units.map (fun g => g.unit) → j < 2 → chanOf d j m = chanOf u.door j m))

/-! ## The crown -/

/-- R298 to R303: a standby in step takes a renewal of the followed epoch: its view runs until ring time plus L, it
acknowledges, and it compares the settings; a lower epoch is counted and renews nothing. The holder takes an acknowledgement
of a renewal it has sent. At the lease's end the holder's program makes its crown-loss restart: the crown unit is OFF,
nothing is released, and the reset counter of code 8 advances. Model choices: log entries 1, 30, 167. -/
def Obligations.LeaseIsRenewedAndExpires : Prop :=
  (∀ (t : Nat) (x : Twin LeaseBody) (b : LeaseBody) (s u : State), u = elapse t s → Agreed x b u → b.renew = true →
    u.crown.state = .inStep →
    (b.epoch = u.crown.followed →
      ∃ v : State, exec (.leaseRecord t x) s = .next v
        ∧ v.crown.view = some (ringNow u + leaseNs u) ∧ v.crown.settingsDiff = !settingsAgree u b
        ∧ v.crown.followed = u.crown.followed ∧ v.crown.state = .inStep ∧ v.pl.out = sent (.leaseAck b.ts b.epoch) u
        ∧ v.eng = u.eng ∧ v.st = u.st ∧ v.lane = u.lane ∧ v.cyc = u.cyc ∧ v.ring = u.ring)
    ∧ (b.epoch.toNat < u.crown.followed.toNat →
      ∃ v : State, exec (.leaseRecord t x) s = .next v ∧ v.crown.view = u.crown.view ∧ v.crown.followed = u.crown.followed
        ∧ v.crown.lowEpoch = satAdd u.crown.lowEpoch 1 0xFF ∧ v.pl.out = u.pl.out ∧ v.eng = u.eng ∧ v.lane = u.lane))
  ∧ (∀ (t ts : Nat) (x : Rcv) (s u : State), u = elapse t s → Sound x u → crowned u = true → ts ≤ u.crown.lastTs →
    u.crown.tAck < ts →
    exec (.leaseAckRecord t x ts u.crown.epoch) s
      = .next { u with crown := { u.crown with partnerRank := x.rank, tAck := ts, solo := false } })
  ∧ (∀ (t : Nat) (s u : State), u = elapse t s → crowned u = true → u.rst.stage = .ready →
    u.crown.tAck + u.crown.lease ≤ ringNow u → ¬ (0x19 ∈ u.vote.modAct) →
    ∃ v : State, exec (.leaseExpiry t) s = .next v ∧ v.crown.state = .off ∧ v.rst.cur = 8 ∧ v.rst.stage = .hold
      ∧ (∀ r, (v.ring.at r).released = false) ∧ (∀ l, v.eng.at l = {} ∧ v.vote.permit.at l = false) ∧ v.cyc = {}
      ∧ v.keep.cnt = setNth u.keep.cnt 7 (satAdd (nthD 0 u.keep.cnt 7) 1 0xFFFF) ∧ v.store = u.store)

/-- R304, R305, R311, R318: a module in step whose view expired G ago takes the crown with the next epoch, kept first, when
nothing refuses it, and goes OUT when something does; OUT lasts 1 s; the first module of a site that waits two leases and G
without a holder starts as a candidate. Model choices: log entry 1. -/
def Obligations.CrownIsTaken : Prop :=
  (∀ (t w : Nat) (s u : State), u = elapse t s → u.crown.state = .inStep → u.crown.view = some w → w + guardNs u ≤ ringNow u →
    (crownRefuse u = 0 → ∃ v : State, exec (.crownTake t) s = .next v
      ∧ v.crown.state = .candidate ∧ v.crown.epoch = u.keep.epochKept + 1 ∧ v.keep.epochKept = u.keep.epochKept + 1
      ∧ v.crown.byStart = false ∧ v.crown.view = none ∧ (∀ r, (v.ring.at r).toWin = true ∧ (v.ring.at r).claim.state = .idle)
      ∧ v.eng = u.eng ∧ v.st = u.st ∧ v.lane = u.lane ∧ v.cyc = u.cyc)
    ∧ (crownRefuse u ≠ 0 → ∃ v : State, exec (.crownTake t) s = .next v ∧ v.crown.state = .out ∧ v.crown.epoch = u.crown.epoch
      ∧ v.keep = u.keep ∧ v.ring = u.ring ∧ v.eng = u.eng ∧ v.st = u.st ∧ v.lane = u.lane ∧ v.cyc = u.cyc))
  ∧ (∀ (t : Nat) (s u : State), u = elapse t s → u.crown.state = .out → u.crown.outAt + 1000000000 ≤ u.clk.now →
    ∃ (c : Crown) (k : Comb) (d : Tb), exec (.outTimeout t) s = .next { u with crown := c, comb := k, tb := d }
      ∧ c.state = .seeking ∧ c.epoch = u.crown.epoch ∧ c.followed = u.crown.followed)
  ∧ (∀ (t : Nat) (s u : State), u = elapse t s → u.crown.state = .seeking → u.set.block.isSome = true →
    u.crown.waitFrom + 2 * leaseNs u + guardNs u ≤ u.clk.now → refusalReasons u = 0 →
    ∃ v : State, exec (.startWaitExpiry t) s = .next v ∧ v.crown.state = .candidate ∧ v.crown.byStart = true
      ∧ v.crown.epoch = u.keep.epochKept + 1 ∧ v.keep.epochKept = u.keep.epochKept + 1
      ∧ v.eng = u.eng ∧ v.st = u.st ∧ v.lane = u.lane ∧ v.cyc = { u.cyc with cmds := [] })

/-- R111, R113, R295, R297, R305, R306, R310, R382: the holder's following records, from SEEKING on: parts and commands
queue, the latch is kept, one that still waits having passed its parts, and one that arrives at a frozen standby sends it
OUT; the partner's events enter comb 0 with its rank; a change of sync of a lane of the link is kept and fires its event
source. Model choices: log entries 1, 63. -/
def Obligations.FollowingRecordsAreTaken : Prop :=
  (∀ (t : Nat) (x : Rcv) (b : PartBody) (s u : State), u = elapse t s → Sound x u → keepsRecords u = true →
    exec (.partRecord t x b) s
      = .next { u with crown := { u.crown with partnerRank := x.rank, parts := u.crown.parts ++ [b] } })
  ∧ (∀ (t : Nat) (x : Rcv) (b : CommandBody) (eth : Bool) (s u : State), u = elapse t s → Sound x u → keepsRecords u = true →
    eth = (u.set.block.map (fun x => x.cmds.any (fun e => e.id == b.src && e.ipv4))).getD false →
    exec (.commandRecord t x b) s = .next { heard x.rank u with
      cyc := { u.cyc with cmds :=
        (holdCmd { slot := b.slot, value := b.value, when := b.accepted, deferred := false, eth := eth } u.cyc.cmds) }
      keep := { u.keep with tseq := kvPut u.keep.tseq b.src.toNat b.tseq } })
  ∧ (∀ (t : Nat) (x : Rcv) (b : LatchBody) (s u : State), u = elapse t s → Sound x u →
    (keepsRecords u = true → u.crown.state ≠ .frozen → u.crown.latch = none → exec (.latchRecord t x b) s
      = .next { u with crown := { u.crown with partnerRank := x.rank, latch := some b } })
    ∧ (∀ old, keepsRecords u = true → u.crown.state ≠ .frozen → u.crown.latch = some old →
      ∃ v : State, exec (.latchRecord t x b) s = .next v ∧ v.crown.latch = some b
      ∧ v.crown.parts = u.crown.parts.filter (fun p => decide (old.b ≤ p.ringTime)) ∧ v.crown.state = u.crown.state
      ∧ v.eng = u.eng ∧ v.st = u.st ∧ v.lane = u.lane ∧ v.cyc = { u.cyc with cmds := v.cyc.cmds })
    ∧ (u.crown.state = .frozen → ∃ v : State, exec (.latchRecord t x b) s = .next v ∧ v.crown.state = .out
      ∧ v.crown.outAt = u.clk.now ∧ v.crown.latch = none ∧ v.eng = u.eng ∧ v.st = u.st ∧ v.lane = u.lane ∧ v.cyc = u.cyc))
  ∧ (∀ (t : Nat) (x : Rcv) (payload : List Byte) (s u : State), u = elapse t s → Sound x u → u.comb.state ≠ .failed →
    u.comb.c0.mode ≠ .full → u.comb.queue.length < 1024 →
    ∃ (k : Comb) (c : Cell), exec (.eventRecord t x payload) s = .next { heard x.rank u with comb := k }
      ∧ k.queue = u.comb.queue ++ [(0, c)] ∧ c.source = 0x10 ∧ c.partner = true ∧ c.seq = u.comb.nextSeq
      ∧ c.payload = .bytes (Config.cellType .partnerEvent).toNat (leBytes 4 x.rank.toNat ++ payload)
      ∧ c.trunc = decide (212 < payload.length))
  ∧ (∀ (t : Nat) (l : Fin 2) (up : Bool) (s u : State), u = elapse t s →
    (if l = 0 then u.pl.sync0 else u.pl.sync1) ≠ up →
    ∃ (q : Pl) (e : Evr) (d : Upd), exec (.plLaneSyncChange t l up) s = .next { u with pl := q, evr := e, upd := d }
      ∧ (if l = 0 then q.sync0 else q.sync1) = up ∧ (if l = 0 then q.sync1 else q.sync0) = (if l = 0 then u.pl.sync1 else u.pl.sync0)
      ∧ d = { u.upd with linkAt := if q.sync0 || q.sync1 then none else some u.clk.now }
      ∧ q.out = u.pl.out ∧ (kvGet e.src 35).map Source.fires = some (satAdd (sourceOf u 35).fires 1 0xFFFF)
      ∧ ∀ k, k ≠ 35 → kvGet e.src k = kvGet u.evr.src k)

/-- R302, R304, R308, R310, R311, R331: commits compared in time with the holder's keep a standby in step or prove it; one
that differs sends a standby in step OUT, and one that proves goes on proving; the first pass of a resynchronisation is
written into the lanes that copy, and one that fails its check ends it; STATUS tells the holder how the standby stands; a
claim or a release of the partner decides who goes on. Model choices: log entries 1, 92, 93, 95, 97. -/
def Obligations.StandbyAndHolderLearn : Prop :=
  (∀ (t : Nat) (x : Twin CommitBody) (b : CommitBody) (d : W32) (s u : State), u = elapse t s → Agreed x b u →
    (u.crown.state = .proving ∨ u.crown.state = .inStep) → u.crown.finalLatch = false → b.kind = .normal → b.xw.state = .none →
    u.crown.own = some ⟨b.cycle, some d⟩ → u.crown.heard = none → compareLate b.cycle u = false →
    ∃ v : State, exec (.commitRecord t x) s = .next v ∧ v.crown.combSeq = some b.combSeq ∧ v.px.partner = b.xw
      ∧ (d = b.digest → v.crown.state = .inStep ∧ v.crown.matched = b.cycle)
      ∧ (d ≠ b.digest → v.crown.state = if u.crown.state = .inStep then .out else .proving) ∧ v.eng = u.eng ∧ v.st = u.st ∧ v.lane = u.lane ∧ v.cyc = u.cyc)
  ∧ (∀ (t : Nat) (x : Rcv) (b : CopyBody) (s u : State), u = elapse t s → Sound x u → u.crown.state = .copying →
    b.pass = u.crown.pass →
    (b.check = copyCheck b.pass b.cycle b.words → b.pass < 63 →
      (b.snapAt / max 1 (tProg u) + 1) * tProg u + 4000 ≤ ringNow u →
      ∃ v : State, exec (.copyRecord t x b) s = .next v ∧ v.crown.state = .copying ∧ v.crown.pass = b.pass + 1
        ∧ v.crown.combSeq = some b.combSeq
        ∧ (b.pass = 0 → ∀ l i, l ∈ copyLanes u → i < nounTop u → i < b.words.length →
            tabGet 0 (v.st.at l).noun i = nthD 0 b.words i)
        ∧ (∀ l, l ∉ copyLanes u → v.st.at l = u.st.at l) ∧ v.eng = u.eng ∧ v.lane = u.lane ∧ v.cyc = u.cyc)
    ∧ (b.check ≠ copyCheck b.pass b.cycle b.words →
      ∃ (c : Crown) (d : Tb), exec (.copyRecord t x b) s = .next { u with crown := c, tb := d } ∧ c.state = .seeking))
  ∧ (∀ (t : Nat) (x : Rcv) (b : StatusBody) (s u : State), u = elapse t s → Sound x u → crowned u = true →
    b.xw.state ≠ .cancel →
    ∃ c : Crown, exec (.statusRecord t x b) s
        = .next { u with crown := c, px := { u.px with partner := b.xw, partnerCycle := b.cycle } }
      ∧ c.partner = b.state % 16 ∧ c.partnerVoting = b.voting ∧ c.partnerDeg = b.degraded ∧ c.partnerTest = b.testing
      ∧ c.state = .crowned ∧ (b.state = 1 → b.refuse.toNat / 2 = 0 → c.sending.isSome = true))
  ∧ (∀ (t : Nat) (x : Twin ClaimRec) (b : ClaimRec) (s u : State), u = elapse t s → Agreed x b u → u.crown.state = .candidate →
    ∃ v : State, exec (.claimRecord t x) s = .next v ∧ b.epoch.toNat ≤ v.keep.epochKept.toNat
      ∧ v.crown.state = (if hasPriority b.epoch x.rank u.crown.epoch u.fuse.rank then .seeking else .candidate)
      ∧ v.eng = u.eng ∧ v.st = u.st ∧ v.lane = u.lane ∧ v.cyc = u.cyc)
  ∧ (∀ (t : Nat) (x : Twin Unit) (s u : State), u = elapse t s → Agreed x () u →
    ∃ v : State, exec (.releaseRecord t x) s = .next v ∧ v.crown.released = true ∧ v.crown.partner = 0
      ∧ (u.crown.state = .inStep → u.crown.partner = 8 → crownRefuse u = 0 →
          v.crown.state = .candidate ∧ v.crown.epoch = u.keep.epochKept + 1 ∧ v.keep.epochKept = u.keep.epochKept + 1)
      ∧ (u.crown.state = .crowned → v.crown.state = .crowned ∧ v.crown.tAck = u.crown.tAck)
      ∧ v.eng = u.eng ∧ v.st = u.st ∧ v.lane = u.lane ∧ v.cyc = u.cyc)

/-- R313 to R316: an orderly handover: the holder offers it at least 8 cycles ahead, or postpones it; the standby accepts
when nothing refuses the crown and else says why; with COMMIT(h) equal to its own commit it is CROWNED with the next epoch;
a refusal or a cancellation ends the offer. Model choices: log entries 1, 42, 99, 159, 166. -/
def Obligations.HandoverAndRotation : Prop :=
  (∀ (t : Nat) (x : Twin (W32 × W32)) (h e : W32) (s u : State), u = elapse t s → Agreed x (h, e) u → crowned u = false →
    ∃ v : State, exec (.handoverOffer t x) s = .next v
      ∧ (crownRefuse u = 0 → v.crown.ho = some { h := h, why := .rotation, accepted := true } ∧ v.pl.out = sent (.accept h) u)
      ∧ (crownRefuse u ≠ 0 → v.crown.ho = u.crown.ho ∧ v.pl.out = sent (.refuse h (BitVec.ofNat 32 (crownRefuse u))) u)
      ∧ v.crown.state = u.crown.state ∧ v.eng = u.eng ∧ v.lane = u.lane ∧ v.cyc = u.cyc)
  ∧ (∀ (t : Nat) (o : Handover) (s u : State), u = elapse t s → u.crown.ho = some o → crowned u = true →
    (∀ x : Twin W32, Agreed x o.h u → ∃ v : State, exec (.handoverAccept t x) s = .next v
      ∧ v.crown.ho = some { o with accepted := true } ∧ v.crown.state = .crowned ∧ v.cyc = u.cyc ∧ v.lane = u.lane)
    ∧ (∀ (x : Twin (W32 × W32)) (why : W32), Agreed x (o.h, why) u → ∃ v : State, exec (.handoverRefuse t x) s = .next v
      ∧ v.crown.ho = none ∧ v.crown.retry = some o.why ∧ v.crown.retryAt = u.clk.now ∧ v.crown.state = .crowned ∧ v.cyc = u.cyc))
  ∧ (∀ (t : Nat) (o : Handover) (s u : State), u = elapse t s → u.crown.ho = some o → u.crown.state = .inStep →
    (∀ (x : Twin (W32 × W32)) (d : W32), Agreed x (o.h, d) u → o.accepted = true → u.crown.own = some ⟨o.h, some d⟩ →
      ∃ v : State, exec (.handoverCommit t x) s = .next v
        ∧ v.crown.state = .crowned ∧ v.crown.epoch = u.crown.followed + 1 ∧ v.crown.tAck = ringNow u
        ∧ v.crown.lease = leaseNs u ∧ v.crown.ho = none ∧ v.crown.firstLatch = true ∧ v.crown.closed = false
        ∧ (u.crown.followed + 1).toNat ≤ v.keep.epochKept.toNat ∧ v.eng = u.eng ∧ v.st = u.st ∧ v.lane = u.lane ∧ v.cyc = u.cyc)
    ∧ (∀ x : Twin W32, Agreed x o.h u → ∃ v : State, exec (.handoverCancel t x) s = .next v
        ∧ v.crown.ho = none ∧ v.crown.state = .inStep ∧ v.eng = u.eng ∧ v.cyc = u.cyc))
  ∧ (∀ (t : Nat) (s u : State), u = elapse t s → crowned u = true → u.crown.ho = none →
    (∀ (i : Instr) (why : OfferWhy), ((i = .rotationDue t ∧ why = .rotation ∧ 0 < rotationUs u
            ∧ u.crown.heldFrom + rotationUs u ≤ u.clk.lifeUs ∧ u.crown.retry = none)
          ∨ (i = .rotationRetry t ∧ u.crown.retry = some why ∧ why ≠ .degraded ∧ u.crown.retryAt + 60000000000 ≤ u.clk.now)
          ∨ (∃ h, i = .rotateNow t h ∧ why = .now ∧ Served 0x0D0028 u)) →
      ∃ v : State, exec i s = .next v
        ∧ (offerPostponed why u = false →
            v.crown.ho = some { h := u.keep.lastCommit.getD 0 + 9, why := why }
            ∧ v.pl.out = sent (.offer (u.keep.lastCommit.getD 0 + 9) (u.crown.epoch + 1)) u)
        ∧ (offerPostponed why u = true → v.crown.ho = none ∧ v.crown.retry = some why
            ∧ v.crown.postponed = satAdd u.crown.postponed 1 0xFFFF)
        ∧ v.crown.state = .crowned ∧ v.eng = u.eng ∧ v.lane = u.lane ∧ v.cyc = u.cyc))

/-! ## The program exchange -/

/-- R322, R328, R329, R331, R334, R335, R347: the exchange's commands move its state, and with it the rejoin hold of R332;
the active bank and every lane's stores stay, and the bank directory follows a switch. Model choices: log entries 1, 101,
171, 172, 173. -/
def Obligations.ExchangeMoves : Prop :=
  (∀ (t : Nat) (h : HostId) (s u : State), u = elapse t s → Served 0x000044 u → ∀ (i : Instr) (y : Px),
    ((i = .pxStage t h ∧ u.px.state = .idle ∧ y = { u.px with state := .staging })
      ∨ (i = .pxPropose t h ∧ proposable u = true ∧ y = { u.px with
          state := if hasPartner u then .proposed else .agreed, h := u.px.target })
      ∨ (i = .pxCancel t h ∧ (u.px.state = .proposed ∨ u.px.state = .agreed) ∧ y = { u.px with
          state := .staged, reason := 0x0A, cancels := satAdd u.px.cancels 1 0xFFFF, h := 0, cancel := some u.px.h })) →
    ∃ (e : Evr) (c : Comb) (p : Hp), exec i s
        = .next { u with px := y, evr := e, comb := c, hp := p
                         vote := { u.vote with pxHold := y.state == .agreed || y.state == .switching } }
      ∧ Answers h 0 [] p)
  ∧ (∀ (t : Nat) (h : HostId) (s u : State), u = elapse t s → Served 0x000044 u → sendsReady u = true →
    ∃ p : Hp, exec (.pxCancel t h) s = .next { u with hp := p, px := { u.px with
        cancel := some u.px.partner.cycle, reason := 0x0A, cancels := satAdd u.px.cancels 1 0xFFFF } } ∧ Answers h 0 [] p)
  ∧ (∀ (t : Nat) (s u : State), u = elapse t s → u.px.state = .staging →
    ∃ v : State, exec (.stagingDone t) s = .next v
      ∧ (if (stagingResult u).1 = 0 ∧ 2 ≤ (voters u).length then
          v.px.state = .staged ∧ v.px.reason = u.px.reason ∧ ∀ l, votes u l = true → (v.bank.at l).staged = true
        else v.px.state = .idle ∧ v.px.reason = (if (stagingResult u).1 ≠ 0 then (stagingResult u).1 else 7)
          ∧ v.px.cancels = satAdd u.px.cancels 1 0xFFFF ∧ ∀ l, (v.bank.at l).staged = false ∧ (v.bank.at l).check = 0)
      ∧ (∀ l, (v.bank.at l).active = (u.bank.at l).active ∧ (votes u l = false →
          (v.bank.at l).bank0 = (u.bank.at l).bank0 ∧ (v.bank.at l).bank1 = (u.bank.at l).bank1))
      ∧ v.eng = u.eng ∧ v.st = u.st ∧ v.lane = u.lane ∧ v.keep = u.keep ∧ v.cyc = u.cyc)
  ∧ (∀ (t : Nat) (s u : State), u = elapse t s → crowned u = false → u.px.state = .agreed → u.px.partnerCycle ≠ u.px.h →
    goLate u = true →
    ∃ v : State, exec (.pxGoDeadline t) s = .next v ∧ v.px.state = .staged ∧ v.px.reason = 0x0B ∧ v.crown.state = .out
      ∧ v.bank = u.bank ∧ v.keep = u.keep ∧ v.eng = u.eng ∧ v.st = u.st ∧ v.lane = u.lane)
  ∧ (∀ (t : Nat) (s u : State), u = elapse t s → u.px.dirAt.isSome = true →
    exec (.bankDirectoryUpdate t) s = .next { u with dir := { u.dir with active := u.keep.bank }, px := { u.px with dirAt := none } })
  ∧ (∀ (t : Nat) (h : HostId) (sid : Bool) (s u : State), u = elapse t s → Served (if sid then 0x00005C else 0x000054) u →
    ∃ (y : Px) (p : Hp), exec (.pxIdLoRead t h sid) s = .next { u with px := y, hp := p }
      ∧ Answers h 0 (leBytes 4 ((if sid then stagedId u else programId u).toNat % 2 ^ 32)) p
      ∧ (if sid then y.sidHi else y.idHi) = (if sid then stagedId u else programId u).extractLsb' 32 32
      ∧ (if sid then y.idHi else y.sidHi) = (if sid then u.px.idHi else u.px.sidHi))

/-! ## The comb -/

/-- R351, R354 to R357, R359 to R361, R381: a cell enters its comb's queue with the next sequence number, or is counted when
the comb is full or the queue is; the writer programs the cell in progress, or else the first it may, at the comb's write
index, with its cap, or with what a failed operation left there, the write index advancing; between its two operations it
stands without a cap; a cell of type LOSS tells of those lost once there is room; the scan ends SCANNING; hold-up stops the
writer; a time-out fails the comb for good. Model choices: log entries 1, 11, 12, 37, 108, 175, 176. -/
def Obligations.CellsAreCreatedAndWritten : Prop :=
  (∀ (t : Nat) (i : Fin 3) (n : Note) (vals : List Nat) (s u : State), u = elapse t s → u.comb.state ≠ .failed →
    ∃ k : Comb, exec (.cellCreate t i n vals) s = .next { u with comb := k }
      ∧ ((u.comb.arr i).mode ≠ .full → u.comb.queue.length < 1024 →
          k.nextSeq = (u.comb.nextSeq + 1) % 2 ^ 63
          ∧ ∃ c : Cell, k.queue = u.comb.queue ++ [(i.val, c)] ∧ c.seq = u.comb.nextSeq ∧ c.life = u.clk.lifeUs
              ∧ c.source = n.source ∧ c.payload = .note n vals ∧ c.cycle = u.keep.lastCommit.getD 0)
      ∧ ((u.comb.arr i).mode = .full → k = { u.comb with
          refused := setNth u.comb.refused i (satAdd (nthD 0 u.comb.refused i) 1 0x3FF) })
      ∧ ((u.comb.arr i).mode ≠ .full → 1024 ≤ u.comb.queue.length →
          k.queue = u.comb.queue ∧ k.nextSeq = u.comb.nextSeq ∧ k.lossQueue = satAdd u.comb.lossQueue 1 0xFFFF))
  ∧ (∀ (t : Nat) (w : InProg) (how : ProgramEnd) (s u : State), u = elapse t s → writerRuns u = true →
    injected 0x0A01 u = none → w.comb ≤ 2 → (u.comb.prog = some w ∨ (u.comb.prog = none ∧ u.comb.frzReq = false ∧ nextCell u = some w)) →
    (w.data = true → how ≠ .dataFailed) →
    ∃ v : State, exec (.cellWriteDone t how) s = .next v
      ∧ kvGet (v.comb.arr w.comb).slots (u.comb.arr w.comb).count = some ⟨w.cell, (u.comb.arr w.comb).epoch,
          (match how with | .good => 0 | .capFailed cap => cap | .dataGood => 0xFFFFFFFF | .dataFailed => 0xFFFFFFFF), false⟩
      ∧ (how = .dataGood → (v.comb.arr w.comb).count = (u.comb.arr w.comb).count ∧ v.comb.prog = some { w with data := true })
      ∧ (how ≠ .dataGood → (u.comb.arr w.comb).count < (v.comb.arr w.comb).count ∧ v.comb.prog = none)
      ∧ v.eng = u.eng ∧ v.lane = u.lane ∧ v.store = u.store)
  ∧ (∀ (t : Nat) (s u : State), u = elapse t s → u.comb.lossCnt.any (fun n => n != 0) = true → u.comb.queue.length < 1024 →
    ∃ (k : Comb) (e : Evr), exec (.queueRoom t) s = .next { u with comb := k, evr := e } ∧ k.lossCnt = [0, 0, 0, 0]
      ∧ (u.comb.state ≠ .failed → u.comb.c0.mode ≠ .full →
          ∃ (c : Cell) (b : List Byte), k.queue = u.comb.queue ++ [(0, c)] ∧ c.source = 0x06 ∧ c.payload = .bytes 0x03 b))
  ∧ (∀ (t : Nat) (s u : State), u = elapse t s → u.comb.state = .scanning → u.comb.failed = false →
    ∃ (k : Comb) (r : Rst), exec (.combScanDone t true) s = .next { u with comb := k, rst := r }
      ∧ k.state = .running ∧ k.c0 = settleArr u.comb.c0 ∧ k.c1 = settleArr u.comb.c1 ∧ k.c2 = settleArr u.comb.c2
      ∧ r = { u.rst with cell := none })
  ∧ (∀ (t e : Nat) (s u : State), u = elapse t s → u.comb.holdupEnd = some e → e ≤ u.clk.now →
    exec (.combHoldupStop t) s = .next { u with comb := { u.comb with stopped := true } })
  ∧ (∀ (t : Nat) (s u : State), u = elapse t s → u.comb.failed = false →
    ∃ (k : Comb) (e : Evr), exec (.nandTimeout t) s = .next { u with comb := k, evr := e }
      ∧ k.failed = true ∧ k.state = .failed ∧ (∀ x ∈ k.queue, x.1 = 4)
      ∧ k.c0 = u.comb.c0 ∧ k.c1 = u.comb.c1 ∧ k.c2 = u.comb.c2)

/-- R368 to R371, R376, R380, R383, R415: the comb's host commands: a freeze begins when the writer has ended its cell and
ends after MAX_MS; a challenge is drawn for a mask; GO clears the combs of a mask when the signature verifies, and else
answers AUTH_FAILED; a cleared comb opens with a cell that the writer makes once its first blocks are erased, and ends
CLEARING when its erase does, no cell of a former epoch being left; snapshots are triggered; a stream request is answered.
Model choices: log entries 1, 9, 10, 105, 115, 175. -/
def Obligations.CombHostCommands : Prop :=
  (∀ (t : Nat) (h : HostId) (w : W32) (s u : State), u = elapse t s → Served 0x0E0060 u → w.getLsbD 0 = true →
    crowned u = false → anyClearing u.comb = false → u.comb.state ≠ .failed →
    ∃ (w1 : Option InProg) (p : Hp), exec (.combFreezeReq t h w) s = .next { u with
        comb := { u.comb with frzMaxMs := (w.extractLsb' 16 10).toNat, frzReq := true, prog := w1 }, hp := p }
      ∧ (u.comb.prog.isSome = true → w1 = u.comb.prog) ∧ (writerRuns u = false → w1 = u.comb.prog)
      ∧ (u.comb.prog = none → writerRuns u = true → u.comb.frzReq = false → w1 = nextCell u) ∧ Answers h 0 [] p)
  ∧ (∀ (t : Nat) (s u : State), u = elapse t s → u.comb.frzReq = true → u.comb.frzActive = false → u.comb.state = .running →
    (u.comb.prog = none → exec (.freezeActive t) s = .next { u with comb := { u.comb with
      frzActive := true, state := .frozen, frzSince := u.clk.now, frzLost := 0 } })
    ∧ (∀ w, u.comb.prog = some w → ∃ v : State, exec (.freezeActive t) s = .next v
      ∧ v.comb.frzActive = true ∧ v.comb.state = .frozen ∧ v.comb.prog = none
      ∧ kvGet (v.comb.arr w.comb).slots (u.comb.arr w.comb).count = some ⟨w.cell, (u.comb.arr w.comb).epoch, 0, false⟩
      ∧ v.eng = u.eng ∧ v.lane = u.lane ∧ v.store = u.store))
  ∧ (∀ (t : Nat) (s u : State), u = elapse t s → u.comb.frzActive = true → u.comb.state = .frozen →
    u.comb.frzSince + max 1 u.comb.frzMaxMs * 1000000 ≤ u.clk.now →
    ∃ k : Comb, exec (.freezeTimeout t) s = .next { u with comb := k }
      ∧ k.frzActive = false ∧ k.frzReq = false ∧ k.state = .running ∧ k.c0 = u.comb.c0 ∧ k.c1 = u.comb.c1 ∧ k.c2 = u.comb.c2)
  ∧ (∀ (t : Nat) (h : HostId) (m : BitVec 4) (s u : State), u = elapse t s → Served 0x0E0070 u → u.test.scanEn = false →
    ∃ (c : Challenge) (p : Hp), exec (.combChalReq t h m) s
        = .next { u with comb := { u.comb with mask := m, chal := some c }, free := u.free + 1, hp := p }
      ∧ Answers h 0 [] p ∧ c.what = m.toNat ∧ c.operator = u.comb.authOp ∧ c.upTo = u.clk.lifeUs + 600000000)
  ∧ (∀ (t : Nat) (h : HostId) (m : BitVec 4) (s u : State), u = elapse t s → Served 0x0E0070 u → clearForbidden u m = false →
    ∃ (k : Comb) (p : Hp), exec (.combClearGo t h m) s = .next { u with comb := k, hp := p } ∧ k.chal = none ∧ k.mask = m
      ∧ (if challengeHolds u.comb.chal m.toNat u.comb.authOp u
            && Config.ecdsaVerify u.fuse.authKey (clearMessage u m u.comb.authOp) (sigBytes u.comb.sig) then
          Answers h 0 [] p ∧ k.clearOp = u.comb.authOp ∧ k.clearing = m
          ∧ (m.getLsbD 0 = true → k.c0.mode = .clearing ∧ k.c0.epoch = u.comb.c0.epoch + 1 ∧ k.c0.erasing = true)
          ∧ (m.getLsbD 0 = false → k.c0 = u.comb.c0)
          ∧ (m.getLsbD 1 = true → k.c1.mode = .clearing ∧ k.c1.epoch = u.comb.c1.epoch + 1 ∧ k.c1.erasing = true)
          ∧ (m.getLsbD 1 = false → k.c1 = u.comb.c1)
          ∧ (m.getLsbD 2 = true → k.c2.mode = .clearing ∧ k.c2.epoch = u.comb.c2.epoch + 1 ∧ k.c2.erasing = true)
          ∧ (m.getLsbD 2 = false → k.c2 = u.comb.c2) ∧ (m.getLsbD 3 = false → k.lw = u.comb.lw)
          ∧ (m.getLsbD 3 = true → k.lw.mode = .clearing ∧ k.lw.epoch = u.comb.lw.epoch + 1)
        else Answers h 7 [] p ∧ k.c0 = u.comb.c0 ∧ k.c1 = u.comb.c1 ∧ k.c2 = u.comb.c2 ∧ k.lw = u.comb.lw))
  ∧ (∀ (t : Nat) (a : Fin 4) (s u : State), u = elapse t s → a ≠ 3 → (u.comb.arr a).erasing = true → u.comb.own = [] →
    u.comb.state ≠ .failed →
    ∃ (k : Comb) (c : Cell), exec (.clearInitialEraseDone t a []) s = .next { u with comb := k }
      ∧ k.own = [⟨a.val, c, .opening, false⟩] ∧ c.source = 0x06 ∧ c.seq = u.comb.nextSeq ∧ k.nextSeq = (u.comb.nextSeq + 1) % 2 ^ 63
      ∧ (k.arr a).count = 0 ∧ (k.arr a).epoch = (u.comb.arr a).epoch ∧ (∀ e ∈ (k.arr a).slots, 65536 ≤ e.1 ∧ e ∈ (u.comb.arr a).slots))
  ∧ (∀ (t : Nat) (s u : State), u = elapse t s → u.comb.lw.erasing = true → u.comb.own = [] →
    ∃ (k : Comb) (c : Cell), exec (.clearInitialEraseDone t 3 []) s = .next { u with comb := k }
      ∧ k.lw.slots = [(0, ⟨c, u.comb.lw.epoch, 0, false⟩)] ∧ k.lw.count = 1 ∧ k.lw.erasing = false ∧ k.lwFull = false
      ∧ c.source = 0x06 ∧ c.seq = u.comb.nextSeq)
  ∧ (∀ (t : Nat) (i : Fin 3) (s u : State), u = elapse t s → (u.comb.arr i).mode = .clearing → (u.comb.arr i).erasing = false →
    exec (.clearDone t i []) s = .next { u with comb := u.comb.putArr i { u.comb.arr i with
      mode := .recording, slots := (u.comb.arr i).slots.filter (fun e => e.2.epoch == (u.comb.arr i).epoch) } })
  ∧ (∀ (t : Nat) (h : HostId) (m : BitVec 4) (s u : State), u = elapse t s → Served 0x0E0100 u →
    ∃ p : Hp, exec (.combSnapTrig t h m) s = .next { u with comb := { u.comb with snapTrig := u.comb.snapTrig ||| m }, hp := p }
      ∧ Answers h 0 [] p)
  ∧ (∀ (t comb first last : Nat) (conn : Fin 2) (s u : State), u = elapse t s →
    (if conn = 0 then u.eth.comb0 else u.eth.comb1) = true → u.test.running = false →
    exec (.combStreamRequest t conn comb first last) s
      = .next { u with eth := { u.eth with out := u.eth.out ++ [.comb conn (streamRecords u comb first last)] } })
  ∧ (∀ (t : Nat) (h : HostId) (s u : State), u = elapse t s → Served 0x0E0004 u →
    ∃ p : Hp, exec (.combSeqLoRead t h) s
        = .next { u with comb := { u.comb with seqHi := BitVec.ofNat 32 (u.comb.nextSeq / 2 ^ 32) }, hp := p }
      ∧ Answers h 0 (leBytes 4 (u.comb.nextSeq % 2 ^ 32)) p)

/-! ## The check units -/

/-- R387: the check port of a lane: an open context absorbs what is written to it, a closed one first opens with nothing
absorbed; COPY makes the target what the source is; SPLICE absorbs all that the source has absorbed; READ gives the check
value and closes. The lane's other contexts, its scans and the other lanes stay. Model choices: log entry 1. -/
def Obligations.CheckPortOperations : Prop :=
  ∀ (t : Nat) (l : Lane) (c d : Fin 32) (s u : State), u = elapse t s →
    (∀ (i : Instr) (b : List Byte), ((∃ x, i = .portByteWrite t l c x ∧ b = [x])
        ∨ (∃ x : W16, i = .portHalfWrite t l c x ∧ b = leBytes 2 x.toNat)
        ∨ (∃ x : W32, i = .portWordWrite t l c x ∧ b = leBytes 4 x.toNat)
        ∨ (i = .portSplice t l d c ∧ b = ctxBytes (u.port.at l) d)) →
      ∃ q : ChkLane, exec i s = .next { u with port := u.port.put l q }
        ∧ q = { u.port.at l with ctx := q.ctx } ∧ ctxBytes q c = ctxBytes (u.port.at l) c ++ b
        ∧ (kvGet q.ctx c).isSome = true ∧ ∀ k, k ≠ c.val → kvGet q.ctx k = kvGet (u.port.at l).ctx k)
    ∧ (∃ q : ChkLane, exec (.portCopy t l d c) s = .next { u with port := u.port.put l q }
        ∧ q = { u.port.at l with ctx := q.ctx } ∧ kvGet q.ctx c = kvGet (u.port.at l).ctx d
        ∧ ∀ k, k ≠ c.val → kvGet q.ctx k = kvGet (u.port.at l).ctx k)
    ∧ (∃ q : ChkLane, exec (.portRead t l c) s = .next { u with port := u.port.put l q }
        ∧ q = { u.port.at l with ctx := q.ctx, readOut := q.readOut } ∧ q.readOut = crc32c (ctxBytes (u.port.at l) c)
        ∧ kvGet q.ctx c = none ∧ ∀ k, k ≠ c.val → kvGet q.ctx k = kvGet (u.port.at l).ctx k)

/-- R390 to R395, R399: a scan request queues while it finds an entry and else stalls its requester; the request served
gives the check value over its fold and its words; a check stored in the code store that two lanes with sound data find
otherwise is rewritten with their value; the host's test context absorbs what is written to it. Model choices: log entries
1, 102. -/
def Obligations.ScansAndStoredChecks : Prop :=
  (∀ (t : Nat) (l : Lane) (r : ScanReq) (s u : State), u = elapse t s → 1 ≤ r.len → r.len ≤ 2 ^ 24 →
    ∃ q : ChkLane, exec (.scanRequest t l r) s = .next { u with port := u.port.put l q }
      ∧ q = if (u.port.at l).queue.length < (if r.cls = 0 then 8 else 6)
          then { u.port.at l with queue := (u.port.at l).queue ++ [r] }
          else { u.port.at l with stalled := (u.port.at l).stalled ++ [r] })
  ∧ (∀ (t : Nat) (l : Lane) (words : List W64) (r : ScanReq) (s u : State), u = elapse t s →
    scanHead (u.port.at l).queue = some r → r.cont = false → ((u.port.at l).susp = false ∨ r.cls ≠ 2) →
    ∃ q : ChkLane, exec (.scanDone t l words) s = .next { u with port := u.port.put l q }
      ∧ q.scanOut = some (r.who, crc32c (leBytes 4 r.tag.toNat ++ leBytes 4 r.a.toNat ++ leBytes 4 r.b.toNat ++ leBytes 4 0
          ++ (scanWords u l r words).flatMap wordBytes))
      ∧ q.ctx = (u.port.at l).ctx ∧ q.kat = (u.port.at l).kat)
  ∧ (∀ (t place : Nat) (code : Fin 4) (old x : W32) (found : Tri (Option Reread)) (s u : State), u = elapse t s →
    code ≠ 3 → u.upd.lock = none →
    ((rereads u found).filter (fun y => y.2.value == old)).length < 2 → 2 ≤ ((rereads u found).filter (fun y => y.2.sound)).length →
    sharedValue (rereads u found) = some x →
    ∃ v : State, exec (.storedCheckFail t code place old found false) s = .next v
      ∧ (∀ i, i < 4 → storeByte v (place + i) = nthD 0 (leBytes 4 x.toNat) i)
      ∧ (∀ a, (a < place ∨ place + 4 ≤ a) → storeByte v a = storeByte u a)
      ∧ v.chk.repaired = satAdd u.chk.repaired 1 0xFFFF ∧ v.chk.lastOld = old ∧ v.chk.lastNew = x ∧ v.chk.bad = u.chk.bad
      ∧ v.eng = u.eng ∧ v.lane = u.lane ∧ v.ret = u.ret)
  ∧ (∀ (t : Nat) (h : HostId) (s u : State), u = elapse t s →
    (Served 0x0F0040 u → ∃ p : Hp, exec (.chkTestOpen t h) s = .next { u with chk := { u.chk with test := some [] }, hp := p }
      ∧ Answers h 0 [] p)
    ∧ (∀ x : W32, Served 0x0F0044 u → ∃ p : Hp, exec (.chkTestWord t h x) s = .next { u with
        chk := { u.chk with test := some (u.chk.test.getD [] ++ leBytes 4 x.toNat) }, hp := p } ∧ Answers h 0 [] p)
    ∧ (∀ x : W16, Served 0x0F0048 u → ∃ p : Hp, exec (.chkTestHalf t h x) s = .next { u with
        chk := { u.chk with test := some (u.chk.test.getD [] ++ leBytes 2 x.toNat) }, hp := p } ∧ Answers h 0 [] p)
    ∧ (∀ x : Byte, Served 0x0F004C u → ∃ p : Hp, exec (.chkTestByte t h x) s = .next { u with
        chk := { u.chk with test := some (u.chk.test.getD [] ++ [x]) }, hp := p } ∧ Answers h 0 [] p))

/-! ## The host port and the maintenance Ethernet -/

/-- R401 to R407, R411: a transaction whose check verifies is performed and answered: READ with the register's word, READ16
with 64 bytes of the comb window, WRITE with the status of the register's action, COMMAND with the cycle its command is
latched in. An abandoned transaction and a clash are counted and drive nothing; a response that would come too late is BUSY.
Model choices: log entries 1, 143, 145, 158. -/
def Obligations.HostPortTransactions : Prop :=
  (∀ (t : Nat) (h : HostId) (a : BitVec 24) (w : W32) (s u v : State), u = elapse t s → Served a.toNat u → a.toNat % 4 = 0 →
    regReadFx h a.toNat u = some (v, w) →
    ∃ p : Hp, exec (.hpRead t h 0x1E a (hpCheck a.toNat 0x1E [0])) s = .next { v with hp := p }
      ∧ Answers h 0 (leBytes 4 w.toNat) p)
  ∧ (∀ (t : Nat) (h : HostId) (a : BitVec 24) (s u : State), u = elapse t s → Served a.toNat u → a.toNat % 64 = 0 →
    0x200000 ≤ a.toNat → a.toNat ≤ 0x2FFFFF →
    ∃ (k : Comb) (p : Hp), exec (.hpRead16 t h 0x3C a (hpCheck a.toNat 0x3C [0])) s = .next { u with comb := k, hp := p }
      ∧ k = { u.comb with cache := k.cache }
      ∧ Answers h 0 ((List.range 16).flatMap (fun i => leBytes 4 ((regRead u (a.toNat + 4 * i)).getD 0).toNat)) p)
  ∧ (∀ (t : Nat) (h : HostId) (x : W32) (s u : State), u = elapse t s → Served 0x030000 u → ∀ i : Instr,
    (i = .registerWrite t h 0x030000 x ∨ i = .hpWrite t h 0x2D 0x030000 x (hpCheck 0x030000 0x2D ([0] ++ leBytes 4 x.toNat))) →
    ∃ (e : Evr) (p : Hp), exec i s = .next { u with evr := e, hp := p } ∧ Answers h 0 [] p
      ∧ e = { u.evr with irqSeen := e.irqSeen, floor := ⟨(x.extractLsb' 0 4).toNat, (x.extractLsb' 4 4).toNat,
          (x.extractLsb' 8 4).toNat, (x.extractLsb' 12 4).toNat⟩ })
  ∧ (∀ (t : Nat) (h : HostId) (a : BitVec 24) (x : W32) (s u v : State) (st : Nat), u = elapse t s → Served a.toNat u →
    a.toNat % 4 = 0 → a.toNat ≠ 0x110020 → regWrite h a.toNat x u = (v, st) → hostOpen v = true → ∀ i : Instr,
    (i = .registerWrite t h a x ∨ i = .hpWrite t h 0x2D a x (hpCheck a.toNat 0x2D ([0] ++ leBytes 4 x.toNat))) →
    ∃ p : Hp, exec i s = .next { v with hp := p } ∧ Answers h st [] p)
  ∧ (∀ (t : Nat) (h : HostId) (a : BitVec 24) (b : List Byte) (s u : State), u = elapse t s → hostOpen u = true →
    u.rst.recovery = false → teleSound b = true → teleStatus (.inl h) false (readTele b) u = 0 →
    ∃ v : State, exec (.hpCommand t h 0x4B a b (hpCheck a.toNat 0x4B ([0] ++ b))) s = .next v
      ∧ Answers h 0 (leBytes 4 (latchCycle (ringNow u) u).toNat) v.hp
      ∧ v.cyc = { u.cyc with cmds := (holdCmd
          { slot := (readTele b).slot, value := (readTele b).value, when := ringNow u, deferred := false, eth := false } u.cyc.cmds) }
      ∧ v.keep = { u.keep with tseq := kvPut u.keep.tseq (readTele b).src.toNat (readTele b).tseq }
      ∧ v.hp.cmd = { u.hp.cmd with accepted := satAdd u.hp.cmd.accepted 1 0xFFFF } ∧ v.eng = u.eng ∧ v.lane = u.lane)
  ∧ (∀ (t : Nat) (s u : State), u = elapse t s → hostOpen u = true →
    (∃ e : Evr, exec (.hpCsAbandon t) s
      = .next { u with evr := e, hp := { u.hp with resp := none, abandoned := satAdd u.hp.abandoned 1 0xFF } })
    ∧ (∃ e : Evr, exec (.hpCsClash t) s
      = .next { u with evr := e, hp := { u.hp with resp := none, clash := satAdd u.hp.clash 1 0xFF } })
    ∧ ∀ (h : HostId) (op : Byte) (a : BitVec 24), ∃ p : Hp, exec (.hpResponseTimeout t h op a) s = .next { u with hp := p }
        ∧ Answers h 5 (noData op) p ∧ p.busy = satAdd u.hp.busy 1 0xFFFF)

/-- R411, R412, R414, R478, R527: telegrams, address resolution, echoes and connections on the maintenance Ethernet: a
telegram accepted is acknowledged to its sender, a command is held for its latch, a calendar telegram sets the calendar; a
closed update connection ends its session. Model choices: log entries 1, 142, 144. -/
def Obligations.EthernetServices : Prop :=
  (∀ (t : Nat) (src : W32) (b : List Byte) (s u : State), u = elapse t s → ethUp u = true → u.rst.recovery = false →
    teleSound b = true → teleStatus (.inr src) ((readTele b).slot == 0xFFFF) (readTele b) u = 0 → ∀ i : Instr,
    (i = .ethCommand t src b ∨ i = .calTelegram t src b) →
    ∃ (v : State) (latch : W32), exec i s = .next v
      ∧ v.eth = { u.eth with
          out := u.eth.out ++ [.ack src (ackBytes (readTele b) 0 latch)]
          cmd := { u.eth.cmd with accepted := satAdd u.eth.cmd.accepted 1 0xFFFF } }
      ∧ v.keep.tseq = kvPut u.keep.tseq (readTele b).src.toNat (readTele b).tseq
      ∧ ((readTele b).slot ≠ 0xFFFF → latch = latchCycle (ringNow u) u ∧ v.clk = u.clk ∧ v.cyc.cmds = holdCmd
          { slot := (readTele b).slot, value := (readTele b).value, when := ringNow u, deferred := false, eth := true } u.cyc.cmds)
      ∧ ((readTele b).slot = 0xFFFF → latch = 0 ∧ v.cyc = u.cyc ∧ v.clk = { u.clk with
          calNs := (readTele b).value.toNat, calFrac := 0, calValid := true, calSetter := 1 })
      ∧ v.eng = u.eng ∧ v.lane = u.lane ∧ v.hp = u.hp)
  ∧ (∀ (t : Nat) (s u : State), u = elapse t s → ethUp u = true →
    exec (.ethArpRequest t u.eth.addr) s = .next { u with eth := { u.eth with out := u.eth.out ++ [.arp u.eth.addr] } }
    ∧ (∀ data, u.rst.recovery = false → u.eth.echoes = 0 → exec (.ethIcmpEcho t u.eth.addr data) s = .next { u with eth := { u.eth with
        out := u.eth.out ++ [.icmp data], echoSince := u.clk.now, echoes := 1 } })
    ∧ (u.eth.upd = false → exec (.ethConnectionAttempt t 47120) s
        = .next { u with eth := { u.eth with upd := true, out := u.eth.out ++ [.tcpAccept .update] } })
    ∧ exec (.ethFrameDrop t) s = .next { u with eth := { u.eth with dropFrames := satAdd u.eth.dropFrames 1 0xFFFFFF } })
  ∧ (∀ (t : Nat) (up : Bool) (s u : State), u = elapse t s → u.eth.link ≠ up →
    ∃ e : Evr, exec (.ethLinkChange t up) s = .next { u with eth := { u.eth with link := up }, evr := e })
  ∧ (∀ (t : Nat) (s u : State), u = elapse t s →
    exec (.ethConnectionClose t (.comb 0)) s = .next { u with eth := { u.eth with comb0 := false } }
    ∧ exec (.ethConnectionClose t (.comb 1)) s = .next { u with eth := { u.eth with comb1 := false } }
    ∧ (u.upd.lock = some .eth → exec (.ethConnectionClose t .update) s = .next { u with
        eth := { u.eth with upd := false }
        upd := { u.upd with phase := .idle, lock := none, last := 0x24, failed := satAdd u.upd.failed 1 0xFF } }))

/-! ## The event router -/

/-- R419, R422 to R425: a source fires, is claimed by the target that finds it first in the ranking, completed by its
claimer alone, and becomes deliverable when its moderation time is over or its target goes idle; the other sources stay.
Model choices: log entries 1, 104. -/
def Obligations.EventSourcesMove : Prop :=
  (∀ (t n : Nat) (s u : State), u = elapse t s → namedSource n = true →
    ∃ (e : Evr), exec (.eventSourceFire t n) s = .next { u with evr := e }
      ∧ (kvGet e.src n).map Source.state = some (match (sourceOf u n).state with
          | .idle => EvState.pending | .pending => .pending | .active => .activePending | .activePending => .activePending)
      ∧ (kvGet e.src n).map Source.fires = some (satAdd (sourceOf u n).fires 1 0xFFFF)
      ∧ (∀ k, k ≠ n → kvGet e.src k = kvGet u.evr.src k) ∧ e.floor = u.evr.floor ∧ e.idle = u.evr.idle)
  ∧ (∀ (t : Nat) (h n : HostId) (s u : State), u = elapse t s → Served (0x030010 + 4 * n.val) u →
    ∃ (e : Evr) (p : Hp), exec (.evrClaim t h n) s = .next { u with evr := e, hp := p }
      ∧ (∀ k, bestFor u.evr n = some k → Answers h 0 (leBytes 4 (k % 2 ^ 32)) p
          ∧ kvGet e.src k = some { sourceOf u k with state := .active, claimer := n, period := 0, deliver := 0 }
          ∧ ∀ j, j ≠ k → kvGet e.src j = kvGet u.evr.src j)
      ∧ (bestFor u.evr n = none → Answers h 0 (leBytes 4 (if u.evr.irqSeen.getLsbD n.val then 255 else 0)) p ∧ e.src = u.evr.src))
  ∧ (∀ (t : Nat) (h n : HostId) (k : Byte) (s u : State), u = elapse t s → Served (0x030020 + 4 * n.val) u →
    ∃ (e : Evr) (p : Hp), exec (.evrComplete t h n k) s = .next { u with evr := e, hp := p } ∧ Answers h 0 [] p
      ∧ (namedSource k.toNat = true → (sourceOf u k.toNat).claimer = n → (sourceOf u k.toNat).state = .active →
          kvGet e.src k.toNat = some { sourceOf u k.toNat with state := .idle })
      ∧ (namedSource k.toNat = true → (sourceOf u k.toNat).claimer = n → (sourceOf u k.toNat).state = .activePending →
          kvGet e.src k.toNat = some { sourceOf u k.toNat with state := .pending, period := 1, since := u.clk.now, deliver := 0xF })
      ∧ ((sourceOf u k.toNat).claimer ≠ n → e = { u.evr with ignored := satAdd u.evr.ignored 1 0xFFFF })
      ∧ (∀ j, j ≠ k.toNat → kvGet e.src j = kvGet u.evr.src j))
  ∧ (∀ (t n : Nat) (s u : State), u = elapse t s → (sourceOf u n).state = .pending →
    (sourceOf u n).since + (sourceOf u n).modTime * 1000 ≤ u.clk.now →
    ∃ e : Evr, exec (.moderationTimeout t n) s = .next { u with evr := e }
      ∧ kvGet e.src n = some { sourceOf u n with deliver := 0xF } ∧ ∀ j, j ≠ n → kvGet e.src j = kvGet u.evr.src j)
  ∧ (∀ (t : Nat) (n : HostId) (s u : State), u = elapse t s →
    (∃ e : Evr, exec (.hostIdleAssert t n) s = .next { u with evr := e } ∧ e.idle = u.evr.idle ||| (1#4 <<< n.val)
      ∧ ∀ k x, kvGet u.evr.src k = some x → kvGet e.src k =
          some (if x.state = .pending then { x with deliver := x.deliver ||| (1#4 <<< n.val) } else x))
    ∧ exec (.hostIdleRelease t n) s = .next { u with evr := { u.evr with idle := u.evr.idle &&& ~~~(1#4 <<< n.val) } })

/-! ## Resets and bring-up -/

/-- R431 to R439, R453, R526: a module reset from READY: the engines, the stores, the telegrams, the write phase, the door
guard, the exchange, the program cycle, the vote unit, the vital inputs, the settings, the check units and the crown unit
take their reset values, stage HOLD begins, the source is counted and is the current one; a power-up after a loss of the
keep domain's supply takes the life clock on from its checkpoint. A pulse too short is counted and does nothing; the ball's
release is what HOLD waits for. Model choices: log entries 1, 33, 51. -/
def Obligations.ModuleResets : Prop :=
  (∀ (t : Nat) (s u : State), u = elapse t s → u.rst.powered = false →
    (u.keep.lost = false → ∃ v : State, exec (.powerOn t false) s = .next v
      ∧ v.rst.powered = true ∧ v.rst.cur = 1 ∧ v.rst.stage = .hold ∧ v.ret = ⟨{}, {}, {}⟩ ∧ BlocksReset v
      ∧ v.comb.state = .scanning ∧ v.clk.lifeUs = u.clk.lifeUs ∧ v.store = u.store
      ∧ v.keep.cnt = setNth u.keep.cnt 0 (satAdd (nthD 0 u.keep.cnt 0) 1 0xFFFF))
    ∧ ∃ v : State, exec (.powerOn t true) s = .next v
      ∧ v.rst.powered = true ∧ v.rst.cur = 1 ∧ v.rst.stage = .hold ∧ BlocksReset v ∧ v.clk.lifeUs = u.keep.checkpoint + 1000000
      ∧ v.clk.calValid = false ∧ v.keep.lifeGap = true ∧ v.keep.lost = false ∧ v.store = u.store)
  ∧ (∀ (t x : Nat) (s u : State), u = elapse t s → u.pwr.holdup = true → u.pwr.lostAt = some x → x + 2000000 ≤ u.clk.now →
    u.rst.stage = .ready →
    ∃ v : State, exec (.brownOut t) s = .next v ∧ v.rst.cur = 2 ∧ v.rst.stage = .hold ∧ v.rst.powered = inputUsable u
      ∧ v.keep.cnt = u.keep.cnt ∧ v.ret = ⟨{}, {}, {}⟩ ∧ BlocksReset v ∧ v.store = u.store)
  ∧ (∀ (t n : Nat) (s u : State), u = elapse t s → u.rst.powered = true →
    (40 ≤ n → u.rst.stage = .ready → ∃ v : State, exec (.nrstPulse t n) s = .next v ∧ v.rst.cur = 3 ∧ v.rst.stage = .hold
      ∧ v.rst.nrst = true ∧ v.keep.cnt = setNth u.keep.cnt 2 (satAdd (nthD 0 u.keep.cnt 2) 1 0xFFFF) ∧ BlocksReset v ∧ v.store = u.store)
    ∧ (1 ≤ n → n < 40 → exec (.nrstPulse t n) s
        = .next { u with rst := { u.rst with rejected := satAdd u.rst.rejected 1 0xFFFF } })
    ∧ (u.rst.nrst = true → exec (.nrstRelease t) s
        = .next { u with rst := { u.rst with nrst := false, level := true, stageAt := u.clk.now - 20000 } }))
  ∧ (∀ (t : Nat) (h : HostId) (warm : Bool) (s u : State), u = elapse t s → Served 0x010040 u → u.rst.stage = .ready →
    (crowned u = false → ∃ v : State, exec (if warm then .rstSwWarm t h 0xC3A5 else .rstSwCold t h 0xC3A5) s = .next v
      ∧ v.rst.cur = (if warm then 7 else 6) ∧ v.rst.stage = .hold ∧ v.hp.resp = none ∧ v.crown.state = .off
      ∧ v.ret = (if warm then u.ret else ⟨{}, {}, {}⟩) ∧ BlocksReset v ∧ v.store = u.store)
    ∧ (∀ key : W16, key ≠ 0xC3A5 → ∃ p : Hp, exec (if warm then .rstSwWarm t h key else .rstSwCold t h key) s
        = .next { u with hp := p } ∧ Answers h 0 [] p))

/-- R440 to R447, R450, R473, R485, R488, R503: the bring-up stages: each ends when its condition holds, two lanes at least
going on; without good options the safe defaults stand; without a firmware header the module is in recovery mode; without a
good settings block it resets again; at READY the lanes that boot are released and those that have loaded report ready.
Model choices: log entries 1, 35, 36, 38, 39. -/
def Obligations.BringUpStages : Prop :=
  (∀ (t : Nat) (s u : State), u = elapse t s → u.rst.stage = .hold → u.rst.powered = true → u.rst.nrst = false →
    u.rst.stageAt + 20000 ≤ u.clk.now →
    exec (.holdEnd t) s = .next { u with rst := { u.rst with
      stage := .clocks, stageAt := u.clk.now, holdEnd := u.clk.now, clkAt := u.clk.now } })
  ∧ (∀ (t : Nat) (refs : Tri Bool) (s u : State), u = elapse t s → u.rst.stage = .clocks → u.rst.ovr = false → u.keep.attempts < 8 →
    ∃ (r : Rst) (k : Keep), exec (.clocksStable t refs) s = .next { u with rst := r, keep := k }
      ∧ (∀ l, r.refs.at l = (u.rst.refs.at l || refs.at l))
      ∧ (refsSuffice { u with rst := { u.rst with refs := r.refs } } = true →
          r.stage = .options ∧ k = { u.keep with attempts := u.keep.attempts + 1 })
      ∧ (refsSuffice { u with rst := { u.rst with refs := r.refs } } = false → r.stage = .clocks ∧ k = u.keep))
  ∧ (∀ (t : Nat) (s u : State), u = elapse t s → u.rst.stage = .clocks → 2 ≤ countLanes (fun l => !clockLate u l && !u.rst.off.at l) →
    lanes.any (clockLate u) = true →
    ∃ v : State, exec (.clockStableTimeout t) s = .next v ∧ (∀ l, v.rst.off.at l = (u.rst.off.at l || clockLate u l))
      ∧ v.rst.refs = u.rst.refs ∧ v.store = u.store ∧ v.eng = u.eng)
  ∧ (∀ (t : Nat) (s u : State), u = elapse t s → u.rst.stage = .options →
    ∃ v : State, exec (.optionLoadDone t) s = .next v ∧ v.rst.stage = .pll ∧ v.rst.pllAt = some u.clk.now ∧ v.keep.attempts = 0
      ∧ v.store = u.store
      ∧ (match goodOptions u 0, goodOptions u 1 with
          | none, none => v.opt.fail = true ∧ v.opt.why = 2 ∧ v.opt.bad = 3 ∧ v.rst.cold = true
          | some x, none => v.opt.fail = false ∧ v.opt.used = 0 ∧ v.opt.bad = 2 ∧ v.opt.flags = BitVec.ofNat 8 (leAt x 3 1)
          | none, some x => v.opt.fail = false ∧ v.opt.used = 1 ∧ v.opt.bad = 1 ∧ v.opt.flags = BitVec.ofNat 8 (leAt x 3 1)
          | some x, some y => (leAt x 0 2 = leAt y 0 2 → x ≠ y → v.opt.fail = true ∧ v.opt.why = 3)
              ∧ (leAt x 0 2 ≠ leAt y 0 2 → v.opt.fail = false
                  ∧ v.opt.used = if newerSeq (leAt y 0 2) (leAt x 0 2) then 1 else 0)))
  ∧ (∀ (t : Nat) (plls : Tri Bool) (s u : State), u = elapse t s → u.rst.stage = .pll → u.rst.pllAt.isSome = true →
    u.rst.ovr = false → 2 ≤ countLanes (fun l => u.rst.refs.at l && (u.rst.plls.at l || plls.at l) && !u.rst.off.at l) →
    ∃ (r : Rst) (x : Tri LaneRegs), exec (.pllStable t plls) s = .next { u with rst := r, lane := x }
      ∧ r.stage = .boot ∧ (∀ l, (x.at l).stable = (u.rst.refs.at l && (u.rst.plls.at l || plls.at l))))
  ∧ (∀ (t : Nat) (acc : Tri Bool) (s u : State), u = elapse t s → u.rst.stage = .boot → u.rst.recovery = false →
    (u.rst.dram = true → 2 ≤ countLanes (fun l => boots u l && acc.at l && (u.lane.at l).fwCopy) →
      ∃ v : State, exec (.firmwareAccepted t acc) s = .next v ∧ v.rst.stage = .load ∧ v.rst.boot = 3 ∧ v.store = u.store
        ∧ (∀ l, v.rst.off.at l = (u.rst.off.at l || (boots u l && !(acc.at l && (u.lane.at l).fwCopy)))))
    ∧ (u.rst.dram = false → ∃ v : State, exec (.firmwareAccepted t acc) s = .next v ∧ v.store = u.store
        ∧ (fwHeader u = none → v.rst.recovery = true ∧ v.keep.reason = 1)
        ∧ (v.rst.recovery = true ∨ v.rst.stage = .selftest ∨ v.rst.stage = .load)))
  ∧ (∀ (t : Nat) (es : List (W32 × W32)) (s u : State), u = elapse t s → u.rst.stage = .selftest →
    ∃ v : State, exec (.startupSelftestDone t es) s = .next v ∧ v.ret = ⟨{}, {}, {}⟩ ∧ v.test.shown = some es ∧ v.test.kind = 2
      ∧ v.test.result = testVerdict u.upd.fwRun es ∧ v.store = u.store)
  ∧ (∀ (t : Nat) (s u : State), u = elapse t s → u.rst.stage = .load → u.glb.valid = false →
    ∃ v : State, exec (.settingsLoadDone t) s = .next v
      ∧ (match goodCopy u 0, goodCopy u 1 with
          | none, none => v.rst.stage = .hold ∧ v.glb.valid = false ∧ (v.keep.reason = 2 ∨ v.keep.reason = 3)
          | some x, none => v.set.block = some x ∧ v.set.used = 0 ∧ v.glb.valid = true ∧ v.glb.k = x.k ∧ v.glb.profile = x.profile
          | none, some x => v.set.block = some x ∧ v.set.used = 1 ∧ v.glb.valid = true ∧ v.glb.k = x.k ∧ v.glb.profile = x.profile
          | some _, some _ => v.glb.valid = true ∨ v.rst.stage = .hold))
  ∧ (∀ (t : Nat) (loaded : Tri Bool) (kats : Tri (BitVec 2)) (s u : State), u = elapse t s → u.rst.stage = .load →
    u.glb.valid = true → u.rst.chosen = none →
    2 ≤ countLanes (fun l => boots u l && loaded.at l && kats.at l == 3 && !u.test.katWrong.at l && (activeProg u l).isSome) →
    ∃ v : State, exec (.moduleReady t loaded kats) s = .next v ∧ v.rst.stage = .ready ∧ v.crown.state = .seeking
      ∧ (∀ l, boots u l = true → (v.lane.at l).state = .starting
          ∧ (v.lane.at l).ready = (loaded.at l && kats.at l == 3 && !u.test.katWrong.at l && (activeProg u l).isSome))
      ∧ (∀ r, (v.ring.at r).released = true) ∧ (∀ l, (v.clk.ring.at l).ns = 0) ∧ v.store = u.store)

/-! ## The update loader -/

/-- R475 to R480: a session: a HELLO draws a challenge; in recovery mode an OPEN needs no authorisation; DATA in order is
kept and any other ends the session; CLOSE begins the checks; their end begins the writing or ends the session, and so does
the end of the writing. Model choices: log entries 1, 9, 10, 106, 113, 114, 117, 119, 120. -/
def Obligations.UpdateSession : Prop :=
  (∀ (t : Nat) (src : UpdSrc) (item : Byte) (s u : State), u = elapse t s → heardFrom src u = true → u.test.scanEn = false →
    ∃ v : State, exec (.updHello t src item) s = .next v ∧ v.free = u.free + 1
      ∧ (∃ c : Challenge, chalOf src v.upd = some c ∧ c.what = item.toNat ∧ c.upTo = u.clk.lifeUs + 60000000)
      ∧ v.upd.phase = u.upd.phase ∧ v.store = u.store ∧ v.eng = u.eng)
  ∧ (∀ (t : Nat) (src : UpdSrc) (item : Byte) (len ver chk op : W32) (sig : List Byte) (s u : State), u = elapse t s →
    heardFrom src u = true → u.rst.recovery = true → u.test.scanEn = false → 1 ≤ item.toNat → item.toNat ≤ 4 →
    openStatus src item.toNat u = 0 →
    ∃ v : State, exec (.updOpen t src item len ver chk op sig) s = .next v
      ∧ v.upd.phase = .receiving ∧ v.upd.lock = some src ∧ v.upd.item = item.toNat ∧ v.upd.length = len.toNat
      ∧ v.upd.version = ver ∧ v.upd.check = chk ∧ v.upd.bytes = [] ∧ v.store = u.store)
  ∧ (∀ (t : Nat) (src : UpdSrc) (s u : State), u = elapse t s → receiving src u = true →
    (∀ (off : W32) (b : List Byte), off.toNat = u.upd.bytes.length → u.upd.bytes.length + b.length ≤ u.upd.length →
      exec (.updData t src off b) s = .next { u with upd := { u.upd with bytes := u.upd.bytes ++ b, msgAt := u.clk.now } })
    ∧ (∀ (off : W32) (b : List Byte), off.toNat ≠ u.upd.bytes.length →
      ∃ v : State, exec (.updData t src off b) s = .next v ∧ v.upd.phase = .idle ∧ v.upd.lock = none ∧ v.upd.last = 0x23
        ∧ v.upd.failed = satAdd u.upd.failed 1 0xFF ∧ v.store = u.store)
    ∧ exec (.updClose t src) s = .next { u with upd := { u.upd with phase := .checking, msgAt := u.clk.now } }
    ∧ (∀ st : Byte, exec (.updAbortMsg t src st) s = .next { u with upd := { u.upd with
        phase := .idle, lock := none, last := st.toNat, failed := satAdd u.upd.failed 1 0xFF } })
    ∧ (u.upd.msgAt + 10000000000 ≤ u.clk.now → ∃ v : State, exec (.updSessionTimeout t) s = .next v
        ∧ v.upd.phase = .idle ∧ v.upd.lock = none ∧ v.upd.last = 0x24 ∧ v.store = u.store))
  ∧ (∀ (t : Nat) (src : UpdSrc) (equal : Bool) (s u : State), u = elapse t s → u.upd.phase = .checking → u.upd.lock = some src →
    ∃ v : State, exec (.updChecksDone t equal) s = .next v
      ∧ (itemStatus equal u = 0 → v.upd.phase = .writing ∧ v.upd.lock = some src)
      ∧ (itemStatus equal u ≠ 0 → v.upd.phase = .idle ∧ v.upd.lock = none ∧ v.upd.last = itemStatus equal u ∧ v.store = u.store)
      ∧ (equal = false → v.upd.last = 0x20) ∧ v.upd.bytes = u.upd.bytes)
  ∧ (∀ (t : Nat) (src : UpdSrc) (s u : State), u = elapse t s → u.upd.phase = .writing → u.upd.lock = some src →
    (u.rst.recovery = false → u.upd.item = 4 → u.upd.bytes.length = 128 → ∃ v : State, exec (.updWriteDone t true) s = .next v
      ∧ v.upd.phase = .idle ∧ v.upd.lock = none ∧ v.upd.last = 0 ∧ v.upd.done = satAdd u.upd.done 1 0xFFFF
      ∧ storeBytes v 0x40000 128 = u.upd.bytes ∧ storeBytes v 0x60000 128 = u.upd.bytes
      ∧ (∀ a, (a < 0x40000 ∨ 0x80000 ≤ a) → storeByte v a = storeByte u a))
    ∧ ∃ v : State, exec (.updWriteDone t false) s = .next v ∧ v.upd.phase = .idle ∧ v.upd.lock = none ∧ v.upd.last = 0x22
      ∧ v.store = u.store)

/-- R475, R478, R482, R484, R488, R490: the host's update controls end a session, order a restart through the self-test or
reset the module into recovery; a module in recovery asks its partner for its item every 100 ms, and the partner takes note;
pair information goes out every second, and one that does not fit is a mismatch. Model choices: log entries 1, 121, 122,
124. -/
def Obligations.UpdateControlAndPartner : Prop :=
  (∀ (t : Nat) (h : HostId) (src : UpdSrc) (s u : State), u = elapse t s → Served 0x110020 u → u.upd.lock = some src →
    ∃ v : State, exec (.updCtlAbort t h) s = .next v ∧ Answers h 0 [] v.hp
      ∧ v.upd.phase = .idle ∧ v.upd.lock = none ∧ v.upd.last = 0x25 ∧ v.store = u.store ∧ v.eng = u.eng)
  ∧ (∀ (t : Nat) (h : HostId) (s u : State), u = elapse t s → Served 0x110020 u → takesOrHolds u = false →
    (u.test.due = none → u.test.running = false → ∃ p : Hp, exec (.updCtlRestart t h 0x5A3C) s = .next { u with
        test := { u.test with due := some u.clk.now, reason := 2, andThen := true }, hp := p } ∧ Answers h 0 [] p)
    ∧ (u.rst.stage = .ready → ∃ v : State, exec (.updCtlRecover t h 0x5A3C) s = .next v ∧ v.rst.cur = 6 ∧ v.rst.stage = .hold
        ∧ v.keep.reason = 4 ∧ v.keep.recoverAsked = true ∧ v.hp.resp = none ∧ v.store = u.store))
  ∧ (∀ (t : Nat) (s u : State), u = elapse t s → u.rst.recovery = true → passed u.upd.reqAt 100000000 u = true →
    u.pl.sync0 = true →
    ∃ v : State, exec (.recoveryReqSend t) s = .next v ∧ v.upd.reqAt = some u.clk.now
      ∧ (∃ m : List Byte, v.pl.out = u.pl.out ++ [{ rcd := .image m, lane := none }]
          ∧ m.take 3 = [0x09, if u.keep.reason = 3 then 2 else 1, BitVec.ofNat 8 u.keep.reason]) ∧ v.store = u.store)
  ∧ (∀ (t : Nat) (x : Rcv) (item reason : Byte) (ver : W32) (s u : State), u = elapse t s → Sound x u → u.rst.stage = .ready →
    u.upd.reqSeen = false →
    ∃ v : State, exec (.recoveryReq t x item ver reason) s = .next v ∧ v.upd.reqSeen = true ∧ v.upd.phase = u.upd.phase
      ∧ v.store = u.store ∧ v.eng = u.eng ∧ v.lane = u.lane)
  ∧ (∀ (t : Nat) (s u : State), u = elapse t s → u.rst.stage = .ready → passed u.upd.pairAt 1000000000 u = true → u.pl.sync0 = true →
    ∃ v : State, exec (.pairInfoSend t) s = .next v ∧ v.upd.pairAt = some u.clk.now ∧ v.store = u.store
      ∧ v.pl.out = u.pl.out ++ [{ lane := none, rcd :=
          (.image (updMsg 0x0A 0 0 0 4 u.upd.fwRun.toNat (leBytes 2 u.upd.pairLevel ++ leBytes 2 u.upd.pairMin))) }])
  ∧ (∀ (t : Nat) (x : Rcv) (ver : W32) (level least : W16) (s u : State), u = elapse t s → Sound x u → u.rst.stage = .ready →
    exec (.pairInfo t x ver level least) s = .next { heard x.rank u with upd := { u.upd with
      reqSeen := false, returned := false
      pairMismatch := u.crown.state == .seeking && !(decide (u.upd.pairMin ≤ level.toNat) && decide (least.toNat ≤ u.upd.pairLevel)) } })

/-! ## Self-test and injection -/

/-- R494 to R501: the shut-down self-test: a keyed stop orders it, it begins with the crown unit OFF and the engines
stopped, each step keeps its entries, the last one ends it with its verdict, and without frames for two leases it is cut
short by a reset. Model choices: log entries 1, 20, 126, 127, 128, 177. -/
def Obligations.ShutDownSelfTest : Prop :=
  (∀ (t : Nat) (h : HostId) (b : Bool) (s u : State), u = elapse t s → Served 0x120004 u → takesOrHolds u = false →
    u.test.running = false → u.test.due = none →
    ∃ p : Hp, exec (.stStop t h 0x7E51 b) s = .next { u with
        test := { u.test with due := some u.clk.now, reason := 3, andThen := b }, hp := p } ∧ Answers h 0 [] p)
  ∧ (∀ (t : Nat) (s u : State), u = elapse t s → testMayStart u = true →
    ∃ v : State, exec (.selftestStart t) s = .next v ∧ v.test.state = .running ∧ v.test.running = true ∧ v.test.due = none
      ∧ v.test.step = 1 ∧ v.crown.state = .off ∧ (∀ l, (v.eng.at l).run = .stopped) ∧ (∀ r, (v.ring.at r).released = false)
      ∧ v.upd.lock = none ∧ v.keep.testRec.done = 0 ∧ v.keep.testRec.start = u.clk.lifeUs ∧ v.st = u.st ∧ v.store = u.store)
  ∧ (∀ (t : Nat) (es : List (W32 × W32)) (s u : State), u = elapse t s → u.test.state = .running →
    (u.test.step < 6 → ∃ v : State, exec (.selftestStepDone t es) s = .next v ∧ v.test.step = u.test.step + 1
      ∧ v.keep.testRec.entries = u.keep.testRec.entries ++ es.take (stepEntries u.test.step)
      ∧ (u.test.step = 3 → v.ret = ⟨{}, {}, {}⟩) ∧ (u.test.step ≠ 3 → v.ret = u.ret)
      ∧ (∀ r, (v.test.looped.at r) = if u.test.step = 4 then loops u r else if u.test.step = 5 then false else u.test.looped.at r)
      ∧ v.store = u.store ∧ v.eng = u.eng)
    ∧ (6 ≤ u.test.step → u.test.andThen = false → ∃ v : State, exec (.selftestStepDone t es) s = .next v
      ∧ v.test.state = .stopped ∧ v.keep.testRec.done = doneMark ∧ v.keep.testRec.stop = u.clk.lifeUs
      ∧ v.test.result = testVerdict u.upd.fwRun v.keep.testRec.entries ∧ v.store = u.store)
    ∧ (6 ≤ u.test.step → u.test.andThen = true → u.rst.stage = .ready → ∃ v : State, exec (.selftestStepDone t es) s = .next v
      ∧ v.rst.cur = 6 ∧ v.rst.stage = .hold ∧ v.keep.testRec.done = doneMark)
    ∧ (u.rst.stage = .ready → u.test.frameAt + 2 * leaseNs u ≤ u.clk.now → ∃ v : State, exec (.selftestCutShort t) s = .next v
      ∧ v.rst.cur = 6 ∧ v.rst.stage = .hold ∧ v.keep.testRec = u.keep.testRec))
  ∧ (∀ (t x : Nat) (s u : State), u = elapse t s → u.test.loopAt = some x → x + 10000000 ≤ u.clk.now →
    exec (.loopbackEnd t) s = .next { u with test := { u.test with looped := ⟨false, false, false, false⟩, loopAt := none } })

/-- R504 to R512: authorisations, the test access port, injection, the override and the analogue buses: a challenge serves
one GO, which answers AUTH_FAILED unless its signature verifies; JTAG takes an instruction that is offered; a fault fires in
an open session, and is counted; the override is armed in STOPPED under its authorisation. Model choices: log entries 1, 9,
10, 130, 131, 132, 134, 179. -/
def Obligations.AuthorisedTests : Prop :=
  (∀ (t : Nat) (h : HostId) (pu : BitVec 2) (s u : State), u = elapse t s → Served 0x120040 u → u.test.scanEn = false →
    (pu ≠ 0 → ∃ (c : Challenge) (p : Hp), exec (.stAuthChalReq t h pu) s = .next { u with
        test := { u.test with purpose := pu, chal := some c }, free := u.free + 1, hp := p }
      ∧ Answers h 0 [] p ∧ c.what = pu.toNat ∧ c.operator = u.test.op ∧ c.upTo = u.clk.lifeUs + 600000000)
    ∧ (∀ cleared, goForbidden { u with test := { u.test with purpose := pu } } = false →
      ∃ v : State, exec (.stAuthGo t h pu cleared) s = .next v ∧ v.test.chal = none ∧ v.store = u.store ∧ v.eng = u.eng
        ∧ (if authSigned { u with test := { u.test with purpose := pu } } then
            Answers h 0 [] v.hp ∧ (pu = 1 → v.test.scanEn = cleared ∧ v.comb.chal = none ∧ v.upd.chalEth = none)
            ∧ (pu = 2 → v.test.session = some (u.clk.lifeUs + 3600000000, u.test.op)) ∧ (pu = 3 → v.test.auth = true)
          else Answers h 7 [] v.hp ∧ v.test.scanEn = false ∧ v.test.session = u.test.session ∧ v.test.auth = u.test.auth)))
  ∧ (∀ (t : Nat) (x : Jtag) (s u : State), u = elapse t s → (offered x || u.test.scanEn) = true →
    exec (.jtagInstruction t x) s = .next { u with test := { u.test with jtag := x } })
  ∧ (∀ (t : Nat) (h : HostId) (n : Byte) (a : Nat × W32) (l : Lane) (s u : State), u = elapse t s → Served 0x120104 u →
    u.test.session = some a →
    (u.test.inj = none → u.test.state ≠ .running → bits u.test.injSel 15 0 = 0x0301 → bits u.test.injSel 17 16 = l.num →
      u.vote.mode ≠ .halted → (u.lane.at l).state = .voting → u.vote.rejoin = none →
      ∃ v : State, exec (.stInjFire t h n) s = .next v ∧ Answers h 0 [] v.hp
        ∧ v.test.injDone = satAdd u.test.injDone 1 0xFFFF ∧ v.test.injCount = n.toNat
        ∧ (v.lane.at l).fault.getLsbD 5 = true ∧ (∀ m, m ≠ l → v.lane.at m = u.lane.at m) ∧ v.eng = u.eng ∧ v.store = u.store)
    ∧ (∃ p : Hp, exec (.stInjEnd t h n) s = .next { u with
        test := { u.test with session := none, injCount := n.toNat }, hp := p } ∧ Answers h 0 [] p)
    ∧ (a.1 ≤ u.clk.lifeUs → exec (.injectSessionExpiry t) s = .next { u with test := { u.test with session := none } }))
  ∧ (∀ (t : Nat) (i : Inject) (s u : State), u = elapse t s → u.test.inj = some i → i.ends ≤ u.clk.now → i.point ≠ 0x0702 →
    exec (.injectionEnd t) s = .next { u with test := { u.test with inj := none } })
  ∧ (∀ (t : Nat) (h : HostId) (s u : State), u = elapse t s → Served 0x120110 u → u.test.state = .stopped → u.test.auth = true →
    u.opt.flags.getLsbD 3 = true →
    ∃ p : Hp, exec (.stOvrArm t h) s = .next { u with test := { u.test with ovr := true }, hp := p } ∧ Answers h 0 [] p)
  ∧ (∀ (t : Nat) (h : HostId) (x y : Byte) (s u : State), u = elapse t s → Served 0x120120 u → takesOrHolds u = false →
    u.test.state ≠ .running → x.toNat ≤ 0x13 → y.toNat ≤ 0x13 →
    ∃ p : Hp, exec (.stAtbSelect t h x y) s = .next { u with test := { u.test with atb0 := x, atb1 := y }, hp := p }
      ∧ Answers h 0 [] p)

/-! ## Workers, supplies and clocks -/

/-- R29, R101, R102, R515 to R517, R519 to R523, R540, R552: what the workers find and measure, while they run and the
cluster serves them; a lane whose measured clock lies beyond ±1 % is a clock out of range. R158, R433, R534 to R538: the
feed of every path follows its own inputs; when two islands find neither input usable, the permits go low, origination
closes, the checkpoint and the BROWN_OUT count are written and hold-up runs; a keep supply below 2.6 V is flagged. Model
choices: log entries 1, 136, 138, 141, 165, 178. -/
def Obligations.WorkersAndSupplies : Prop :=
  ((∀ (t : Nat) (s u : State), u = elapse t s → clusterFree u = true →
    (∀ (n : Nat) (l : Lane), storesFree u l = true → ∃ (w : Wk) (c : Comb),
        exec (.scrubPass t (.clean false n l)) s = .next { u with wk := w, comb := c }
        ∧ w = { u.wk with
            ocCorr := satAdd u.wk.ocCorr n 0xFFFF, ocPass := satAdd u.wk.ocPass 1 0xFFFF, taskAt := w.taskAt, taskTold := w.taskTold })
    ∧ (∀ (l : Lane) (slot : Bool), ∃ (x : RetSlots) (y : LaneRegs),
        exec (.scrubPass t (.retentive l slot)) s = .next { u with ret := u.ret.put l x, lane := u.lane.put l y }
        ∧ (∀ c, x.at slot = some c → c.spoilt = true ∧ copyVerifies l slot c = false) ∧ x.at (!slot) = (u.ret.at l).at (!slot)
        ∧ y = { u.lane.at l with retValid := y.retValid, retSlot := y.retSlot, retCycle := y.retCycle }
        ∧ (y.retValid = true → y.retSlot = !slot))
    ∧ (∀ ps : Tri Nat, ∃ w : Wk, exec (.slackMeasure t ps) s = .next { u with wk := w } ∧ w.slack = ps
        ∧ ∀ l, w.sums.at l = ((u.wk.sums.at l).1 + ps.at l, (u.wk.sums.at l).2 + 1))
    ∧ (u.wk.telemAt = none → ∃ (w : Wk) (c : Comb) (e : Evr), exec (.telemetry t) s = .next { u with wk := w, comb := c, evr := e }
        ∧ w = { u.wk with telemAt := some u.clk.lifeUs, taskAt := w.taskAt, taskTold := w.taskTold })
    ∧ (∀ a : Ageing, ∃ v : State, exec (.ageingDaily t a) s = .next v ∧ v.wk.sums = ⟨(0, 0), (0, 0), (0, 0)⟩
        ∧ v.keep.plan.ro = a.ro ∧ v.wk.eyeNow = (List.range 7).map (nthD 1000 a.eyes)
        ∧ (∀ l, (u.wk.sums.at l).2 ≠ 0 → v.keep.plan.means.at l = (u.wk.sums.at l).1 / (u.wk.sums.at l).2)
        ∧ (∀ i, i < 7 → nthD 1000 a.eyes i < 250 → v.wk.warned = true)
        ∧ v.eng = u.eng ∧ v.st = u.st ∧ v.lane = u.lane ∧ v.store = u.store)
    ∧ (∀ f : Tri Bool, (f.a || f.b || f.c) = true → ∃ (k : Keep) (c : Comb) (e : Evr),
        exec (.dramRetentionTest t f) s = .next { u with keep := k, comb := c, evr := e } ∧ k.plan.refresh = true
        ∧ (u.keep.plan.refresh = false → k.plan.dscrub = true) ∧ (∀ l, k.plan.fast.at l = (u.keep.plan.fast.at l || f.at l))))
  ∧ (∀ (t : Nat) (m : Measured) (s u : State), u = elapse t s → u.rst.powered = true → u.rst.recovery = false →
    u.test.running = false → u.cyc.phase ≠ .voting → u.cyc.phase ≠ .voted → u.vote.mode ≠ .halted →
    (∀ l, (m.dev.at l).toInt.natAbs ≤ 10000) →
    ∃ (x : Tri LaneRegs) (w : Wk) (p : Pwr) (c : Comb) (e : Evr),
      exec (.calibration t m) s = .next { u with lane := x, wk := w, pwr := p, comb := c, evr := e }
      ∧ (∀ l, x.at l = { u.lane.at l with
          vcoreMv := m.core.at l, freqDev := m.dev.at l, feed := (u.pwr.paths.at l).feed
          vmainOk := (x.at l).vmainOk, vbackOk := (x.at l).vbackOk }) ∧ w.temps = m.temp
      ∧ p.temp = lidTemp m.temp ∧ p.mainMv = m.mainMv ∧ p.backMv = m.backMv ∧ p.load = m.power
      ∧ p.holdUs = min m.holdCommon (min m.holdUs.a (min m.holdUs.b m.holdUs.c))
      ∧ p.peak = max u.pwr.peak m.power ∧ (u.fuse.caseMax < lidTemp m.temp ↔ p.hotAt.isSome = true))
  ∧ (∀ (t : Nat) (m : Measured) (l : Lane) (s u : State), u = elapse t s → u.rst.powered = true → u.rst.recovery = false →
    u.rst.stage = .ready → u.test.running = false → u.cyc.phase = .idle → u.vote.mode ≠ .halted → u.vote.rejoin = none →
    10000 < (m.dev.at l).toInt.natAbs → (∀ k, k ≠ l → (m.dev.at k).toInt.natAbs ≤ 10000) → (u.lane.at l).clockIn = true →
    (u.lane.at l).state ≠ .off →
    ∃ v : State, exec (.calibration t m) s = .next v ∧ (v.lane.at l).fault.getLsbD 6 = true ∧ (v.lane.at l).clockIn = false
      ∧ v.vote.laneAct.at l = true ∧ v.vote.permit.at l = false ∧ v.vote.src.getLsbD 2 = true ∧ v.eng = u.eng ∧ v.st = u.st)
  ∧ (∀ (t x : Nat) (s u : State), u = elapse t s → u.pwr.hotAt = some x → x + 10000000000 ≤ u.clk.now → u.pwr.hotTold = false →
    ∃ (c : Comb) (e : Evr), exec (.tempHighTimer t) s
      = .next { u with pwr := { u.pwr with hotTold := true }, comb := c, evr := e }))
  ∧ ((∀ (t : Nat) (a : Inputs) (is : Tri Inputs) (s u : State), u = elapse t s →
    ∃ (p : Pwr) (x : Tri LaneRegs) (c : Comb) (e : Evr) (z : List (Nat × Nat)),
      exec (.supplyChange t a is) s = .next { u with pwr := p, lane := x, comb := c, evr := e, setAt := z }
      ∧ p.main = a.main ∧ p.back = a.back
      ∧ (a.main = .settled → p.feed = false) ∧ (u.pwr.feed = false → Window.feeds a.main = false → Window.feeds a.back = true → p.feed = true)
      ∧ (u.pwr.feed = true → a.main = .usable → p.feed = Window.feeds a.back)
      ∧ (∀ l, (p.paths.at l).inputs = is.at l ∧ ((is.at l).main = .settled → (p.paths.at l).feed = false)
          ∧ ((u.pwr.paths.at l).feed = false → Window.feeds (is.at l).main = false → Window.feeds (is.at l).back = true → (p.paths.at l).feed = true)
          ∧ (x.at l).feed = (p.paths.at l).feed ∧ (x.at l).state = (u.lane.at l).state))
  ∧ (∀ (t : Nat) (is : Tri Bool) (s u : State), u = elapse t s → u.rst.powered = true → u.pwr.holdup = false →
    2 ≤ countLanes is.at →
    ∃ v : State, exec (.supplyLost t is) s = .next v ∧ v.pwr.holdup = true ∧ v.pwr.lostAt = some u.clk.now
      ∧ (∀ l, v.vote.permit.at l = false) ∧ 0x15 ∈ v.vote.modAct ∧ v.vote.mode = u.vote.mode ∧ v.crown.closed = true
      ∧ v.comb.holdupEnd = some (u.clk.now + 1600000) ∧ v.keep.checkpoint = u.clk.lifeUs
      ∧ v.keep.cnt = setNth u.keep.cnt 1 (satAdd (nthD 0 u.keep.cnt 1) 1 0xFFFF) ∧ v.pl.out = sent .release u
      ∧ v.eng = u.eng ∧ v.st = u.st ∧ v.lane = u.lane)
  ∧ (∀ (t mv : Nat) (s u : State), u = elapse t s → inputUsable u = true →
    ∃ (c : Comb) (e : Evr), exec (.vkeepMeasure t mv) s
      = .next { u with pwr := { u.pwr with keepMv := mv, keepLow := decide (mv < 2600) }, comb := c, evr := e }))

/-- R368, R493, R525 to R532: the life clock is corrected but never stepped, and its checkpoint is kept; the calendar is
set, steered or stepped by its setters; the lifetime counters are kept up to the present, and count nothing while nothing
they count runs; reading a low half latches its high half; challenges whose time is over are valid no more. Model choices:
log entries 1, 138, 139, 140. -/
def Obligations.ClocksAndCounters : Prop :=
  (∀ (t : Nat) (s u : State), u = elapse t s →
    (∀ ppb, u.rst.powered = true → exec (.lifeClockCalibrate t ppb) s
        = .next { u with clk := { u.clk with lifePpb := max (-200000) (min 200000 ppb) } })
    ∧ exec (.lifeCheckpoint t) s = .next { u with keep := { u.keep with checkpoint := u.clk.lifeUs } }
    ∧ (∃ k : Keep, exec (.lifetimeCounterUpdate t) s = .next { u with keep := k } ∧ k.countedAt = u.clk.lifeUs
        ∧ (u.rst.powered = false → inputUsable u = false → crowned u = false → u.vote.mode ≠ .degraded →
            k = { u.keep with countedAt := u.clk.lifeUs }))
    ∧ (∃ (c : Comb) (x : Test) (d : Upd), exec (.challengeExpiry t) s = .next { u with comb := c, test := x, upd := d }
        ∧ c = { u.comb with chal := c.chal } ∧ (∀ y, c.chal = some y → u.comb.chal = some y ∧ u.clk.lifeUs < y.upTo)
        ∧ (∀ y, x.chal = some y → u.test.chal = some y ∧ u.clk.lifeUs < y.upTo)
        ∧ (∀ y, d.chalEth = some y → u.upd.chalEth = some y ∧ u.clk.lifeUs < y.upTo))
    ∧ (u.eth.ptpLock = true → ∃ e : Evr, exec (.ptpLockLoss t) s
        = .next { u with eth := { u.eth with ptpLock := false, ptpStep := none }, evr := e }))
  ∧ (∀ (t : Nat) (h : HostId) (s u : State), u = elapse t s → Served 0x140020 u → u.tk.setNs.toNat ≤ 999999999 →
    setForbidden u = false →
    ∃ v : State, exec (.tkCalSet t h) s = .next v ∧ Answers h 0 [] v.hp
      ∧ v.clk = { u.clk with
          calNs := (u.tk.setHi.toNat * 2 ^ 32 + u.tk.setLo.toNat) * 1000000000 + u.tk.setNs.toNat
          calFrac := 0, calValid := true, calSetter := 0 } ∧ v.keep = u.keep ∧ v.eng = u.eng)
  ∧ (∀ (t : Nat) (off utc : Int) (s u : State), u = elapse t s → ethRuns u = true → u.eth.ptpOn = true →
    (u.eth.ptpSeen = true → u.eth.ptpUtc = utc) →
    ∃ (x : Eth) (c : Clocks) (e : Evr), exec (.ptpMessage t off utc) s = .next { u with eth := x, clk := c, evr := e }
      ∧ x.ptpLock = true ∧ x.ptpOff = BitVec.ofInt 32 off ∧ c.calNs = u.clk.calNs ∧ c.lifeUs = u.clk.lifeUs
      ∧ (off.natAbs ≤ 1000000 → c.calPpb.natAbs ≤ 500000 ∧ x.ptpStep = u.eth.ptpStep)
      ∧ (1000000 < off.natAbs → c = u.clk ∧ x.ptpStep = some (-off, (u.clk.calNs / 1000000000 + 1) * 1000000000)))
  ∧ (∀ (t due : Nat) (d : Int) (s u : State), u = elapse t s → u.eth.ptpStep = some (d, due) → due ≤ u.clk.calNs →
    setTaken true u = false →
    ∃ v : State, exec (.calendarStepAtSecond t) s = .next v ∧ v.eth = { u.eth with ptpStep := none }
      ∧ v.clk = { u.clk with calNs := ((u.clk.calNs : Int) + d).toNat, calFrac := 0, calValid := true, calSetter := 2 }
      ∧ v.keep = u.keep ∧ v.eng = u.eng)
  ∧ (∀ (t : Nat) (h : HostId) (b : Bool) (s u : State), u = elapse t s →
    (Served (if b then 0x140008 else 0x140000) u → ∃ (k : Tk) (p : Hp), exec (.tkLoRead t h b) s = .next { u with tk := k, hp := p }
      ∧ Answers h 0 (leBytes 4 ((if b then (if u.clk.calValid then u.clk.calNs else 0) / 1000000000 else u.clk.lifeUs) % 2 ^ 32)) p
      ∧ (b = false → k = { u.tk with lifeHi := BitVec.ofNat 32 (u.clk.lifeUs / 2 ^ 32) }))
    ∧ (Served (if b then 0x020110 else 0x020108) u → ∃ (x : SetRegs) (p : Hp), exec (.setIdLoRead t h b) s
        = .next { u with set := x, hp := p }
      ∧ Answers h 0 (leBytes 4 ((if b then (setOf u).fromId else (setOf u).id).toNat % 2 ^ 32)) p
      ∧ (if b then x.fromHi else x.idHi) = (if b then (setOf u).fromId else (setOf u).id).extractLsb' 32 32))

/-! ## All commands -/

/-- Every command completes: the spec stops none, so exec answers a next state in every state and for every operand, the
queue and the fuses as they were. The one stop is the model's own (log entry 23): a verb command whose word is of another
legal verb is a command that no engine performs (R61), and faults. A word of a verb not in the table runs and takes its trap
(R62, R86). Model choices: log entry 23. -/
def Obligations.EveryCommandCompletes : Prop :=
  ∀ (c : Instr) (s : State),
    (verbOf c = none → ∃ t : State, exec c s = .next t ∧ t.pending = s.pending ∧ t.fuse = s.fuse)
    ∧ (∀ (k : Nat) (l : Lane) (w : W64), verbOf c = some (k, l, w) →
        ((vword w).verb.toNat = k ∨ verbForm (vword w).verb = none →
          ∃ t : State, exec c s = .next t ∧ t.pending = s.pending ∧ t.fuse = s.fuse ∧ ∀ m, m ≠ l → t.eng.at m = s.eng.at m ∧ t.st.at m = s.st.at m)
        ∧ ((vword w).verb.toNat ≠ k → (verbForm (vword w).verb).isSome = true → exec c s = .fault .wrongVerb))

/-- R295, R296, R509: a record of the partner link that is sent once and fails its check is counted, and nothing else
changes; of one that is sent twice each copy that fails its check is counted, and copies that differ, come apart by more
than 2 µs or of which one is missing are counted once, and nothing else changes; an injected fault fails a record's check.
Any other record completes, whatever the crown's state: one sent once names the partner's rank and moves neither counter; of
one sent twice it is all one how far apart, within 2 µs, the copies came. Model choices: log entry 1. -/
def Obligations.PartnerRecordsAreChecked : Prop :=
  (∀ (t ts t1 t2 t3 t4 : Nat) (x : Rcv) (e version : W32) (pb : PartBody) (cb : CommandBody) (lb : LatchBody) (us : List GuardUnit)
      (yb : CopyBody) (sb : StatusBody) (bytes : List Byte) (item reason : Byte) (level least : W16) (c : Instr) (s u : State),
    u = elapse t s →
    c ∈ [.leaseAckRecord t x ts e, .timeRecord t x t1 t2 t3 t4, .partRecord t x pb, .commandRecord t x cb, .latchRecord t x lb,
      .guardRecord t x us, .copyRecord t x yb, .statusRecord t x sb, .eventRecord t x bytes, .recoveryReq t x item version reason,
      .pairInfo t x version level least] →
    (x.sound = false ∨ injected 0x0901 u ≠ none → exec c s = .next { spendOnce 0x0901 u with
      pl := { u.pl with errCheck := satAdd u.pl.errCheck 1 0xFFFF } })
    ∧ (Sound x u → ∃ v : State, exec c s = .next v ∧ v.crown.partnerRank = x.rank
        ∧ v.pl.errCheck = u.pl.errCheck ∧ v.pl.errDup = u.pl.errDup))
  ∧ TwinChecked Instr.leaseRecord ∧ TwinChecked Instr.commitRecord ∧ TwinChecked Instr.handoverOffer
  ∧ TwinChecked Instr.handoverAccept ∧ TwinChecked Instr.handoverRefuse ∧ TwinChecked Instr.handoverCommit
  ∧ TwinChecked Instr.handoverCancel ∧ TwinChecked Instr.releaseRecord ∧ TwinChecked Instr.claimRecord
end

