-- ==== Sys2Proof/Laws/Frames.lean ====
section
/-! SUPPORT. Sealed headers and frames verify (R182, R185, R194). -/
namespace Sys2Proof.Machine

@[simp] theorem sealHdr_ftype (r : Ring) (h : Hdr) : (sealHdr r h).ftype = h.ftype := rfl
@[simp] theorem sealHdr_flags (r : Ring) (h : Hdr) : (sealHdr r h).flags = h.flags := rfl
@[simp] theorem sealHdr_secCount (r : Ring) (h : Hdr) : (sealHdr r h).secCount = h.secCount := rfl
@[simp] theorem sealHdr_cycle (r : Ring) (h : Hdr) : (sealHdr r h).cycle = h.cycle := rfl
@[simp] theorem sealHdr_epoch (r : Ring) (h : Hdr) : (sealHdr r h).epoch = h.epoch := rfl
@[simp] theorem sealHdr_ringTime (r : Ring) (h : Hdr) : (sealHdr r h).ringTime = h.ringTime := rfl
@[simp] theorem sealHdr_masterId (r : Ring) (h : Hdr) : (sealHdr r h).masterId = h.masterId := rfl
@[simp] theorem sealHdr_beaconSeq (r : Ring) (h : Hdr) : (sealHdr r h).beaconSeq = h.beaconSeq := rfl
@[simp] theorem sealTrl_hdr (r : Ring) (f : Frame) : (sealTrl r f).hdr = f.hdr := rfl
@[simp] theorem sealTrl_secs (r : Ring) (f : Frame) : (sealTrl r f).secs = f.secs := rfl
@[simp] theorem sealTrl_claim (r : Ring) (f : Frame) : (sealTrl r f).claim = f.claim := rfl
@[simp] theorem sealTrl_hops (r : Ring) (f : Frame) : (sealTrl r f).trl.hops = f.trl.hops := rfl
@[simp] theorem sealTrl_flags (r : Ring) (f : Frame) : (sealTrl r f).trl.flags = f.trl.flags := rfl

/-- A sealed header verifies. -/
@[simp] theorem hdrOk_sealHdr (r : Ring) (h : Hdr) : hdrOk r (sealHdr r h) = true := by
  simp [hdrOk, sealHdr, hdrCheck, hdrBytes]

/-- A sealed trailer verifies. -/
@[simp] theorem trlOk_sealTrl (r : Ring) (f : Frame) : trlOk r (sealTrl r f) = true := by
  simp [trlOk, sealTrl, trlCheck, trlCovered]

/-- A frame with a sealed header and a sealed trailer that no station has marked is a whole frame. -/
theorem frameOk_sealed (r : Ring) (f : Frame) (h : Hdr) (hh : f.hdr = sealHdr r h) (hf : f.trl.flags.getLsbD 0 = false) :
    frameOk r (sealTrl r f) = true := by simpa [frameOk, hh] using hf

end Sys2Proof.Machine
end

