-- ==== Sys2Proof/Laws/State.lean ====
section
/-! SUPPORT. One lemma per field for the plain updates of the state, true by rfl. -/
namespace Sys2Proof.Machine

@[simp] theorem Tri.put_at {α : Type} (t : Tri α) (l : Lane) : t.put l (t.at l) = t := by cases l <;> rfl

theorem Tri.eq_of_at {α : Type} {t u : Tri α} (h : ∀ l, t.at l = u.at l) : t = u := by
  cases t; cases u; have a := h .a; have b := h .b; have c := h .c; simp_all [Tri.at]

/-! ### elapse -/

@[simp] theorem elapse_ring (t : Nat) (s : State) : (elapse t s).ring = s.ring := rfl
@[simp] theorem elapse_tb (t : Nat) (s : State) : (elapse t s).tb = s.tb := rfl
@[simp] theorem elapse_tg (t : Nat) (s : State) : (elapse t s).tg = s.tg := rfl
@[simp] theorem elapse_wp (t : Nat) (s : State) : (elapse t s).wp = s.wp := rfl
@[simp] theorem elapse_door (t : Nat) (s : State) : (elapse t s).door = s.door := rfl
@[simp] theorem elapse_crown (t : Nat) (s : State) : (elapse t s).crown = s.crown := rfl
@[simp] theorem elapse_pl (t : Nat) (s : State) : (elapse t s).pl = s.pl := rfl
@[simp] theorem elapse_px (t : Nat) (s : State) : (elapse t s).px = s.px := rfl
@[simp] theorem elapse_keep (t : Nat) (s : State) : (elapse t s).keep = s.keep := rfl
@[simp] theorem elapse_lane (t : Nat) (s : State) : (elapse t s).lane = s.lane := rfl
@[simp] theorem elapse_eng (t : Nat) (s : State) : (elapse t s).eng = s.eng := rfl
@[simp] theorem elapse_st (t : Nat) (s : State) : (elapse t s).st = s.st := rfl
@[simp] theorem elapse_bank (t : Nat) (s : State) : (elapse t s).bank = s.bank := rfl
@[simp] theorem elapse_ret (t : Nat) (s : State) : (elapse t s).ret = s.ret := rfl
@[simp] theorem elapse_glb (t : Nat) (s : State) : (elapse t s).glb = s.glb := rfl
@[simp] theorem elapse_cyc (t : Nat) (s : State) : (elapse t s).cyc = s.cyc := rfl
@[simp] theorem elapse_vote (t : Nat) (s : State) : (elapse t s).vote = s.vote := rfl
@[simp] theorem elapse_vin (t : Nat) (s : State) : (elapse t s).vin = s.vin := rfl
@[simp] theorem elapse_comb (t : Nat) (s : State) : (elapse t s).comb = s.comb := rfl
@[simp] theorem elapse_evr (t : Nat) (s : State) : (elapse t s).evr = s.evr := rfl
@[simp] theorem elapse_rst (t : Nat) (s : State) : (elapse t s).rst = s.rst := rfl
@[simp] theorem elapse_opt (t : Nat) (s : State) : (elapse t s).opt = s.opt := rfl
@[simp] theorem elapse_hp (t : Nat) (s : State) : (elapse t s).hp = s.hp := rfl
@[simp] theorem elapse_dir (t : Nat) (s : State) : (elapse t s).dir = s.dir := rfl
@[simp] theorem elapse_set (t : Nat) (s : State) : (elapse t s).set = s.set := rfl
@[simp] theorem elapse_upd (t : Nat) (s : State) : (elapse t s).upd = s.upd := rfl
@[simp] theorem elapse_port (t : Nat) (s : State) : (elapse t s).port = s.port := rfl
@[simp] theorem elapse_chk (t : Nat) (s : State) : (elapse t s).chk = s.chk := rfl
@[simp] theorem elapse_store (t : Nat) (s : State) : (elapse t s).store = s.store := rfl
@[simp] theorem elapse_free (t : Nat) (s : State) : (elapse t s).free = s.free := rfl
@[simp] theorem elapse_eth (t : Nat) (s : State) : (elapse t s).eth = s.eth := rfl
@[simp] theorem elapse_test (t : Nat) (s : State) : (elapse t s).test = s.test := rfl
@[simp] theorem elapse_wk (t : Nat) (s : State) : (elapse t s).wk = s.wk := rfl
@[simp] theorem elapse_tk (t : Nat) (s : State) : (elapse t s).tk = s.tk := rfl
@[simp] theorem elapse_pwr (t : Nat) (s : State) : (elapse t s).pwr = s.pwr := rfl
@[simp] theorem elapse_pending (t : Nat) (s : State) : (elapse t s).pending = s.pending := rfl
@[simp] theorem elapse_fuse (t : Nat) (s : State) : (elapse t s).fuse = s.fuse := rfl
@[simp] theorem elapse_setAt (t : Nat) (s : State) : (elapse t s).setAt = s.setAt := rfl
@[simp] theorem elapse_clk (t : Nat) (s : State) : (elapse t s).clk = s.clk.at t := rfl

/-! ### putSource -/

@[simp] theorem putSource_ring (s : State) (n : Nat) (x : Source) : (putSource s n x).ring = s.ring := rfl
@[simp] theorem putSource_tb (s : State) (n : Nat) (x : Source) : (putSource s n x).tb = s.tb := rfl
@[simp] theorem putSource_tg (s : State) (n : Nat) (x : Source) : (putSource s n x).tg = s.tg := rfl
@[simp] theorem putSource_wp (s : State) (n : Nat) (x : Source) : (putSource s n x).wp = s.wp := rfl
@[simp] theorem putSource_door (s : State) (n : Nat) (x : Source) : (putSource s n x).door = s.door := rfl
@[simp] theorem putSource_crown (s : State) (n : Nat) (x : Source) : (putSource s n x).crown = s.crown := rfl
@[simp] theorem putSource_pl (s : State) (n : Nat) (x : Source) : (putSource s n x).pl = s.pl := rfl
@[simp] theorem putSource_px (s : State) (n : Nat) (x : Source) : (putSource s n x).px = s.px := rfl
@[simp] theorem putSource_keep (s : State) (n : Nat) (x : Source) : (putSource s n x).keep = s.keep := rfl
@[simp] theorem putSource_clk (s : State) (n : Nat) (x : Source) : (putSource s n x).clk = s.clk := rfl
@[simp] theorem putSource_lane (s : State) (n : Nat) (x : Source) : (putSource s n x).lane = s.lane := rfl
@[simp] theorem putSource_eng (s : State) (n : Nat) (x : Source) : (putSource s n x).eng = s.eng := rfl
@[simp] theorem putSource_st (s : State) (n : Nat) (x : Source) : (putSource s n x).st = s.st := rfl
@[simp] theorem putSource_bank (s : State) (n : Nat) (x : Source) : (putSource s n x).bank = s.bank := rfl
@[simp] theorem putSource_ret (s : State) (n : Nat) (x : Source) : (putSource s n x).ret = s.ret := rfl
@[simp] theorem putSource_glb (s : State) (n : Nat) (x : Source) : (putSource s n x).glb = s.glb := rfl
@[simp] theorem putSource_cyc (s : State) (n : Nat) (x : Source) : (putSource s n x).cyc = s.cyc := rfl
@[simp] theorem putSource_vote (s : State) (n : Nat) (x : Source) : (putSource s n x).vote = s.vote := rfl
@[simp] theorem putSource_vin (s : State) (n : Nat) (x : Source) : (putSource s n x).vin = s.vin := rfl
@[simp] theorem putSource_comb (s : State) (n : Nat) (x : Source) : (putSource s n x).comb = s.comb := rfl
@[simp] theorem putSource_rst (s : State) (n : Nat) (x : Source) : (putSource s n x).rst = s.rst := rfl
@[simp] theorem putSource_opt (s : State) (n : Nat) (x : Source) : (putSource s n x).opt = s.opt := rfl
@[simp] theorem putSource_hp (s : State) (n : Nat) (x : Source) : (putSource s n x).hp = s.hp := rfl
@[simp] theorem putSource_dir (s : State) (n : Nat) (x : Source) : (putSource s n x).dir = s.dir := rfl
@[simp] theorem putSource_set (s : State) (n : Nat) (x : Source) : (putSource s n x).set = s.set := rfl
@[simp] theorem putSource_upd (s : State) (n : Nat) (x : Source) : (putSource s n x).upd = s.upd := rfl
@[simp] theorem putSource_port (s : State) (n : Nat) (x : Source) : (putSource s n x).port = s.port := rfl
@[simp] theorem putSource_chk (s : State) (n : Nat) (x : Source) : (putSource s n x).chk = s.chk := rfl
@[simp] theorem putSource_store (s : State) (n : Nat) (x : Source) : (putSource s n x).store = s.store := rfl
@[simp] theorem putSource_free (s : State) (n : Nat) (x : Source) : (putSource s n x).free = s.free := rfl
@[simp] theorem putSource_eth (s : State) (n : Nat) (x : Source) : (putSource s n x).eth = s.eth := rfl
@[simp] theorem putSource_test (s : State) (n : Nat) (x : Source) : (putSource s n x).test = s.test := rfl
@[simp] theorem putSource_wk (s : State) (n : Nat) (x : Source) : (putSource s n x).wk = s.wk := rfl
@[simp] theorem putSource_tk (s : State) (n : Nat) (x : Source) : (putSource s n x).tk = s.tk := rfl
@[simp] theorem putSource_pwr (s : State) (n : Nat) (x : Source) : (putSource s n x).pwr = s.pwr := rfl
@[simp] theorem putSource_pending (s : State) (n : Nat) (x : Source) : (putSource s n x).pending = s.pending := rfl
@[simp] theorem putSource_fuse (s : State) (n : Nat) (x : Source) : (putSource s n x).fuse = s.fuse := rfl
@[simp] theorem putSource_setAt (s : State) (n : Nat) (x : Source) : (putSource s n x).setAt = s.setAt := rfl
@[simp] theorem putSource_evr (s : State) (n : Nat) (x : Source) : (putSource s n x).evr = { s.evr with src := kvPut s.evr.src n x } := rfl

/-! ### updLane -/

@[simp] theorem updLane_ring (l : Lane) (f : LaneRegs → LaneRegs) (s : State) : (updLane l f s).ring = s.ring := rfl
@[simp] theorem updLane_tb (l : Lane) (f : LaneRegs → LaneRegs) (s : State) : (updLane l f s).tb = s.tb := rfl
@[simp] theorem updLane_tg (l : Lane) (f : LaneRegs → LaneRegs) (s : State) : (updLane l f s).tg = s.tg := rfl
@[simp] theorem updLane_wp (l : Lane) (f : LaneRegs → LaneRegs) (s : State) : (updLane l f s).wp = s.wp := rfl
@[simp] theorem updLane_door (l : Lane) (f : LaneRegs → LaneRegs) (s : State) : (updLane l f s).door = s.door := rfl
@[simp] theorem updLane_crown (l : Lane) (f : LaneRegs → LaneRegs) (s : State) : (updLane l f s).crown = s.crown := rfl
@[simp] theorem updLane_pl (l : Lane) (f : LaneRegs → LaneRegs) (s : State) : (updLane l f s).pl = s.pl := rfl
@[simp] theorem updLane_px (l : Lane) (f : LaneRegs → LaneRegs) (s : State) : (updLane l f s).px = s.px := rfl
@[simp] theorem updLane_keep (l : Lane) (f : LaneRegs → LaneRegs) (s : State) : (updLane l f s).keep = s.keep := rfl
@[simp] theorem updLane_clk (l : Lane) (f : LaneRegs → LaneRegs) (s : State) : (updLane l f s).clk = s.clk := rfl
@[simp] theorem updLane_eng (l : Lane) (f : LaneRegs → LaneRegs) (s : State) : (updLane l f s).eng = s.eng := rfl
@[simp] theorem updLane_st (l : Lane) (f : LaneRegs → LaneRegs) (s : State) : (updLane l f s).st = s.st := rfl
@[simp] theorem updLane_bank (l : Lane) (f : LaneRegs → LaneRegs) (s : State) : (updLane l f s).bank = s.bank := rfl
@[simp] theorem updLane_ret (l : Lane) (f : LaneRegs → LaneRegs) (s : State) : (updLane l f s).ret = s.ret := rfl
@[simp] theorem updLane_glb (l : Lane) (f : LaneRegs → LaneRegs) (s : State) : (updLane l f s).glb = s.glb := rfl
@[simp] theorem updLane_cyc (l : Lane) (f : LaneRegs → LaneRegs) (s : State) : (updLane l f s).cyc = s.cyc := rfl
@[simp] theorem updLane_vote (l : Lane) (f : LaneRegs → LaneRegs) (s : State) : (updLane l f s).vote = s.vote := rfl
@[simp] theorem updLane_vin (l : Lane) (f : LaneRegs → LaneRegs) (s : State) : (updLane l f s).vin = s.vin := rfl
@[simp] theorem updLane_comb (l : Lane) (f : LaneRegs → LaneRegs) (s : State) : (updLane l f s).comb = s.comb := rfl
@[simp] theorem updLane_evr (l : Lane) (f : LaneRegs → LaneRegs) (s : State) : (updLane l f s).evr = s.evr := rfl
@[simp] theorem updLane_rst (l : Lane) (f : LaneRegs → LaneRegs) (s : State) : (updLane l f s).rst = s.rst := rfl
@[simp] theorem updLane_opt (l : Lane) (f : LaneRegs → LaneRegs) (s : State) : (updLane l f s).opt = s.opt := rfl
@[simp] theorem updLane_hp (l : Lane) (f : LaneRegs → LaneRegs) (s : State) : (updLane l f s).hp = s.hp := rfl
@[simp] theorem updLane_dir (l : Lane) (f : LaneRegs → LaneRegs) (s : State) : (updLane l f s).dir = s.dir := rfl
@[simp] theorem updLane_set (l : Lane) (f : LaneRegs → LaneRegs) (s : State) : (updLane l f s).set = s.set := rfl
@[simp] theorem updLane_upd (l : Lane) (f : LaneRegs → LaneRegs) (s : State) : (updLane l f s).upd = s.upd := rfl
@[simp] theorem updLane_port (l : Lane) (f : LaneRegs → LaneRegs) (s : State) : (updLane l f s).port = s.port := rfl
@[simp] theorem updLane_chk (l : Lane) (f : LaneRegs → LaneRegs) (s : State) : (updLane l f s).chk = s.chk := rfl
@[simp] theorem updLane_store (l : Lane) (f : LaneRegs → LaneRegs) (s : State) : (updLane l f s).store = s.store := rfl
@[simp] theorem updLane_free (l : Lane) (f : LaneRegs → LaneRegs) (s : State) : (updLane l f s).free = s.free := rfl
@[simp] theorem updLane_eth (l : Lane) (f : LaneRegs → LaneRegs) (s : State) : (updLane l f s).eth = s.eth := rfl
@[simp] theorem updLane_test (l : Lane) (f : LaneRegs → LaneRegs) (s : State) : (updLane l f s).test = s.test := rfl
@[simp] theorem updLane_wk (l : Lane) (f : LaneRegs → LaneRegs) (s : State) : (updLane l f s).wk = s.wk := rfl
@[simp] theorem updLane_tk (l : Lane) (f : LaneRegs → LaneRegs) (s : State) : (updLane l f s).tk = s.tk := rfl
@[simp] theorem updLane_pwr (l : Lane) (f : LaneRegs → LaneRegs) (s : State) : (updLane l f s).pwr = s.pwr := rfl
@[simp] theorem updLane_pending (l : Lane) (f : LaneRegs → LaneRegs) (s : State) : (updLane l f s).pending = s.pending := rfl
@[simp] theorem updLane_fuse (l : Lane) (f : LaneRegs → LaneRegs) (s : State) : (updLane l f s).fuse = s.fuse := rfl
@[simp] theorem updLane_setAt (l : Lane) (f : LaneRegs → LaneRegs) (s : State) : (updLane l f s).setAt = s.setAt := rfl
@[simp] theorem updLane_lane (l : Lane) (f : LaneRegs → LaneRegs) (s : State) : (updLane l f s).lane = s.lane.upd l f := rfl

/-! ### updRing -/

@[simp] theorem updRing_tb (r : Ring) (f : RingPort → RingPort) (s : State) : (updRing r f s).tb = s.tb := rfl
@[simp] theorem updRing_tg (r : Ring) (f : RingPort → RingPort) (s : State) : (updRing r f s).tg = s.tg := rfl
@[simp] theorem updRing_wp (r : Ring) (f : RingPort → RingPort) (s : State) : (updRing r f s).wp = s.wp := rfl
@[simp] theorem updRing_door (r : Ring) (f : RingPort → RingPort) (s : State) : (updRing r f s).door = s.door := rfl
@[simp] theorem updRing_crown (r : Ring) (f : RingPort → RingPort) (s : State) : (updRing r f s).crown = s.crown := rfl
@[simp] theorem updRing_pl (r : Ring) (f : RingPort → RingPort) (s : State) : (updRing r f s).pl = s.pl := rfl
@[simp] theorem updRing_px (r : Ring) (f : RingPort → RingPort) (s : State) : (updRing r f s).px = s.px := rfl
@[simp] theorem updRing_keep (r : Ring) (f : RingPort → RingPort) (s : State) : (updRing r f s).keep = s.keep := rfl
@[simp] theorem updRing_clk (r : Ring) (f : RingPort → RingPort) (s : State) : (updRing r f s).clk = s.clk := rfl
@[simp] theorem updRing_lane (r : Ring) (f : RingPort → RingPort) (s : State) : (updRing r f s).lane = s.lane := rfl
@[simp] theorem updRing_eng (r : Ring) (f : RingPort → RingPort) (s : State) : (updRing r f s).eng = s.eng := rfl
@[simp] theorem updRing_st (r : Ring) (f : RingPort → RingPort) (s : State) : (updRing r f s).st = s.st := rfl
@[simp] theorem updRing_bank (r : Ring) (f : RingPort → RingPort) (s : State) : (updRing r f s).bank = s.bank := rfl
@[simp] theorem updRing_ret (r : Ring) (f : RingPort → RingPort) (s : State) : (updRing r f s).ret = s.ret := rfl
@[simp] theorem updRing_glb (r : Ring) (f : RingPort → RingPort) (s : State) : (updRing r f s).glb = s.glb := rfl
@[simp] theorem updRing_cyc (r : Ring) (f : RingPort → RingPort) (s : State) : (updRing r f s).cyc = s.cyc := rfl
@[simp] theorem updRing_vote (r : Ring) (f : RingPort → RingPort) (s : State) : (updRing r f s).vote = s.vote := rfl
@[simp] theorem updRing_vin (r : Ring) (f : RingPort → RingPort) (s : State) : (updRing r f s).vin = s.vin := rfl
@[simp] theorem updRing_comb (r : Ring) (f : RingPort → RingPort) (s : State) : (updRing r f s).comb = s.comb := rfl
@[simp] theorem updRing_evr (r : Ring) (f : RingPort → RingPort) (s : State) : (updRing r f s).evr = s.evr := rfl
@[simp] theorem updRing_rst (r : Ring) (f : RingPort → RingPort) (s : State) : (updRing r f s).rst = s.rst := rfl
@[simp] theorem updRing_opt (r : Ring) (f : RingPort → RingPort) (s : State) : (updRing r f s).opt = s.opt := rfl
@[simp] theorem updRing_hp (r : Ring) (f : RingPort → RingPort) (s : State) : (updRing r f s).hp = s.hp := rfl
@[simp] theorem updRing_dir (r : Ring) (f : RingPort → RingPort) (s : State) : (updRing r f s).dir = s.dir := rfl
@[simp] theorem updRing_set (r : Ring) (f : RingPort → RingPort) (s : State) : (updRing r f s).set = s.set := rfl
@[simp] theorem updRing_upd (r : Ring) (f : RingPort → RingPort) (s : State) : (updRing r f s).upd = s.upd := rfl
@[simp] theorem updRing_port (r : Ring) (f : RingPort → RingPort) (s : State) : (updRing r f s).port = s.port := rfl
@[simp] theorem updRing_chk (r : Ring) (f : RingPort → RingPort) (s : State) : (updRing r f s).chk = s.chk := rfl
@[simp] theorem updRing_store (r : Ring) (f : RingPort → RingPort) (s : State) : (updRing r f s).store = s.store := rfl
@[simp] theorem updRing_free (r : Ring) (f : RingPort → RingPort) (s : State) : (updRing r f s).free = s.free := rfl
@[simp] theorem updRing_eth (r : Ring) (f : RingPort → RingPort) (s : State) : (updRing r f s).eth = s.eth := rfl
@[simp] theorem updRing_test (r : Ring) (f : RingPort → RingPort) (s : State) : (updRing r f s).test = s.test := rfl
@[simp] theorem updRing_wk (r : Ring) (f : RingPort → RingPort) (s : State) : (updRing r f s).wk = s.wk := rfl
@[simp] theorem updRing_tk (r : Ring) (f : RingPort → RingPort) (s : State) : (updRing r f s).tk = s.tk := rfl
@[simp] theorem updRing_pwr (r : Ring) (f : RingPort → RingPort) (s : State) : (updRing r f s).pwr = s.pwr := rfl
@[simp] theorem updRing_pending (r : Ring) (f : RingPort → RingPort) (s : State) : (updRing r f s).pending = s.pending := rfl
@[simp] theorem updRing_fuse (r : Ring) (f : RingPort → RingPort) (s : State) : (updRing r f s).fuse = s.fuse := rfl
@[simp] theorem updRing_setAt (r : Ring) (f : RingPort → RingPort) (s : State) : (updRing r f s).setAt = s.setAt := rfl
@[simp] theorem updRing_ring (r : Ring) (f : RingPort → RingPort) (s : State) : (updRing r f s).ring = s.ring.upd r f := rfl

/-! ### updPort -/

@[simp] theorem updPort_ring (l : Lane) (f : ChkLane → ChkLane) (s : State) : (updPort l f s).ring = s.ring := rfl
@[simp] theorem updPort_tb (l : Lane) (f : ChkLane → ChkLane) (s : State) : (updPort l f s).tb = s.tb := rfl
@[simp] theorem updPort_tg (l : Lane) (f : ChkLane → ChkLane) (s : State) : (updPort l f s).tg = s.tg := rfl
@[simp] theorem updPort_wp (l : Lane) (f : ChkLane → ChkLane) (s : State) : (updPort l f s).wp = s.wp := rfl
@[simp] theorem updPort_door (l : Lane) (f : ChkLane → ChkLane) (s : State) : (updPort l f s).door = s.door := rfl
@[simp] theorem updPort_crown (l : Lane) (f : ChkLane → ChkLane) (s : State) : (updPort l f s).crown = s.crown := rfl
@[simp] theorem updPort_pl (l : Lane) (f : ChkLane → ChkLane) (s : State) : (updPort l f s).pl = s.pl := rfl
@[simp] theorem updPort_px (l : Lane) (f : ChkLane → ChkLane) (s : State) : (updPort l f s).px = s.px := rfl
@[simp] theorem updPort_keep (l : Lane) (f : ChkLane → ChkLane) (s : State) : (updPort l f s).keep = s.keep := rfl
@[simp] theorem updPort_clk (l : Lane) (f : ChkLane → ChkLane) (s : State) : (updPort l f s).clk = s.clk := rfl
@[simp] theorem updPort_lane (l : Lane) (f : ChkLane → ChkLane) (s : State) : (updPort l f s).lane = s.lane := rfl
@[simp] theorem updPort_eng (l : Lane) (f : ChkLane → ChkLane) (s : State) : (updPort l f s).eng = s.eng := rfl
@[simp] theorem updPort_st (l : Lane) (f : ChkLane → ChkLane) (s : State) : (updPort l f s).st = s.st := rfl
@[simp] theorem updPort_bank (l : Lane) (f : ChkLane → ChkLane) (s : State) : (updPort l f s).bank = s.bank := rfl
@[simp] theorem updPort_ret (l : Lane) (f : ChkLane → ChkLane) (s : State) : (updPort l f s).ret = s.ret := rfl
@[simp] theorem updPort_glb (l : Lane) (f : ChkLane → ChkLane) (s : State) : (updPort l f s).glb = s.glb := rfl
@[simp] theorem updPort_cyc (l : Lane) (f : ChkLane → ChkLane) (s : State) : (updPort l f s).cyc = s.cyc := rfl
@[simp] theorem updPort_vote (l : Lane) (f : ChkLane → ChkLane) (s : State) : (updPort l f s).vote = s.vote := rfl
@[simp] theorem updPort_vin (l : Lane) (f : ChkLane → ChkLane) (s : State) : (updPort l f s).vin = s.vin := rfl
@[simp] theorem updPort_comb (l : Lane) (f : ChkLane → ChkLane) (s : State) : (updPort l f s).comb = s.comb := rfl
@[simp] theorem updPort_evr (l : Lane) (f : ChkLane → ChkLane) (s : State) : (updPort l f s).evr = s.evr := rfl
@[simp] theorem updPort_rst (l : Lane) (f : ChkLane → ChkLane) (s : State) : (updPort l f s).rst = s.rst := rfl
@[simp] theorem updPort_opt (l : Lane) (f : ChkLane → ChkLane) (s : State) : (updPort l f s).opt = s.opt := rfl
@[simp] theorem updPort_hp (l : Lane) (f : ChkLane → ChkLane) (s : State) : (updPort l f s).hp = s.hp := rfl
@[simp] theorem updPort_dir (l : Lane) (f : ChkLane → ChkLane) (s : State) : (updPort l f s).dir = s.dir := rfl
@[simp] theorem updPort_set (l : Lane) (f : ChkLane → ChkLane) (s : State) : (updPort l f s).set = s.set := rfl
@[simp] theorem updPort_upd (l : Lane) (f : ChkLane → ChkLane) (s : State) : (updPort l f s).upd = s.upd := rfl
@[simp] theorem updPort_chk (l : Lane) (f : ChkLane → ChkLane) (s : State) : (updPort l f s).chk = s.chk := rfl
@[simp] theorem updPort_store (l : Lane) (f : ChkLane → ChkLane) (s : State) : (updPort l f s).store = s.store := rfl
@[simp] theorem updPort_free (l : Lane) (f : ChkLane → ChkLane) (s : State) : (updPort l f s).free = s.free := rfl
@[simp] theorem updPort_eth (l : Lane) (f : ChkLane → ChkLane) (s : State) : (updPort l f s).eth = s.eth := rfl
@[simp] theorem updPort_test (l : Lane) (f : ChkLane → ChkLane) (s : State) : (updPort l f s).test = s.test := rfl
@[simp] theorem updPort_wk (l : Lane) (f : ChkLane → ChkLane) (s : State) : (updPort l f s).wk = s.wk := rfl
@[simp] theorem updPort_tk (l : Lane) (f : ChkLane → ChkLane) (s : State) : (updPort l f s).tk = s.tk := rfl
@[simp] theorem updPort_pwr (l : Lane) (f : ChkLane → ChkLane) (s : State) : (updPort l f s).pwr = s.pwr := rfl
@[simp] theorem updPort_pending (l : Lane) (f : ChkLane → ChkLane) (s : State) : (updPort l f s).pending = s.pending := rfl
@[simp] theorem updPort_fuse (l : Lane) (f : ChkLane → ChkLane) (s : State) : (updPort l f s).fuse = s.fuse := rfl
@[simp] theorem updPort_setAt (l : Lane) (f : ChkLane → ChkLane) (s : State) : (updPort l f s).setAt = s.setAt := rfl
@[simp] theorem updPort_port (l : Lane) (f : ChkLane → ChkLane) (s : State) : (updPort l f s).port = s.port.upd l f := rfl

/-! ### silentPort -/

@[simp] theorem silentPort_ring (s : State) : (silentPort s).ring = s.ring := rfl
@[simp] theorem silentPort_tb (s : State) : (silentPort s).tb = s.tb := rfl
@[simp] theorem silentPort_tg (s : State) : (silentPort s).tg = s.tg := rfl
@[simp] theorem silentPort_wp (s : State) : (silentPort s).wp = s.wp := rfl
@[simp] theorem silentPort_door (s : State) : (silentPort s).door = s.door := rfl
@[simp] theorem silentPort_crown (s : State) : (silentPort s).crown = s.crown := rfl
@[simp] theorem silentPort_pl (s : State) : (silentPort s).pl = s.pl := rfl
@[simp] theorem silentPort_px (s : State) : (silentPort s).px = s.px := rfl
@[simp] theorem silentPort_keep (s : State) : (silentPort s).keep = s.keep := rfl
@[simp] theorem silentPort_clk (s : State) : (silentPort s).clk = s.clk := rfl
@[simp] theorem silentPort_lane (s : State) : (silentPort s).lane = s.lane := rfl
@[simp] theorem silentPort_eng (s : State) : (silentPort s).eng = s.eng := rfl
@[simp] theorem silentPort_st (s : State) : (silentPort s).st = s.st := rfl
@[simp] theorem silentPort_bank (s : State) : (silentPort s).bank = s.bank := rfl
@[simp] theorem silentPort_ret (s : State) : (silentPort s).ret = s.ret := rfl
@[simp] theorem silentPort_glb (s : State) : (silentPort s).glb = s.glb := rfl
@[simp] theorem silentPort_cyc (s : State) : (silentPort s).cyc = s.cyc := rfl
@[simp] theorem silentPort_vote (s : State) : (silentPort s).vote = s.vote := rfl
@[simp] theorem silentPort_vin (s : State) : (silentPort s).vin = s.vin := rfl
@[simp] theorem silentPort_comb (s : State) : (silentPort s).comb = s.comb := rfl
@[simp] theorem silentPort_evr (s : State) : (silentPort s).evr = s.evr := rfl
@[simp] theorem silentPort_rst (s : State) : (silentPort s).rst = s.rst := rfl
@[simp] theorem silentPort_opt (s : State) : (silentPort s).opt = s.opt := rfl
@[simp] theorem silentPort_dir (s : State) : (silentPort s).dir = s.dir := rfl
@[simp] theorem silentPort_set (s : State) : (silentPort s).set = s.set := rfl
@[simp] theorem silentPort_upd (s : State) : (silentPort s).upd = s.upd := rfl
@[simp] theorem silentPort_port (s : State) : (silentPort s).port = s.port := rfl
@[simp] theorem silentPort_chk (s : State) : (silentPort s).chk = s.chk := rfl
@[simp] theorem silentPort_store (s : State) : (silentPort s).store = s.store := rfl
@[simp] theorem silentPort_free (s : State) : (silentPort s).free = s.free := rfl
@[simp] theorem silentPort_eth (s : State) : (silentPort s).eth = s.eth := rfl
@[simp] theorem silentPort_test (s : State) : (silentPort s).test = s.test := rfl
@[simp] theorem silentPort_wk (s : State) : (silentPort s).wk = s.wk := rfl
@[simp] theorem silentPort_tk (s : State) : (silentPort s).tk = s.tk := rfl
@[simp] theorem silentPort_pwr (s : State) : (silentPort s).pwr = s.pwr := rfl
@[simp] theorem silentPort_pending (s : State) : (silentPort s).pending = s.pending := rfl
@[simp] theorem silentPort_fuse (s : State) : (silentPort s).fuse = s.fuse := rfl
@[simp] theorem silentPort_setAt (s : State) : (silentPort s).setAt = s.setAt := rfl

/-! ### toStage -/

@[simp] theorem toStage_ring (x : Stage) (s : State) : (toStage x s).ring = s.ring := rfl
@[simp] theorem toStage_tb (x : Stage) (s : State) : (toStage x s).tb = s.tb := rfl
@[simp] theorem toStage_tg (x : Stage) (s : State) : (toStage x s).tg = s.tg := rfl
@[simp] theorem toStage_wp (x : Stage) (s : State) : (toStage x s).wp = s.wp := rfl
@[simp] theorem toStage_door (x : Stage) (s : State) : (toStage x s).door = s.door := rfl
@[simp] theorem toStage_crown (x : Stage) (s : State) : (toStage x s).crown = s.crown := rfl
@[simp] theorem toStage_pl (x : Stage) (s : State) : (toStage x s).pl = s.pl := rfl
@[simp] theorem toStage_px (x : Stage) (s : State) : (toStage x s).px = s.px := rfl
@[simp] theorem toStage_keep (x : Stage) (s : State) : (toStage x s).keep = s.keep := rfl
@[simp] theorem toStage_clk (x : Stage) (s : State) : (toStage x s).clk = s.clk := rfl
@[simp] theorem toStage_lane (x : Stage) (s : State) : (toStage x s).lane = s.lane := rfl
@[simp] theorem toStage_eng (x : Stage) (s : State) : (toStage x s).eng = s.eng := rfl
@[simp] theorem toStage_st (x : Stage) (s : State) : (toStage x s).st = s.st := rfl
@[simp] theorem toStage_bank (x : Stage) (s : State) : (toStage x s).bank = s.bank := rfl
@[simp] theorem toStage_ret (x : Stage) (s : State) : (toStage x s).ret = s.ret := rfl
@[simp] theorem toStage_glb (x : Stage) (s : State) : (toStage x s).glb = s.glb := rfl
@[simp] theorem toStage_cyc (x : Stage) (s : State) : (toStage x s).cyc = s.cyc := rfl
@[simp] theorem toStage_vote (x : Stage) (s : State) : (toStage x s).vote = s.vote := rfl
@[simp] theorem toStage_vin (x : Stage) (s : State) : (toStage x s).vin = s.vin := rfl
@[simp] theorem toStage_comb (x : Stage) (s : State) : (toStage x s).comb = s.comb := rfl
@[simp] theorem toStage_evr (x : Stage) (s : State) : (toStage x s).evr = s.evr := rfl
@[simp] theorem toStage_opt (x : Stage) (s : State) : (toStage x s).opt = s.opt := rfl
@[simp] theorem toStage_hp (x : Stage) (s : State) : (toStage x s).hp = s.hp := rfl
@[simp] theorem toStage_dir (x : Stage) (s : State) : (toStage x s).dir = s.dir := rfl
@[simp] theorem toStage_set (x : Stage) (s : State) : (toStage x s).set = s.set := rfl
@[simp] theorem toStage_upd (x : Stage) (s : State) : (toStage x s).upd = s.upd := rfl
@[simp] theorem toStage_port (x : Stage) (s : State) : (toStage x s).port = s.port := rfl
@[simp] theorem toStage_chk (x : Stage) (s : State) : (toStage x s).chk = s.chk := rfl
@[simp] theorem toStage_store (x : Stage) (s : State) : (toStage x s).store = s.store := rfl
@[simp] theorem toStage_free (x : Stage) (s : State) : (toStage x s).free = s.free := rfl
@[simp] theorem toStage_eth (x : Stage) (s : State) : (toStage x s).eth = s.eth := rfl
@[simp] theorem toStage_test (x : Stage) (s : State) : (toStage x s).test = s.test := rfl
@[simp] theorem toStage_wk (x : Stage) (s : State) : (toStage x s).wk = s.wk := rfl
@[simp] theorem toStage_tk (x : Stage) (s : State) : (toStage x s).tk = s.tk := rfl
@[simp] theorem toStage_pwr (x : Stage) (s : State) : (toStage x s).pwr = s.pwr := rfl
@[simp] theorem toStage_pending (x : Stage) (s : State) : (toStage x s).pending = s.pending := rfl
@[simp] theorem toStage_fuse (x : Stage) (s : State) : (toStage x s).fuse = s.fuse := rfl
@[simp] theorem toStage_setAt (x : Stage) (s : State) : (toStage x s).setAt = s.setAt := rfl

/-! ### reply -/

@[simp] theorem reply_ring (h : HostId) (opcode : Byte) (addr status : Nat) (data : List Byte) (s : State) : (reply h opcode addr status data s).ring = s.ring := rfl
@[simp] theorem reply_tb (h : HostId) (opcode : Byte) (addr status : Nat) (data : List Byte) (s : State) : (reply h opcode addr status data s).tb = s.tb := rfl
@[simp] theorem reply_tg (h : HostId) (opcode : Byte) (addr status : Nat) (data : List Byte) (s : State) : (reply h opcode addr status data s).tg = s.tg := rfl
@[simp] theorem reply_wp (h : HostId) (opcode : Byte) (addr status : Nat) (data : List Byte) (s : State) : (reply h opcode addr status data s).wp = s.wp := rfl
@[simp] theorem reply_door (h : HostId) (opcode : Byte) (addr status : Nat) (data : List Byte) (s : State) : (reply h opcode addr status data s).door = s.door := rfl
@[simp] theorem reply_crown (h : HostId) (opcode : Byte) (addr status : Nat) (data : List Byte) (s : State) : (reply h opcode addr status data s).crown = s.crown := rfl
@[simp] theorem reply_pl (h : HostId) (opcode : Byte) (addr status : Nat) (data : List Byte) (s : State) : (reply h opcode addr status data s).pl = s.pl := rfl
@[simp] theorem reply_px (h : HostId) (opcode : Byte) (addr status : Nat) (data : List Byte) (s : State) : (reply h opcode addr status data s).px = s.px := rfl
@[simp] theorem reply_keep (h : HostId) (opcode : Byte) (addr status : Nat) (data : List Byte) (s : State) : (reply h opcode addr status data s).keep = s.keep := rfl
@[simp] theorem reply_clk (h : HostId) (opcode : Byte) (addr status : Nat) (data : List Byte) (s : State) : (reply h opcode addr status data s).clk = s.clk := rfl
@[simp] theorem reply_lane (h : HostId) (opcode : Byte) (addr status : Nat) (data : List Byte) (s : State) : (reply h opcode addr status data s).lane = s.lane := rfl
@[simp] theorem reply_eng (h : HostId) (opcode : Byte) (addr status : Nat) (data : List Byte) (s : State) : (reply h opcode addr status data s).eng = s.eng := rfl
@[simp] theorem reply_st (h : HostId) (opcode : Byte) (addr status : Nat) (data : List Byte) (s : State) : (reply h opcode addr status data s).st = s.st := rfl
@[simp] theorem reply_bank (h : HostId) (opcode : Byte) (addr status : Nat) (data : List Byte) (s : State) : (reply h opcode addr status data s).bank = s.bank := rfl
@[simp] theorem reply_ret (h : HostId) (opcode : Byte) (addr status : Nat) (data : List Byte) (s : State) : (reply h opcode addr status data s).ret = s.ret := rfl
@[simp] theorem reply_glb (h : HostId) (opcode : Byte) (addr status : Nat) (data : List Byte) (s : State) : (reply h opcode addr status data s).glb = s.glb := rfl
@[simp] theorem reply_cyc (h : HostId) (opcode : Byte) (addr status : Nat) (data : List Byte) (s : State) : (reply h opcode addr status data s).cyc = s.cyc := rfl
@[simp] theorem reply_vote (h : HostId) (opcode : Byte) (addr status : Nat) (data : List Byte) (s : State) : (reply h opcode addr status data s).vote = s.vote := rfl
@[simp] theorem reply_vin (h : HostId) (opcode : Byte) (addr status : Nat) (data : List Byte) (s : State) : (reply h opcode addr status data s).vin = s.vin := rfl
@[simp] theorem reply_comb (h : HostId) (opcode : Byte) (addr status : Nat) (data : List Byte) (s : State) : (reply h opcode addr status data s).comb = s.comb := rfl
@[simp] theorem reply_evr (h : HostId) (opcode : Byte) (addr status : Nat) (data : List Byte) (s : State) : (reply h opcode addr status data s).evr = s.evr := rfl
@[simp] theorem reply_rst (h : HostId) (opcode : Byte) (addr status : Nat) (data : List Byte) (s : State) : (reply h opcode addr status data s).rst = s.rst := rfl
@[simp] theorem reply_opt (h : HostId) (opcode : Byte) (addr status : Nat) (data : List Byte) (s : State) : (reply h opcode addr status data s).opt = s.opt := rfl
@[simp] theorem reply_dir (h : HostId) (opcode : Byte) (addr status : Nat) (data : List Byte) (s : State) : (reply h opcode addr status data s).dir = s.dir := rfl
@[simp] theorem reply_set (h : HostId) (opcode : Byte) (addr status : Nat) (data : List Byte) (s : State) : (reply h opcode addr status data s).set = s.set := rfl
@[simp] theorem reply_upd (h : HostId) (opcode : Byte) (addr status : Nat) (data : List Byte) (s : State) : (reply h opcode addr status data s).upd = s.upd := rfl
@[simp] theorem reply_port (h : HostId) (opcode : Byte) (addr status : Nat) (data : List Byte) (s : State) : (reply h opcode addr status data s).port = s.port := rfl
@[simp] theorem reply_chk (h : HostId) (opcode : Byte) (addr status : Nat) (data : List Byte) (s : State) : (reply h opcode addr status data s).chk = s.chk := rfl
@[simp] theorem reply_store (h : HostId) (opcode : Byte) (addr status : Nat) (data : List Byte) (s : State) : (reply h opcode addr status data s).store = s.store := rfl
@[simp] theorem reply_free (h : HostId) (opcode : Byte) (addr status : Nat) (data : List Byte) (s : State) : (reply h opcode addr status data s).free = s.free := rfl
@[simp] theorem reply_eth (h : HostId) (opcode : Byte) (addr status : Nat) (data : List Byte) (s : State) : (reply h opcode addr status data s).eth = s.eth := rfl
@[simp] theorem reply_test (h : HostId) (opcode : Byte) (addr status : Nat) (data : List Byte) (s : State) : (reply h opcode addr status data s).test = s.test := rfl
@[simp] theorem reply_wk (h : HostId) (opcode : Byte) (addr status : Nat) (data : List Byte) (s : State) : (reply h opcode addr status data s).wk = s.wk := rfl
@[simp] theorem reply_tk (h : HostId) (opcode : Byte) (addr status : Nat) (data : List Byte) (s : State) : (reply h opcode addr status data s).tk = s.tk := rfl
@[simp] theorem reply_pwr (h : HostId) (opcode : Byte) (addr status : Nat) (data : List Byte) (s : State) : (reply h opcode addr status data s).pwr = s.pwr := rfl
@[simp] theorem reply_pending (h : HostId) (opcode : Byte) (addr status : Nat) (data : List Byte) (s : State) : (reply h opcode addr status data s).pending = s.pending := rfl
@[simp] theorem reply_fuse (h : HostId) (opcode : Byte) (addr status : Nat) (data : List Byte) (s : State) : (reply h opcode addr status data s).fuse = s.fuse := rfl
@[simp] theorem reply_setAt (h : HostId) (opcode : Byte) (addr status : Nat) (data : List Byte) (s : State) : (reply h opcode addr status data s).setAt = s.setAt := rfl

end Sys2Proof.Machine
end

