-- ==== Sys2Proof/Laws/Ops.lean ====
section
/-! SUPPORT. One lemma for each shared operation: the parts of the state it leaves as they are, all but those it is there to
change. -/
namespace Sys2Proof.Machine

/-- `markSet` changes nothing but setAt. -/
@[simp] theorem markSet_frame (key : Nat) (s : State) :
    (markSet key s).ring = s.ring ∧ (markSet key s).tb = s.tb ∧ (markSet key s).tg = s.tg ∧ (markSet key s).wp = s.wp
    ∧ (markSet key s).door = s.door ∧ (markSet key s).crown = s.crown ∧ (markSet key s).pl = s.pl ∧ (markSet key s).px
    = s.px ∧ (markSet key s).keep = s.keep ∧ (markSet key s).clk = s.clk ∧ (markSet key s).lane = s.lane ∧ (markSet
    key s).eng = s.eng ∧ (markSet key s).st = s.st ∧ (markSet key s).bank = s.bank ∧ (markSet key s).ret = s.ret ∧
    (markSet key s).glb = s.glb ∧ (markSet key s).cyc = s.cyc ∧ (markSet key s).vote = s.vote ∧ (markSet key s).vin =
    s.vin ∧ (markSet key s).comb = s.comb ∧ (markSet key s).evr = s.evr ∧ (markSet key s).rst = s.rst ∧ (markSet key
    s).opt = s.opt ∧ (markSet key s).hp = s.hp ∧ (markSet key s).dir = s.dir ∧ (markSet key s).set = s.set ∧ (markSet
    key s).upd = s.upd ∧ (markSet key s).port = s.port ∧ (markSet key s).chk = s.chk ∧ (markSet key s).store = s.store
    ∧ (markSet key s).free = s.free ∧ (markSet key s).eth = s.eth ∧ (markSet key s).test = s.test ∧ (markSet key s).wk
    = s.wk ∧ (markSet key s).tk = s.tk ∧ (markSet key s).pwr = s.pwr ∧ (markSet key s).pending = s.pending ∧ (markSet
    key s).fuse = s.fuse := by
  generalize h : markSet key s = t
  unfold markSet at h
  (try dsimp only at h)
  (repeat' split at h) <;> subst h <;> simp

/-- `markIf` changes nothing but setAt. -/
@[simp] theorem markIf_frame (b : Bool) (key : Nat) (s : State) :
    (markIf b key s).ring = s.ring ∧ (markIf b key s).tb = s.tb ∧ (markIf b key s).tg = s.tg ∧ (markIf b key s).wp =
    s.wp ∧ (markIf b key s).door = s.door ∧ (markIf b key s).crown = s.crown ∧ (markIf b key s).pl = s.pl ∧ (markIf b
    key s).px = s.px ∧ (markIf b key s).keep = s.keep ∧ (markIf b key s).clk = s.clk ∧ (markIf b key s).lane = s.lane
    ∧ (markIf b key s).eng = s.eng ∧ (markIf b key s).st = s.st ∧ (markIf b key s).bank = s.bank ∧ (markIf b key
    s).ret = s.ret ∧ (markIf b key s).glb = s.glb ∧ (markIf b key s).cyc = s.cyc ∧ (markIf b key s).vote = s.vote ∧
    (markIf b key s).vin = s.vin ∧ (markIf b key s).comb = s.comb ∧ (markIf b key s).evr = s.evr ∧ (markIf b key
    s).rst = s.rst ∧ (markIf b key s).opt = s.opt ∧ (markIf b key s).hp = s.hp ∧ (markIf b key s).dir = s.dir ∧
    (markIf b key s).set = s.set ∧ (markIf b key s).upd = s.upd ∧ (markIf b key s).port = s.port ∧ (markIf b key
    s).chk = s.chk ∧ (markIf b key s).store = s.store ∧ (markIf b key s).free = s.free ∧ (markIf b key s).eth = s.eth
    ∧ (markIf b key s).test = s.test ∧ (markIf b key s).wk = s.wk ∧ (markIf b key s).tk = s.tk ∧ (markIf b key s).pwr
    = s.pwr ∧ (markIf b key s).pending = s.pending ∧ (markIf b key s).fuse = s.fuse := by
  generalize h : markIf b key s = t
  unfold markIf at h
  (try dsimp only at h)
  (repeat' split at h) <;> subst h <;> simp

/-- `fire` changes nothing but evr. -/
@[simp] theorem fire_frame (n : Nat) (s : State) :
    (fire n s).ring = s.ring ∧ (fire n s).tb = s.tb ∧ (fire n s).tg = s.tg ∧ (fire n s).wp = s.wp ∧ (fire n s).door =
    s.door ∧ (fire n s).crown = s.crown ∧ (fire n s).pl = s.pl ∧ (fire n s).px = s.px ∧ (fire n s).keep = s.keep ∧
    (fire n s).clk = s.clk ∧ (fire n s).lane = s.lane ∧ (fire n s).eng = s.eng ∧ (fire n s).st = s.st ∧ (fire n
    s).bank = s.bank ∧ (fire n s).ret = s.ret ∧ (fire n s).glb = s.glb ∧ (fire n s).cyc = s.cyc ∧ (fire n s).vote =
    s.vote ∧ (fire n s).vin = s.vin ∧ (fire n s).comb = s.comb ∧ (fire n s).rst = s.rst ∧ (fire n s).opt = s.opt ∧
    (fire n s).hp = s.hp ∧ (fire n s).dir = s.dir ∧ (fire n s).set = s.set ∧ (fire n s).upd = s.upd ∧ (fire n s).port
    = s.port ∧ (fire n s).chk = s.chk ∧ (fire n s).store = s.store ∧ (fire n s).free = s.free ∧ (fire n s).eth = s.eth
    ∧ (fire n s).test = s.test ∧ (fire n s).wk = s.wk ∧ (fire n s).tk = s.tk ∧ (fire n s).pwr = s.pwr ∧ (fire n
    s).pending = s.pending ∧ (fire n s).fuse = s.fuse ∧ (fire n s).setAt = s.setAt := by
  generalize h : fire n s = t
  unfold fire at h
  (try dsimp only at h)
  (repeat' split at h) <;> subst h <;> simp

/-- `fireIf` changes nothing but evr. -/
@[simp] theorem fireIf_frame (b : Bool) (n : Nat) (s : State) :
    (fireIf b n s).ring = s.ring ∧ (fireIf b n s).tb = s.tb ∧ (fireIf b n s).tg = s.tg ∧ (fireIf b n s).wp = s.wp ∧
    (fireIf b n s).door = s.door ∧ (fireIf b n s).crown = s.crown ∧ (fireIf b n s).pl = s.pl ∧ (fireIf b n s).px =
    s.px ∧ (fireIf b n s).keep = s.keep ∧ (fireIf b n s).clk = s.clk ∧ (fireIf b n s).lane = s.lane ∧ (fireIf b n
    s).eng = s.eng ∧ (fireIf b n s).st = s.st ∧ (fireIf b n s).bank = s.bank ∧ (fireIf b n s).ret = s.ret ∧ (fireIf b
    n s).glb = s.glb ∧ (fireIf b n s).cyc = s.cyc ∧ (fireIf b n s).vote = s.vote ∧ (fireIf b n s).vin = s.vin ∧
    (fireIf b n s).comb = s.comb ∧ (fireIf b n s).rst = s.rst ∧ (fireIf b n s).opt = s.opt ∧ (fireIf b n s).hp = s.hp
    ∧ (fireIf b n s).dir = s.dir ∧ (fireIf b n s).set = s.set ∧ (fireIf b n s).upd = s.upd ∧ (fireIf b n s).port =
    s.port ∧ (fireIf b n s).chk = s.chk ∧ (fireIf b n s).store = s.store ∧ (fireIf b n s).free = s.free ∧ (fireIf b n
    s).eth = s.eth ∧ (fireIf b n s).test = s.test ∧ (fireIf b n s).wk = s.wk ∧ (fireIf b n s).tk = s.tk ∧ (fireIf b n
    s).pwr = s.pwr ∧ (fireIf b n s).pending = s.pending ∧ (fireIf b n s).fuse = s.fuse ∧ (fireIf b n s).setAt =
    s.setAt := by
  generalize h : fireIf b n s = t
  unfold fireIf at h
  (try dsimp only at h)
  (repeat' split at h) <;> subst h <;> simp

/-- `enqueue` changes nothing but comb. -/
@[simp] theorem enqueue_frame (s : State) (i source : Nat) (p : Payload) :
    (enqueue s i source p).ring = s.ring ∧ (enqueue s i source p).tb = s.tb ∧ (enqueue s i source p).tg = s.tg ∧
    (enqueue s i source p).wp = s.wp ∧ (enqueue s i source p).door = s.door ∧ (enqueue s i source p).crown = s.crown ∧
    (enqueue s i source p).pl = s.pl ∧ (enqueue s i source p).px = s.px ∧ (enqueue s i source p).keep = s.keep ∧
    (enqueue s i source p).clk = s.clk ∧ (enqueue s i source p).lane = s.lane ∧ (enqueue s i source p).eng = s.eng ∧
    (enqueue s i source p).st = s.st ∧ (enqueue s i source p).bank = s.bank ∧ (enqueue s i source p).ret = s.ret ∧
    (enqueue s i source p).glb = s.glb ∧ (enqueue s i source p).cyc = s.cyc ∧ (enqueue s i source p).vote = s.vote ∧
    (enqueue s i source p).vin = s.vin ∧ (enqueue s i source p).evr = s.evr ∧ (enqueue s i source p).rst = s.rst ∧
    (enqueue s i source p).opt = s.opt ∧ (enqueue s i source p).hp = s.hp ∧ (enqueue s i source p).dir = s.dir ∧
    (enqueue s i source p).set = s.set ∧ (enqueue s i source p).upd = s.upd ∧ (enqueue s i source p).port = s.port ∧
    (enqueue s i source p).chk = s.chk ∧ (enqueue s i source p).store = s.store ∧ (enqueue s i source p).free = s.free
    ∧ (enqueue s i source p).eth = s.eth ∧ (enqueue s i source p).test = s.test ∧ (enqueue s i source p).wk = s.wk ∧
    (enqueue s i source p).tk = s.tk ∧ (enqueue s i source p).pwr = s.pwr ∧ (enqueue s i source p).pending = s.pending
    ∧ (enqueue s i source p).fuse = s.fuse ∧ (enqueue s i source p).setAt = s.setAt := by
  generalize h : enqueue s i source p = t
  unfold enqueue at h
  (try dsimp only at h)
  (repeat' split at h) <;> subst h <;> simp

/-- `record` changes nothing but comb. -/
@[simp] theorem record_frame (i : Nat) (n : Note) (vals : List Nat) (s : State) :
    (record i n vals s).ring = s.ring ∧ (record i n vals s).tb = s.tb ∧ (record i n vals s).tg = s.tg ∧ (record i n
    vals s).wp = s.wp ∧ (record i n vals s).door = s.door ∧ (record i n vals s).crown = s.crown ∧ (record i n vals
    s).pl = s.pl ∧ (record i n vals s).px = s.px ∧ (record i n vals s).keep = s.keep ∧ (record i n vals s).clk = s.clk
    ∧ (record i n vals s).lane = s.lane ∧ (record i n vals s).eng = s.eng ∧ (record i n vals s).st = s.st ∧ (record i
    n vals s).bank = s.bank ∧ (record i n vals s).ret = s.ret ∧ (record i n vals s).glb = s.glb ∧ (record i n vals
    s).cyc = s.cyc ∧ (record i n vals s).vote = s.vote ∧ (record i n vals s).vin = s.vin ∧ (record i n vals s).evr =
    s.evr ∧ (record i n vals s).rst = s.rst ∧ (record i n vals s).opt = s.opt ∧ (record i n vals s).hp = s.hp ∧
    (record i n vals s).dir = s.dir ∧ (record i n vals s).set = s.set ∧ (record i n vals s).upd = s.upd ∧ (record i n
    vals s).port = s.port ∧ (record i n vals s).chk = s.chk ∧ (record i n vals s).store = s.store ∧ (record i n vals
    s).free = s.free ∧ (record i n vals s).eth = s.eth ∧ (record i n vals s).test = s.test ∧ (record i n vals s).wk =
    s.wk ∧ (record i n vals s).tk = s.tk ∧ (record i n vals s).pwr = s.pwr ∧ (record i n vals s).pending = s.pending ∧
    (record i n vals s).fuse = s.fuse ∧ (record i n vals s).setAt = s.setAt := by
  generalize h : record i n vals s = t
  unfold record at h
  (try dsimp only at h)
  (repeat' split at h) <;> subst h <;> simp

/-- `recordOwn` changes nothing but comb. -/
@[simp] theorem recordOwn_frame (i typ : Nat) (b : List Byte) (s : State) :
    (recordOwn i typ b s).ring = s.ring ∧ (recordOwn i typ b s).tb = s.tb ∧ (recordOwn i typ b s).tg = s.tg ∧
    (recordOwn i typ b s).wp = s.wp ∧ (recordOwn i typ b s).door = s.door ∧ (recordOwn i typ b s).crown = s.crown ∧
    (recordOwn i typ b s).pl = s.pl ∧ (recordOwn i typ b s).px = s.px ∧ (recordOwn i typ b s).keep = s.keep ∧
    (recordOwn i typ b s).clk = s.clk ∧ (recordOwn i typ b s).lane = s.lane ∧ (recordOwn i typ b s).eng = s.eng ∧
    (recordOwn i typ b s).st = s.st ∧ (recordOwn i typ b s).bank = s.bank ∧ (recordOwn i typ b s).ret = s.ret ∧
    (recordOwn i typ b s).glb = s.glb ∧ (recordOwn i typ b s).cyc = s.cyc ∧ (recordOwn i typ b s).vote = s.vote ∧
    (recordOwn i typ b s).vin = s.vin ∧ (recordOwn i typ b s).evr = s.evr ∧ (recordOwn i typ b s).rst = s.rst ∧
    (recordOwn i typ b s).opt = s.opt ∧ (recordOwn i typ b s).hp = s.hp ∧ (recordOwn i typ b s).dir = s.dir ∧
    (recordOwn i typ b s).set = s.set ∧ (recordOwn i typ b s).upd = s.upd ∧ (recordOwn i typ b s).port = s.port ∧
    (recordOwn i typ b s).chk = s.chk ∧ (recordOwn i typ b s).store = s.store ∧ (recordOwn i typ b s).free = s.free ∧
    (recordOwn i typ b s).eth = s.eth ∧ (recordOwn i typ b s).test = s.test ∧ (recordOwn i typ b s).wk = s.wk ∧
    (recordOwn i typ b s).tk = s.tk ∧ (recordOwn i typ b s).pwr = s.pwr ∧ (recordOwn i typ b s).pending = s.pending ∧
    (recordOwn i typ b s).fuse = s.fuse ∧ (recordOwn i typ b s).setAt = s.setAt := by
  generalize h : recordOwn i typ b s = t
  unfold recordOwn at h
  (try dsimp only at h)
  (repeat' split at h) <;> subst h <;> simp

/-- `recordIf` changes nothing but comb. -/
@[simp] theorem recordIf_frame (b : Bool) (i : Nat) (n : Note) (vals : List Nat) (s : State) :
    (recordIf b i n vals s).ring = s.ring ∧ (recordIf b i n vals s).tb = s.tb ∧ (recordIf b i n vals s).tg = s.tg ∧
    (recordIf b i n vals s).wp = s.wp ∧ (recordIf b i n vals s).door = s.door ∧ (recordIf b i n vals s).crown =
    s.crown ∧ (recordIf b i n vals s).pl = s.pl ∧ (recordIf b i n vals s).px = s.px ∧ (recordIf b i n vals s).keep =
    s.keep ∧ (recordIf b i n vals s).clk = s.clk ∧ (recordIf b i n vals s).lane = s.lane ∧ (recordIf b i n vals s).eng
    = s.eng ∧ (recordIf b i n vals s).st = s.st ∧ (recordIf b i n vals s).bank = s.bank ∧ (recordIf b i n vals s).ret
    = s.ret ∧ (recordIf b i n vals s).glb = s.glb ∧ (recordIf b i n vals s).cyc = s.cyc ∧ (recordIf b i n vals s).vote
    = s.vote ∧ (recordIf b i n vals s).vin = s.vin ∧ (recordIf b i n vals s).evr = s.evr ∧ (recordIf b i n vals s).rst
    = s.rst ∧ (recordIf b i n vals s).opt = s.opt ∧ (recordIf b i n vals s).hp = s.hp ∧ (recordIf b i n vals s).dir =
    s.dir ∧ (recordIf b i n vals s).set = s.set ∧ (recordIf b i n vals s).upd = s.upd ∧ (recordIf b i n vals s).port =
    s.port ∧ (recordIf b i n vals s).chk = s.chk ∧ (recordIf b i n vals s).store = s.store ∧ (recordIf b i n vals
    s).free = s.free ∧ (recordIf b i n vals s).eth = s.eth ∧ (recordIf b i n vals s).test = s.test ∧ (recordIf b i n
    vals s).wk = s.wk ∧ (recordIf b i n vals s).tk = s.tk ∧ (recordIf b i n vals s).pwr = s.pwr ∧ (recordIf b i n vals
    s).pending = s.pending ∧ (recordIf b i n vals s).fuse = s.fuse ∧ (recordIf b i n vals s).setAt = s.setAt := by
  generalize h : recordIf b i n vals s = t
  unfold recordIf at h
  (try dsimp only at h)
  (repeat' split at h) <;> subst h <;> simp

/-- `setLState` changes nothing but lane, evr. -/
@[simp] theorem setLState_frame (l : Lane) (x : LState) (s : State) :
    (setLState l x s).ring = s.ring ∧ (setLState l x s).tb = s.tb ∧ (setLState l x s).tg = s.tg ∧ (setLState l x s).wp
    = s.wp ∧ (setLState l x s).door = s.door ∧ (setLState l x s).crown = s.crown ∧ (setLState l x s).pl = s.pl ∧
    (setLState l x s).px = s.px ∧ (setLState l x s).keep = s.keep ∧ (setLState l x s).clk = s.clk ∧ (setLState l x
    s).eng = s.eng ∧ (setLState l x s).st = s.st ∧ (setLState l x s).bank = s.bank ∧ (setLState l x s).ret = s.ret ∧
    (setLState l x s).glb = s.glb ∧ (setLState l x s).cyc = s.cyc ∧ (setLState l x s).vote = s.vote ∧ (setLState l x
    s).vin = s.vin ∧ (setLState l x s).comb = s.comb ∧ (setLState l x s).rst = s.rst ∧ (setLState l x s).opt = s.opt ∧
    (setLState l x s).hp = s.hp ∧ (setLState l x s).dir = s.dir ∧ (setLState l x s).set = s.set ∧ (setLState l x
    s).upd = s.upd ∧ (setLState l x s).port = s.port ∧ (setLState l x s).chk = s.chk ∧ (setLState l x s).store =
    s.store ∧ (setLState l x s).free = s.free ∧ (setLState l x s).eth = s.eth ∧ (setLState l x s).test = s.test ∧
    (setLState l x s).wk = s.wk ∧ (setLState l x s).tk = s.tk ∧ (setLState l x s).pwr = s.pwr ∧ (setLState l x
    s).pending = s.pending ∧ (setLState l x s).fuse = s.fuse ∧ (setLState l x s).setAt = s.setAt := by
  generalize h : setLState l x s = t
  unfold setLState at h
  (try dsimp only at h)
  (repeat' split at h) <;> subst h <;> simp

/-- `failRejoin` changes nothing but lane, vote, comb, evr. -/
@[simp] theorem failRejoin_frame (s : State) :
    (failRejoin s).ring = s.ring ∧ (failRejoin s).tb = s.tb ∧ (failRejoin s).tg = s.tg ∧ (failRejoin s).wp = s.wp ∧
    (failRejoin s).door = s.door ∧ (failRejoin s).crown = s.crown ∧ (failRejoin s).pl = s.pl ∧ (failRejoin s).px =
    s.px ∧ (failRejoin s).keep = s.keep ∧ (failRejoin s).clk = s.clk ∧ (failRejoin s).eng = s.eng ∧ (failRejoin s).st
    = s.st ∧ (failRejoin s).bank = s.bank ∧ (failRejoin s).ret = s.ret ∧ (failRejoin s).glb = s.glb ∧ (failRejoin
    s).cyc = s.cyc ∧ (failRejoin s).vin = s.vin ∧ (failRejoin s).rst = s.rst ∧ (failRejoin s).opt = s.opt ∧
    (failRejoin s).hp = s.hp ∧ (failRejoin s).dir = s.dir ∧ (failRejoin s).set = s.set ∧ (failRejoin s).upd = s.upd ∧
    (failRejoin s).port = s.port ∧ (failRejoin s).chk = s.chk ∧ (failRejoin s).store = s.store ∧ (failRejoin s).free =
    s.free ∧ (failRejoin s).eth = s.eth ∧ (failRejoin s).test = s.test ∧ (failRejoin s).wk = s.wk ∧ (failRejoin s).tk
    = s.tk ∧ (failRejoin s).pwr = s.pwr ∧ (failRejoin s).pending = s.pending ∧ (failRejoin s).fuse = s.fuse ∧
    (failRejoin s).setAt = s.setAt := by
  generalize h : failRejoin s = t
  unfold failRejoin at h
  (try dsimp only at h)
  (repeat' split at h) <;> subst h <;> simp

/-- `excludeLane` changes nothing but lane, comb, evr. -/
@[simp] theorem excludeLane_frame (l : Lane) (s : State) :
    (excludeLane l s).ring = s.ring ∧ (excludeLane l s).tb = s.tb ∧ (excludeLane l s).tg = s.tg ∧ (excludeLane l s).wp
    = s.wp ∧ (excludeLane l s).door = s.door ∧ (excludeLane l s).crown = s.crown ∧ (excludeLane l s).pl = s.pl ∧
    (excludeLane l s).px = s.px ∧ (excludeLane l s).keep = s.keep ∧ (excludeLane l s).clk = s.clk ∧ (excludeLane l
    s).eng = s.eng ∧ (excludeLane l s).st = s.st ∧ (excludeLane l s).bank = s.bank ∧ (excludeLane l s).ret = s.ret ∧
    (excludeLane l s).glb = s.glb ∧ (excludeLane l s).cyc = s.cyc ∧ (excludeLane l s).vote = s.vote ∧ (excludeLane l
    s).vin = s.vin ∧ (excludeLane l s).rst = s.rst ∧ (excludeLane l s).opt = s.opt ∧ (excludeLane l s).hp = s.hp ∧
    (excludeLane l s).dir = s.dir ∧ (excludeLane l s).set = s.set ∧ (excludeLane l s).upd = s.upd ∧ (excludeLane l
    s).port = s.port ∧ (excludeLane l s).chk = s.chk ∧ (excludeLane l s).store = s.store ∧ (excludeLane l s).free =
    s.free ∧ (excludeLane l s).eth = s.eth ∧ (excludeLane l s).test = s.test ∧ (excludeLane l s).wk = s.wk ∧
    (excludeLane l s).tk = s.tk ∧ (excludeLane l s).pwr = s.pwr ∧ (excludeLane l s).pending = s.pending ∧ (excludeLane
    l s).fuse = s.fuse ∧ (excludeLane l s).setAt = s.setAt := by
  generalize h : excludeLane l s = t
  unfold excludeLane at h
  (try dsimp only at h)
  (repeat' split at h) <;> subst h <;> simp

/-- `laneFault` changes nothing but lane, vote, comb, evr, setAt. -/
@[simp] theorem laneFault_frame (l : Lane) (k : Nat) (s : State) :
    (laneFault l k s).ring = s.ring ∧ (laneFault l k s).tb = s.tb ∧ (laneFault l k s).tg = s.tg ∧ (laneFault l k s).wp
    = s.wp ∧ (laneFault l k s).door = s.door ∧ (laneFault l k s).crown = s.crown ∧ (laneFault l k s).pl = s.pl ∧
    (laneFault l k s).px = s.px ∧ (laneFault l k s).keep = s.keep ∧ (laneFault l k s).clk = s.clk ∧ (laneFault l k
    s).eng = s.eng ∧ (laneFault l k s).st = s.st ∧ (laneFault l k s).bank = s.bank ∧ (laneFault l k s).ret = s.ret ∧
    (laneFault l k s).glb = s.glb ∧ (laneFault l k s).cyc = s.cyc ∧ (laneFault l k s).vin = s.vin ∧ (laneFault l k
    s).rst = s.rst ∧ (laneFault l k s).opt = s.opt ∧ (laneFault l k s).hp = s.hp ∧ (laneFault l k s).dir = s.dir ∧
    (laneFault l k s).set = s.set ∧ (laneFault l k s).upd = s.upd ∧ (laneFault l k s).port = s.port ∧ (laneFault l k
    s).chk = s.chk ∧ (laneFault l k s).store = s.store ∧ (laneFault l k s).free = s.free ∧ (laneFault l k s).eth =
    s.eth ∧ (laneFault l k s).test = s.test ∧ (laneFault l k s).wk = s.wk ∧ (laneFault l k s).tk = s.tk ∧ (laneFault l
    k s).pwr = s.pwr ∧ (laneFault l k s).pending = s.pending ∧ (laneFault l k s).fuse = s.fuse := by
  generalize h : laneFault l k s = t
  unfold laneFault at h
  (try dsimp only at h)
  (repeat' split at h) <;> subst h <;> simp

/-- `trap` changes nothing but lane, eng, vote, comb, evr, setAt. -/
@[simp] theorem trap_frame (l : Lane) (cause : Nat) (sweep : Bool) (s : State) :
    (trap l cause sweep s).ring = s.ring ∧ (trap l cause sweep s).tb = s.tb ∧ (trap l cause sweep s).tg = s.tg ∧ (trap
    l cause sweep s).wp = s.wp ∧ (trap l cause sweep s).door = s.door ∧ (trap l cause sweep s).crown = s.crown ∧ (trap
    l cause sweep s).pl = s.pl ∧ (trap l cause sweep s).px = s.px ∧ (trap l cause sweep s).keep = s.keep ∧ (trap l
    cause sweep s).clk = s.clk ∧ (trap l cause sweep s).st = s.st ∧ (trap l cause sweep s).bank = s.bank ∧ (trap l
    cause sweep s).ret = s.ret ∧ (trap l cause sweep s).glb = s.glb ∧ (trap l cause sweep s).cyc = s.cyc ∧ (trap l
    cause sweep s).vin = s.vin ∧ (trap l cause sweep s).rst = s.rst ∧ (trap l cause sweep s).opt = s.opt ∧ (trap l
    cause sweep s).hp = s.hp ∧ (trap l cause sweep s).dir = s.dir ∧ (trap l cause sweep s).set = s.set ∧ (trap l cause
    sweep s).upd = s.upd ∧ (trap l cause sweep s).port = s.port ∧ (trap l cause sweep s).chk = s.chk ∧ (trap l cause
    sweep s).store = s.store ∧ (trap l cause sweep s).free = s.free ∧ (trap l cause sweep s).eth = s.eth ∧ (trap l
    cause sweep s).test = s.test ∧ (trap l cause sweep s).wk = s.wk ∧ (trap l cause sweep s).tk = s.tk ∧ (trap l cause
    sweep s).pwr = s.pwr ∧ (trap l cause sweep s).pending = s.pending ∧ (trap l cause sweep s).fuse = s.fuse := by
  generalize h : trap l cause sweep s = t
  unfold trap at h
  (try dsimp only at h)
  (repeat' split at h) <;> subst h <;> simp

/-- `hpError` changes nothing but evr, hp. -/
@[simp] theorem hpError_frame (f : Hp → Hp) (s : State) :
    (hpError f s).ring = s.ring ∧ (hpError f s).tb = s.tb ∧ (hpError f s).tg = s.tg ∧ (hpError f s).wp = s.wp ∧
    (hpError f s).door = s.door ∧ (hpError f s).crown = s.crown ∧ (hpError f s).pl = s.pl ∧ (hpError f s).px = s.px ∧
    (hpError f s).keep = s.keep ∧ (hpError f s).clk = s.clk ∧ (hpError f s).lane = s.lane ∧ (hpError f s).eng = s.eng
    ∧ (hpError f s).st = s.st ∧ (hpError f s).bank = s.bank ∧ (hpError f s).ret = s.ret ∧ (hpError f s).glb = s.glb ∧
    (hpError f s).cyc = s.cyc ∧ (hpError f s).vote = s.vote ∧ (hpError f s).vin = s.vin ∧ (hpError f s).comb = s.comb
    ∧ (hpError f s).rst = s.rst ∧ (hpError f s).opt = s.opt ∧ (hpError f s).dir = s.dir ∧ (hpError f s).set = s.set ∧
    (hpError f s).upd = s.upd ∧ (hpError f s).port = s.port ∧ (hpError f s).chk = s.chk ∧ (hpError f s).store =
    s.store ∧ (hpError f s).free = s.free ∧ (hpError f s).eth = s.eth ∧ (hpError f s).test = s.test ∧ (hpError f s).wk
    = s.wk ∧ (hpError f s).tk = s.tk ∧ (hpError f s).pwr = s.pwr ∧ (hpError f s).pending = s.pending ∧ (hpError f
    s).fuse = s.fuse ∧ (hpError f s).setAt = s.setAt := by
  generalize h : hpError f s = t
  unfold hpError at h
  (try dsimp only at h)
  (repeat' split at h) <;> subst h <;> simp

/-- `spendOnce` changes nothing but test. -/
@[simp] theorem spendOnce_frame (point : Nat) (s : State) :
    (spendOnce point s).ring = s.ring ∧ (spendOnce point s).tb = s.tb ∧ (spendOnce point s).tg = s.tg ∧ (spendOnce
    point s).wp = s.wp ∧ (spendOnce point s).door = s.door ∧ (spendOnce point s).crown = s.crown ∧ (spendOnce point
    s).pl = s.pl ∧ (spendOnce point s).px = s.px ∧ (spendOnce point s).keep = s.keep ∧ (spendOnce point s).clk = s.clk
    ∧ (spendOnce point s).lane = s.lane ∧ (spendOnce point s).eng = s.eng ∧ (spendOnce point s).st = s.st ∧ (spendOnce
    point s).bank = s.bank ∧ (spendOnce point s).ret = s.ret ∧ (spendOnce point s).glb = s.glb ∧ (spendOnce point
    s).cyc = s.cyc ∧ (spendOnce point s).vote = s.vote ∧ (spendOnce point s).vin = s.vin ∧ (spendOnce point s).comb =
    s.comb ∧ (spendOnce point s).evr = s.evr ∧ (spendOnce point s).rst = s.rst ∧ (spendOnce point s).opt = s.opt ∧
    (spendOnce point s).hp = s.hp ∧ (spendOnce point s).dir = s.dir ∧ (spendOnce point s).set = s.set ∧ (spendOnce
    point s).upd = s.upd ∧ (spendOnce point s).port = s.port ∧ (spendOnce point s).chk = s.chk ∧ (spendOnce point
    s).store = s.store ∧ (spendOnce point s).free = s.free ∧ (spendOnce point s).eth = s.eth ∧ (spendOnce point s).wk
    = s.wk ∧ (spendOnce point s).tk = s.tk ∧ (spendOnce point s).pwr = s.pwr ∧ (spendOnce point s).pending = s.pending
    ∧ (spendOnce point s).fuse = s.fuse ∧ (spendOnce point s).setAt = s.setAt := by
  generalize h : spendOnce point s = t
  unfold spendOnce at h
  (try dsimp only at h)
  (repeat' split at h) <;> subst h <;> simp

/-- `storeWrite` changes nothing but store. -/
@[simp] theorem storeWrite_frame (a : Nat) (b : List Byte) (s : State) :
    (storeWrite a b s).ring = s.ring ∧ (storeWrite a b s).tb = s.tb ∧ (storeWrite a b s).tg = s.tg ∧ (storeWrite a b
    s).wp = s.wp ∧ (storeWrite a b s).door = s.door ∧ (storeWrite a b s).crown = s.crown ∧ (storeWrite a b s).pl =
    s.pl ∧ (storeWrite a b s).px = s.px ∧ (storeWrite a b s).keep = s.keep ∧ (storeWrite a b s).clk = s.clk ∧
    (storeWrite a b s).lane = s.lane ∧ (storeWrite a b s).eng = s.eng ∧ (storeWrite a b s).st = s.st ∧ (storeWrite a b
    s).bank = s.bank ∧ (storeWrite a b s).ret = s.ret ∧ (storeWrite a b s).glb = s.glb ∧ (storeWrite a b s).cyc =
    s.cyc ∧ (storeWrite a b s).vote = s.vote ∧ (storeWrite a b s).vin = s.vin ∧ (storeWrite a b s).comb = s.comb ∧
    (storeWrite a b s).evr = s.evr ∧ (storeWrite a b s).rst = s.rst ∧ (storeWrite a b s).opt = s.opt ∧ (storeWrite a b
    s).hp = s.hp ∧ (storeWrite a b s).dir = s.dir ∧ (storeWrite a b s).set = s.set ∧ (storeWrite a b s).upd = s.upd ∧
    (storeWrite a b s).port = s.port ∧ (storeWrite a b s).chk = s.chk ∧ (storeWrite a b s).free = s.free ∧ (storeWrite
    a b s).eth = s.eth ∧ (storeWrite a b s).test = s.test ∧ (storeWrite a b s).wk = s.wk ∧ (storeWrite a b s).tk =
    s.tk ∧ (storeWrite a b s).pwr = s.pwr ∧ (storeWrite a b s).pending = s.pending ∧ (storeWrite a b s).fuse = s.fuse
    ∧ (storeWrite a b s).setAt = s.setAt := by
  generalize h : storeWrite a b s = t
  unfold storeWrite at h
  (try dsimp only at h)
  (repeat' split at h) <;> subst h <;> simp

/-- `announceLevel` changes nothing but comb, evr. -/
@[simp] theorem announceLevel_frame (c : Nat) (s : State) :
    (announceLevel c s).ring = s.ring ∧ (announceLevel c s).tb = s.tb ∧ (announceLevel c s).tg = s.tg ∧ (announceLevel
    c s).wp = s.wp ∧ (announceLevel c s).door = s.door ∧ (announceLevel c s).crown = s.crown ∧ (announceLevel c s).pl
    = s.pl ∧ (announceLevel c s).px = s.px ∧ (announceLevel c s).keep = s.keep ∧ (announceLevel c s).clk = s.clk ∧
    (announceLevel c s).lane = s.lane ∧ (announceLevel c s).eng = s.eng ∧ (announceLevel c s).st = s.st ∧
    (announceLevel c s).bank = s.bank ∧ (announceLevel c s).ret = s.ret ∧ (announceLevel c s).glb = s.glb ∧
    (announceLevel c s).cyc = s.cyc ∧ (announceLevel c s).vote = s.vote ∧ (announceLevel c s).vin = s.vin ∧
    (announceLevel c s).rst = s.rst ∧ (announceLevel c s).opt = s.opt ∧ (announceLevel c s).hp = s.hp ∧ (announceLevel
    c s).dir = s.dir ∧ (announceLevel c s).set = s.set ∧ (announceLevel c s).upd = s.upd ∧ (announceLevel c s).port =
    s.port ∧ (announceLevel c s).chk = s.chk ∧ (announceLevel c s).store = s.store ∧ (announceLevel c s).free = s.free
    ∧ (announceLevel c s).eth = s.eth ∧ (announceLevel c s).test = s.test ∧ (announceLevel c s).wk = s.wk ∧
    (announceLevel c s).tk = s.tk ∧ (announceLevel c s).pwr = s.pwr ∧ (announceLevel c s).pending = s.pending ∧
    (announceLevel c s).fuse = s.fuse ∧ (announceLevel c s).setAt = s.setAt := by
  generalize h : announceLevel c s = t
  unfold announceLevel at h
  (try dsimp only at h)
  (repeat' split at h) <;> subst h <;> simp

/-- `makeFull` changes nothing but comb. -/
@[simp] theorem makeFull_frame (c : Nat) (s : State) :
    (makeFull c s).ring = s.ring ∧ (makeFull c s).tb = s.tb ∧ (makeFull c s).tg = s.tg ∧ (makeFull c s).wp = s.wp ∧
    (makeFull c s).door = s.door ∧ (makeFull c s).crown = s.crown ∧ (makeFull c s).pl = s.pl ∧ (makeFull c s).px =
    s.px ∧ (makeFull c s).keep = s.keep ∧ (makeFull c s).clk = s.clk ∧ (makeFull c s).lane = s.lane ∧ (makeFull c
    s).eng = s.eng ∧ (makeFull c s).st = s.st ∧ (makeFull c s).bank = s.bank ∧ (makeFull c s).ret = s.ret ∧ (makeFull
    c s).glb = s.glb ∧ (makeFull c s).cyc = s.cyc ∧ (makeFull c s).vote = s.vote ∧ (makeFull c s).vin = s.vin ∧
    (makeFull c s).evr = s.evr ∧ (makeFull c s).rst = s.rst ∧ (makeFull c s).opt = s.opt ∧ (makeFull c s).hp = s.hp ∧
    (makeFull c s).dir = s.dir ∧ (makeFull c s).set = s.set ∧ (makeFull c s).upd = s.upd ∧ (makeFull c s).port =
    s.port ∧ (makeFull c s).chk = s.chk ∧ (makeFull c s).store = s.store ∧ (makeFull c s).free = s.free ∧ (makeFull c
    s).eth = s.eth ∧ (makeFull c s).test = s.test ∧ (makeFull c s).wk = s.wk ∧ (makeFull c s).tk = s.tk ∧ (makeFull c
    s).pwr = s.pwr ∧ (makeFull c s).pending = s.pending ∧ (makeFull c s).fuse = s.fuse ∧ (makeFull c s).setAt =
    s.setAt := by
  generalize h : makeFull c s = t
  unfold makeFull at h
  (try dsimp only at h)
  (repeat' split at h) <;> subst h <;> simp

/-- `failComb` changes nothing but comb, evr. -/
@[simp] theorem failComb_frame (reason c idx : Nat) (s : State) :
    (failComb reason c idx s).ring = s.ring ∧ (failComb reason c idx s).tb = s.tb ∧ (failComb reason c idx s).tg =
    s.tg ∧ (failComb reason c idx s).wp = s.wp ∧ (failComb reason c idx s).door = s.door ∧ (failComb reason c idx
    s).crown = s.crown ∧ (failComb reason c idx s).pl = s.pl ∧ (failComb reason c idx s).px = s.px ∧ (failComb reason
    c idx s).keep = s.keep ∧ (failComb reason c idx s).clk = s.clk ∧ (failComb reason c idx s).lane = s.lane ∧
    (failComb reason c idx s).eng = s.eng ∧ (failComb reason c idx s).st = s.st ∧ (failComb reason c idx s).bank =
    s.bank ∧ (failComb reason c idx s).ret = s.ret ∧ (failComb reason c idx s).glb = s.glb ∧ (failComb reason c idx
    s).cyc = s.cyc ∧ (failComb reason c idx s).vote = s.vote ∧ (failComb reason c idx s).vin = s.vin ∧ (failComb
    reason c idx s).rst = s.rst ∧ (failComb reason c idx s).opt = s.opt ∧ (failComb reason c idx s).hp = s.hp ∧
    (failComb reason c idx s).dir = s.dir ∧ (failComb reason c idx s).set = s.set ∧ (failComb reason c idx s).upd =
    s.upd ∧ (failComb reason c idx s).port = s.port ∧ (failComb reason c idx s).chk = s.chk ∧ (failComb reason c idx
    s).store = s.store ∧ (failComb reason c idx s).free = s.free ∧ (failComb reason c idx s).eth = s.eth ∧ (failComb
    reason c idx s).test = s.test ∧ (failComb reason c idx s).wk = s.wk ∧ (failComb reason c idx s).tk = s.tk ∧
    (failComb reason c idx s).pwr = s.pwr ∧ (failComb reason c idx s).pending = s.pending ∧ (failComb reason c idx
    s).fuse = s.fuse ∧ (failComb reason c idx s).setAt = s.setAt := by
  generalize h : failComb reason c idx s = t
  unfold failComb at h
  (try dsimp only at h)
  (repeat' split at h) <;> subst h <;> simp

/-- `raiseMargin` changes nothing but keep, comb, evr. -/
@[simp] theorem raiseMargin_frame (item value : Nat) (f : Plan → Plan) (s : State) :
    (raiseMargin item value f s).ring = s.ring ∧ (raiseMargin item value f s).tb = s.tb ∧ (raiseMargin item value f
    s).tg = s.tg ∧ (raiseMargin item value f s).wp = s.wp ∧ (raiseMargin item value f s).door = s.door ∧ (raiseMargin
    item value f s).crown = s.crown ∧ (raiseMargin item value f s).pl = s.pl ∧ (raiseMargin item value f s).px = s.px
    ∧ (raiseMargin item value f s).clk = s.clk ∧ (raiseMargin item value f s).lane = s.lane ∧ (raiseMargin item value
    f s).eng = s.eng ∧ (raiseMargin item value f s).st = s.st ∧ (raiseMargin item value f s).bank = s.bank ∧
    (raiseMargin item value f s).ret = s.ret ∧ (raiseMargin item value f s).glb = s.glb ∧ (raiseMargin item value f
    s).cyc = s.cyc ∧ (raiseMargin item value f s).vote = s.vote ∧ (raiseMargin item value f s).vin = s.vin ∧
    (raiseMargin item value f s).rst = s.rst ∧ (raiseMargin item value f s).opt = s.opt ∧ (raiseMargin item value f
    s).hp = s.hp ∧ (raiseMargin item value f s).dir = s.dir ∧ (raiseMargin item value f s).set = s.set ∧ (raiseMargin
    item value f s).upd = s.upd ∧ (raiseMargin item value f s).port = s.port ∧ (raiseMargin item value f s).chk =
    s.chk ∧ (raiseMargin item value f s).store = s.store ∧ (raiseMargin item value f s).free = s.free ∧ (raiseMargin
    item value f s).eth = s.eth ∧ (raiseMargin item value f s).test = s.test ∧ (raiseMargin item value f s).wk = s.wk
    ∧ (raiseMargin item value f s).tk = s.tk ∧ (raiseMargin item value f s).pwr = s.pwr ∧ (raiseMargin item value f
    s).pending = s.pending ∧ (raiseMargin item value f s).fuse = s.fuse ∧ (raiseMargin item value f s).setAt = s.setAt := by
  generalize h : raiseMargin item value f s = t
  unfold raiseMargin at h
  (try dsimp only at h)
  (repeat' split at h) <;> subst h <;> simp

/-- `beginCell` changes nothing but comb. -/
@[simp] theorem beginCell_frame (s : State) :
    (beginCell s).ring = s.ring ∧ (beginCell s).tb = s.tb ∧ (beginCell s).tg = s.tg ∧ (beginCell s).wp = s.wp ∧
    (beginCell s).door = s.door ∧ (beginCell s).crown = s.crown ∧ (beginCell s).pl = s.pl ∧ (beginCell s).px = s.px ∧
    (beginCell s).keep = s.keep ∧ (beginCell s).clk = s.clk ∧ (beginCell s).lane = s.lane ∧ (beginCell s).eng = s.eng
    ∧ (beginCell s).st = s.st ∧ (beginCell s).bank = s.bank ∧ (beginCell s).ret = s.ret ∧ (beginCell s).glb = s.glb ∧
    (beginCell s).cyc = s.cyc ∧ (beginCell s).vote = s.vote ∧ (beginCell s).vin = s.vin ∧ (beginCell s).evr = s.evr ∧
    (beginCell s).rst = s.rst ∧ (beginCell s).opt = s.opt ∧ (beginCell s).hp = s.hp ∧ (beginCell s).dir = s.dir ∧
    (beginCell s).set = s.set ∧ (beginCell s).upd = s.upd ∧ (beginCell s).port = s.port ∧ (beginCell s).chk = s.chk ∧
    (beginCell s).store = s.store ∧ (beginCell s).free = s.free ∧ (beginCell s).eth = s.eth ∧ (beginCell s).test =
    s.test ∧ (beginCell s).wk = s.wk ∧ (beginCell s).tk = s.tk ∧ (beginCell s).pwr = s.pwr ∧ (beginCell s).pending =
    s.pending ∧ (beginCell s).fuse = s.fuse ∧ (beginCell s).setAt = s.setAt := by
  generalize h : beginCell s = t
  unfold beginCell at h
  (try dsimp only at h)
  (repeat' split at h) <;> subst h <;> simp

/-- `endFreeze` changes nothing but comb. -/
@[simp] theorem endFreeze_frame (s : State) :
    (endFreeze s).ring = s.ring ∧ (endFreeze s).tb = s.tb ∧ (endFreeze s).tg = s.tg ∧ (endFreeze s).wp = s.wp ∧
    (endFreeze s).door = s.door ∧ (endFreeze s).crown = s.crown ∧ (endFreeze s).pl = s.pl ∧ (endFreeze s).px = s.px ∧
    (endFreeze s).keep = s.keep ∧ (endFreeze s).clk = s.clk ∧ (endFreeze s).lane = s.lane ∧ (endFreeze s).eng = s.eng
    ∧ (endFreeze s).st = s.st ∧ (endFreeze s).bank = s.bank ∧ (endFreeze s).ret = s.ret ∧ (endFreeze s).glb = s.glb ∧
    (endFreeze s).cyc = s.cyc ∧ (endFreeze s).vote = s.vote ∧ (endFreeze s).vin = s.vin ∧ (endFreeze s).evr = s.evr ∧
    (endFreeze s).rst = s.rst ∧ (endFreeze s).opt = s.opt ∧ (endFreeze s).hp = s.hp ∧ (endFreeze s).dir = s.dir ∧
    (endFreeze s).set = s.set ∧ (endFreeze s).upd = s.upd ∧ (endFreeze s).port = s.port ∧ (endFreeze s).chk = s.chk ∧
    (endFreeze s).store = s.store ∧ (endFreeze s).free = s.free ∧ (endFreeze s).eth = s.eth ∧ (endFreeze s).test =
    s.test ∧ (endFreeze s).wk = s.wk ∧ (endFreeze s).tk = s.tk ∧ (endFreeze s).pwr = s.pwr ∧ (endFreeze s).pending =
    s.pending ∧ (endFreeze s).fuse = s.fuse ∧ (endFreeze s).setAt = s.setAt := by
  generalize h : endFreeze s = t
  unfold endFreeze at h
  (try dsimp only at h)
  (repeat' split at h) <;> subst h <;> simp

/-- `updSource` changes nothing but evr. -/
@[simp] theorem updSource_frame (n : Nat) (f : Source → Source) (s : State) :
    (updSource n f s).ring = s.ring ∧ (updSource n f s).tb = s.tb ∧ (updSource n f s).tg = s.tg ∧ (updSource n f s).wp
    = s.wp ∧ (updSource n f s).door = s.door ∧ (updSource n f s).crown = s.crown ∧ (updSource n f s).pl = s.pl ∧
    (updSource n f s).px = s.px ∧ (updSource n f s).keep = s.keep ∧ (updSource n f s).clk = s.clk ∧ (updSource n f
    s).lane = s.lane ∧ (updSource n f s).eng = s.eng ∧ (updSource n f s).st = s.st ∧ (updSource n f s).bank = s.bank ∧
    (updSource n f s).ret = s.ret ∧ (updSource n f s).glb = s.glb ∧ (updSource n f s).cyc = s.cyc ∧ (updSource n f
    s).vote = s.vote ∧ (updSource n f s).vin = s.vin ∧ (updSource n f s).comb = s.comb ∧ (updSource n f s).rst = s.rst
    ∧ (updSource n f s).opt = s.opt ∧ (updSource n f s).hp = s.hp ∧ (updSource n f s).dir = s.dir ∧ (updSource n f
    s).set = s.set ∧ (updSource n f s).upd = s.upd ∧ (updSource n f s).port = s.port ∧ (updSource n f s).chk = s.chk ∧
    (updSource n f s).store = s.store ∧ (updSource n f s).free = s.free ∧ (updSource n f s).eth = s.eth ∧ (updSource n
    f s).test = s.test ∧ (updSource n f s).wk = s.wk ∧ (updSource n f s).tk = s.tk ∧ (updSource n f s).pwr = s.pwr ∧
    (updSource n f s).pending = s.pending ∧ (updSource n f s).fuse = s.fuse ∧ (updSource n f s).setAt = s.setAt := by
  generalize h : updSource n f s = t
  unfold updSource at h
  (try dsimp only at h)
  (repeat' split at h) <;> subst h <;> simp

/-- `complete` changes nothing but evr. -/
@[simp] theorem complete_frame (n : HostId) (k : Nat) (s : State) :
    (complete n k s).ring = s.ring ∧ (complete n k s).tb = s.tb ∧ (complete n k s).tg = s.tg ∧ (complete n k s).wp =
    s.wp ∧ (complete n k s).door = s.door ∧ (complete n k s).crown = s.crown ∧ (complete n k s).pl = s.pl ∧ (complete
    n k s).px = s.px ∧ (complete n k s).keep = s.keep ∧ (complete n k s).clk = s.clk ∧ (complete n k s).lane = s.lane
    ∧ (complete n k s).eng = s.eng ∧ (complete n k s).st = s.st ∧ (complete n k s).bank = s.bank ∧ (complete n k
    s).ret = s.ret ∧ (complete n k s).glb = s.glb ∧ (complete n k s).cyc = s.cyc ∧ (complete n k s).vote = s.vote ∧
    (complete n k s).vin = s.vin ∧ (complete n k s).comb = s.comb ∧ (complete n k s).rst = s.rst ∧ (complete n k
    s).opt = s.opt ∧ (complete n k s).hp = s.hp ∧ (complete n k s).dir = s.dir ∧ (complete n k s).set = s.set ∧
    (complete n k s).upd = s.upd ∧ (complete n k s).port = s.port ∧ (complete n k s).chk = s.chk ∧ (complete n k
    s).store = s.store ∧ (complete n k s).free = s.free ∧ (complete n k s).eth = s.eth ∧ (complete n k s).test =
    s.test ∧ (complete n k s).wk = s.wk ∧ (complete n k s).tk = s.tk ∧ (complete n k s).pwr = s.pwr ∧ (complete n k
    s).pending = s.pending ∧ (complete n k s).fuse = s.fuse ∧ (complete n k s).setAt = s.setAt := by
  generalize h : complete n k s = t
  unfold complete at h
  (try dsimp only at h)
  (repeat' split at h) <;> subst h <;> simp

/-- `echo` changes nothing but hp. -/
@[simp] theorem echo_frame (h : HostId) (addr : Nat) (w : W32) (s : State) :
    (echo h addr w s).ring = s.ring ∧ (echo h addr w s).tb = s.tb ∧ (echo h addr w s).tg = s.tg ∧ (echo h addr w s).wp
    = s.wp ∧ (echo h addr w s).door = s.door ∧ (echo h addr w s).crown = s.crown ∧ (echo h addr w s).pl = s.pl ∧ (echo
    h addr w s).px = s.px ∧ (echo h addr w s).keep = s.keep ∧ (echo h addr w s).clk = s.clk ∧ (echo h addr w s).lane =
    s.lane ∧ (echo h addr w s).eng = s.eng ∧ (echo h addr w s).st = s.st ∧ (echo h addr w s).bank = s.bank ∧ (echo h
    addr w s).ret = s.ret ∧ (echo h addr w s).glb = s.glb ∧ (echo h addr w s).cyc = s.cyc ∧ (echo h addr w s).vote =
    s.vote ∧ (echo h addr w s).vin = s.vin ∧ (echo h addr w s).comb = s.comb ∧ (echo h addr w s).evr = s.evr ∧ (echo h
    addr w s).rst = s.rst ∧ (echo h addr w s).opt = s.opt ∧ (echo h addr w s).dir = s.dir ∧ (echo h addr w s).set =
    s.set ∧ (echo h addr w s).upd = s.upd ∧ (echo h addr w s).port = s.port ∧ (echo h addr w s).chk = s.chk ∧ (echo h
    addr w s).store = s.store ∧ (echo h addr w s).free = s.free ∧ (echo h addr w s).eth = s.eth ∧ (echo h addr w
    s).test = s.test ∧ (echo h addr w s).wk = s.wk ∧ (echo h addr w s).tk = s.tk ∧ (echo h addr w s).pwr = s.pwr ∧
    (echo h addr w s).pending = s.pending ∧ (echo h addr w s).fuse = s.fuse ∧ (echo h addr w s).setAt = s.setAt := by
  generalize h : echo h addr w s = t
  unfold echo at h
  (try dsimp only at h)
  (repeat' split at h) <;> subst h <;> simp

/-- `testAbsorb` changes nothing but chk. -/
@[simp] theorem testAbsorb_frame (b : List Byte) (s : State) :
    (testAbsorb b s).ring = s.ring ∧ (testAbsorb b s).tb = s.tb ∧ (testAbsorb b s).tg = s.tg ∧ (testAbsorb b s).wp =
    s.wp ∧ (testAbsorb b s).door = s.door ∧ (testAbsorb b s).crown = s.crown ∧ (testAbsorb b s).pl = s.pl ∧
    (testAbsorb b s).px = s.px ∧ (testAbsorb b s).keep = s.keep ∧ (testAbsorb b s).clk = s.clk ∧ (testAbsorb b s).lane
    = s.lane ∧ (testAbsorb b s).eng = s.eng ∧ (testAbsorb b s).st = s.st ∧ (testAbsorb b s).bank = s.bank ∧
    (testAbsorb b s).ret = s.ret ∧ (testAbsorb b s).glb = s.glb ∧ (testAbsorb b s).cyc = s.cyc ∧ (testAbsorb b s).vote
    = s.vote ∧ (testAbsorb b s).vin = s.vin ∧ (testAbsorb b s).comb = s.comb ∧ (testAbsorb b s).evr = s.evr ∧
    (testAbsorb b s).rst = s.rst ∧ (testAbsorb b s).opt = s.opt ∧ (testAbsorb b s).hp = s.hp ∧ (testAbsorb b s).dir =
    s.dir ∧ (testAbsorb b s).set = s.set ∧ (testAbsorb b s).upd = s.upd ∧ (testAbsorb b s).port = s.port ∧ (testAbsorb
    b s).store = s.store ∧ (testAbsorb b s).free = s.free ∧ (testAbsorb b s).eth = s.eth ∧ (testAbsorb b s).test =
    s.test ∧ (testAbsorb b s).wk = s.wk ∧ (testAbsorb b s).tk = s.tk ∧ (testAbsorb b s).pwr = s.pwr ∧ (testAbsorb b
    s).pending = s.pending ∧ (testAbsorb b s).fuse = s.fuse ∧ (testAbsorb b s).setAt = s.setAt := by
  generalize h : testAbsorb b s = t
  unfold testAbsorb at h
  (try dsimp only at h)
  (repeat' split at h) <;> subst h <;> simp

/-- `send` changes nothing but pl. -/
@[simp] theorem send_frame (r : PlOut) (s : State) :
    (send r s).ring = s.ring ∧ (send r s).tb = s.tb ∧ (send r s).tg = s.tg ∧ (send r s).wp = s.wp ∧ (send r s).door =
    s.door ∧ (send r s).crown = s.crown ∧ (send r s).px = s.px ∧ (send r s).keep = s.keep ∧ (send r s).clk = s.clk ∧
    (send r s).lane = s.lane ∧ (send r s).eng = s.eng ∧ (send r s).st = s.st ∧ (send r s).bank = s.bank ∧ (send r
    s).ret = s.ret ∧ (send r s).glb = s.glb ∧ (send r s).cyc = s.cyc ∧ (send r s).vote = s.vote ∧ (send r s).vin =
    s.vin ∧ (send r s).comb = s.comb ∧ (send r s).evr = s.evr ∧ (send r s).rst = s.rst ∧ (send r s).opt = s.opt ∧
    (send r s).hp = s.hp ∧ (send r s).dir = s.dir ∧ (send r s).set = s.set ∧ (send r s).upd = s.upd ∧ (send r s).port
    = s.port ∧ (send r s).chk = s.chk ∧ (send r s).store = s.store ∧ (send r s).free = s.free ∧ (send r s).eth = s.eth
    ∧ (send r s).test = s.test ∧ (send r s).wk = s.wk ∧ (send r s).tk = s.tk ∧ (send r s).pwr = s.pwr ∧ (send r
    s).pending = s.pending ∧ (send r s).fuse = s.fuse ∧ (send r s).setAt = s.setAt := by
  generalize h : send r s = t
  unfold send at h
  (try dsimp only at h)
  (repeat' split at h) <;> subst h <;> simp

/-- `setCrown` changes nothing but crown, comb, evr. -/
@[simp] theorem setCrown_frame (x : CrownState) (s : State) :
    (setCrown x s).ring = s.ring ∧ (setCrown x s).tb = s.tb ∧ (setCrown x s).tg = s.tg ∧ (setCrown x s).wp = s.wp ∧
    (setCrown x s).door = s.door ∧ (setCrown x s).pl = s.pl ∧ (setCrown x s).px = s.px ∧ (setCrown x s).keep = s.keep
    ∧ (setCrown x s).clk = s.clk ∧ (setCrown x s).lane = s.lane ∧ (setCrown x s).eng = s.eng ∧ (setCrown x s).st =
    s.st ∧ (setCrown x s).bank = s.bank ∧ (setCrown x s).ret = s.ret ∧ (setCrown x s).glb = s.glb ∧ (setCrown x s).cyc
    = s.cyc ∧ (setCrown x s).vote = s.vote ∧ (setCrown x s).vin = s.vin ∧ (setCrown x s).rst = s.rst ∧ (setCrown x
    s).opt = s.opt ∧ (setCrown x s).hp = s.hp ∧ (setCrown x s).dir = s.dir ∧ (setCrown x s).set = s.set ∧ (setCrown x
    s).upd = s.upd ∧ (setCrown x s).port = s.port ∧ (setCrown x s).chk = s.chk ∧ (setCrown x s).store = s.store ∧
    (setCrown x s).free = s.free ∧ (setCrown x s).eth = s.eth ∧ (setCrown x s).test = s.test ∧ (setCrown x s).wk =
    s.wk ∧ (setCrown x s).tk = s.tk ∧ (setCrown x s).pwr = s.pwr ∧ (setCrown x s).pending = s.pending ∧ (setCrown x
    s).fuse = s.fuse ∧ (setCrown x s).setAt = s.setAt := by
  generalize h : setCrown x s = t
  unfold setCrown at h
  (try dsimp only at h)
  (repeat' split at h) <;> subst h <;> simp

/-- `laneReset` changes nothing but tb, tg, keep, lane, eng, st, bank, vin, comb, evr, port. -/
@[simp] theorem laneReset_frame (c : Nat) (l : Lane) (s : State) :
    (laneReset c l s).ring = s.ring ∧ (laneReset c l s).wp = s.wp ∧ (laneReset c l s).door = s.door ∧ (laneReset c l
    s).crown = s.crown ∧ (laneReset c l s).pl = s.pl ∧ (laneReset c l s).px = s.px ∧ (laneReset c l s).clk = s.clk ∧
    (laneReset c l s).ret = s.ret ∧ (laneReset c l s).glb = s.glb ∧ (laneReset c l s).cyc = s.cyc ∧ (laneReset c l
    s).vote = s.vote ∧ (laneReset c l s).rst = s.rst ∧ (laneReset c l s).opt = s.opt ∧ (laneReset c l s).hp = s.hp ∧
    (laneReset c l s).dir = s.dir ∧ (laneReset c l s).set = s.set ∧ (laneReset c l s).upd = s.upd ∧ (laneReset c l
    s).chk = s.chk ∧ (laneReset c l s).store = s.store ∧ (laneReset c l s).free = s.free ∧ (laneReset c l s).eth =
    s.eth ∧ (laneReset c l s).test = s.test ∧ (laneReset c l s).wk = s.wk ∧ (laneReset c l s).tk = s.tk ∧ (laneReset c
    l s).pwr = s.pwr ∧ (laneReset c l s).pending = s.pending ∧ (laneReset c l s).fuse = s.fuse ∧ (laneReset c l
    s).setAt = s.setAt := by
  generalize h : laneReset c l s = t
  unfold laneReset at h
  (try dsimp only at h)
  (repeat' split at h) <;> subst h <;> simp

/-- `dropPermits` changes nothing but vote. -/
@[simp] theorem dropPermits_frame (s : State) :
    (dropPermits s).ring = s.ring ∧ (dropPermits s).tb = s.tb ∧ (dropPermits s).tg = s.tg ∧ (dropPermits s).wp = s.wp
    ∧ (dropPermits s).door = s.door ∧ (dropPermits s).crown = s.crown ∧ (dropPermits s).pl = s.pl ∧ (dropPermits s).px
    = s.px ∧ (dropPermits s).keep = s.keep ∧ (dropPermits s).clk = s.clk ∧ (dropPermits s).lane = s.lane ∧
    (dropPermits s).eng = s.eng ∧ (dropPermits s).st = s.st ∧ (dropPermits s).bank = s.bank ∧ (dropPermits s).ret =
    s.ret ∧ (dropPermits s).glb = s.glb ∧ (dropPermits s).cyc = s.cyc ∧ (dropPermits s).vin = s.vin ∧ (dropPermits
    s).comb = s.comb ∧ (dropPermits s).evr = s.evr ∧ (dropPermits s).rst = s.rst ∧ (dropPermits s).opt = s.opt ∧
    (dropPermits s).hp = s.hp ∧ (dropPermits s).dir = s.dir ∧ (dropPermits s).set = s.set ∧ (dropPermits s).upd =
    s.upd ∧ (dropPermits s).port = s.port ∧ (dropPermits s).chk = s.chk ∧ (dropPermits s).store = s.store ∧
    (dropPermits s).free = s.free ∧ (dropPermits s).eth = s.eth ∧ (dropPermits s).test = s.test ∧ (dropPermits s).wk =
    s.wk ∧ (dropPermits s).tk = s.tk ∧ (dropPermits s).pwr = s.pwr ∧ (dropPermits s).pending = s.pending ∧
    (dropPermits s).fuse = s.fuse ∧ (dropPermits s).setAt = s.setAt := by
  generalize h : dropPermits s = t
  unfold dropPermits at h
  (try dsimp only at h)
  (repeat' split at h) <;> subst h <;> simp

/-- `updSend` changes nothing but pl, eth. -/
@[simp] theorem updSend_frame (src : UpdSrc) (m : List Byte) (s : State) :
    (updSend src m s).ring = s.ring ∧ (updSend src m s).tb = s.tb ∧ (updSend src m s).tg = s.tg ∧ (updSend src m s).wp
    = s.wp ∧ (updSend src m s).door = s.door ∧ (updSend src m s).crown = s.crown ∧ (updSend src m s).px = s.px ∧
    (updSend src m s).keep = s.keep ∧ (updSend src m s).clk = s.clk ∧ (updSend src m s).lane = s.lane ∧ (updSend src m
    s).eng = s.eng ∧ (updSend src m s).st = s.st ∧ (updSend src m s).bank = s.bank ∧ (updSend src m s).ret = s.ret ∧
    (updSend src m s).glb = s.glb ∧ (updSend src m s).cyc = s.cyc ∧ (updSend src m s).vote = s.vote ∧ (updSend src m
    s).vin = s.vin ∧ (updSend src m s).comb = s.comb ∧ (updSend src m s).evr = s.evr ∧ (updSend src m s).rst = s.rst ∧
    (updSend src m s).opt = s.opt ∧ (updSend src m s).hp = s.hp ∧ (updSend src m s).dir = s.dir ∧ (updSend src m
    s).set = s.set ∧ (updSend src m s).upd = s.upd ∧ (updSend src m s).port = s.port ∧ (updSend src m s).chk = s.chk ∧
    (updSend src m s).store = s.store ∧ (updSend src m s).free = s.free ∧ (updSend src m s).test = s.test ∧ (updSend
    src m s).wk = s.wk ∧ (updSend src m s).tk = s.tk ∧ (updSend src m s).pwr = s.pwr ∧ (updSend src m s).pending =
    s.pending ∧ (updSend src m s).fuse = s.fuse ∧ (updSend src m s).setAt = s.setAt := by
  generalize h : updSend src m s = t
  unfold updSend at h
  (try dsimp only at h)
  (repeat' split at h) <;> subst h <;> simp

/-- `releaseLock` changes nothing but upd. -/
@[simp] theorem releaseLock_frame (ok : Bool) (status : Nat) (s : State) :
    (releaseLock ok status s).ring = s.ring ∧ (releaseLock ok status s).tb = s.tb ∧ (releaseLock ok status s).tg =
    s.tg ∧ (releaseLock ok status s).wp = s.wp ∧ (releaseLock ok status s).door = s.door ∧ (releaseLock ok status
    s).crown = s.crown ∧ (releaseLock ok status s).pl = s.pl ∧ (releaseLock ok status s).px = s.px ∧ (releaseLock ok
    status s).keep = s.keep ∧ (releaseLock ok status s).clk = s.clk ∧ (releaseLock ok status s).lane = s.lane ∧
    (releaseLock ok status s).eng = s.eng ∧ (releaseLock ok status s).st = s.st ∧ (releaseLock ok status s).bank =
    s.bank ∧ (releaseLock ok status s).ret = s.ret ∧ (releaseLock ok status s).glb = s.glb ∧ (releaseLock ok status
    s).cyc = s.cyc ∧ (releaseLock ok status s).vote = s.vote ∧ (releaseLock ok status s).vin = s.vin ∧ (releaseLock ok
    status s).comb = s.comb ∧ (releaseLock ok status s).evr = s.evr ∧ (releaseLock ok status s).rst = s.rst ∧
    (releaseLock ok status s).opt = s.opt ∧ (releaseLock ok status s).hp = s.hp ∧ (releaseLock ok status s).dir =
    s.dir ∧ (releaseLock ok status s).set = s.set ∧ (releaseLock ok status s).port = s.port ∧ (releaseLock ok status
    s).chk = s.chk ∧ (releaseLock ok status s).store = s.store ∧ (releaseLock ok status s).free = s.free ∧
    (releaseLock ok status s).eth = s.eth ∧ (releaseLock ok status s).test = s.test ∧ (releaseLock ok status s).wk =
    s.wk ∧ (releaseLock ok status s).tk = s.tk ∧ (releaseLock ok status s).pwr = s.pwr ∧ (releaseLock ok status
    s).pending = s.pending ∧ (releaseLock ok status s).fuse = s.fuse ∧ (releaseLock ok status s).setAt = s.setAt := by
  generalize h : releaseLock ok status s = t
  unfold releaseLock at h
  (try dsimp only at h)
  (repeat' split at h) <;> subst h <;> simp

/-- `abortSession` changes nothing but pl, upd, eth. -/
@[simp] theorem abortSession_frame (status : Nat) (s : State) :
    (abortSession status s).ring = s.ring ∧ (abortSession status s).tb = s.tb ∧ (abortSession status s).tg = s.tg ∧
    (abortSession status s).wp = s.wp ∧ (abortSession status s).door = s.door ∧ (abortSession status s).crown =
    s.crown ∧ (abortSession status s).px = s.px ∧ (abortSession status s).keep = s.keep ∧ (abortSession status s).clk
    = s.clk ∧ (abortSession status s).lane = s.lane ∧ (abortSession status s).eng = s.eng ∧ (abortSession status s).st
    = s.st ∧ (abortSession status s).bank = s.bank ∧ (abortSession status s).ret = s.ret ∧ (abortSession status s).glb
    = s.glb ∧ (abortSession status s).cyc = s.cyc ∧ (abortSession status s).vote = s.vote ∧ (abortSession status
    s).vin = s.vin ∧ (abortSession status s).comb = s.comb ∧ (abortSession status s).evr = s.evr ∧ (abortSession
    status s).rst = s.rst ∧ (abortSession status s).opt = s.opt ∧ (abortSession status s).hp = s.hp ∧ (abortSession
    status s).dir = s.dir ∧ (abortSession status s).set = s.set ∧ (abortSession status s).port = s.port ∧
    (abortSession status s).chk = s.chk ∧ (abortSession status s).store = s.store ∧ (abortSession status s).free =
    s.free ∧ (abortSession status s).test = s.test ∧ (abortSession status s).wk = s.wk ∧ (abortSession status s).tk =
    s.tk ∧ (abortSession status s).pwr = s.pwr ∧ (abortSession status s).pending = s.pending ∧ (abortSession status
    s).fuse = s.fuse ∧ (abortSession status s).setAt = s.setAt := by
  generalize h : abortSession status s = t
  unfold abortSession at h
  (try dsimp only at h)
  (repeat' split at h) <;> subst h <;> simp

/-- `resultSession` changes nothing but pl, evr, upd, eth. -/
@[simp] theorem resultSession_frame (status : Nat) (s : State) :
    (resultSession status s).ring = s.ring ∧ (resultSession status s).tb = s.tb ∧ (resultSession status s).tg = s.tg ∧
    (resultSession status s).wp = s.wp ∧ (resultSession status s).door = s.door ∧ (resultSession status s).crown =
    s.crown ∧ (resultSession status s).px = s.px ∧ (resultSession status s).keep = s.keep ∧ (resultSession status
    s).clk = s.clk ∧ (resultSession status s).lane = s.lane ∧ (resultSession status s).eng = s.eng ∧ (resultSession
    status s).st = s.st ∧ (resultSession status s).bank = s.bank ∧ (resultSession status s).ret = s.ret ∧
    (resultSession status s).glb = s.glb ∧ (resultSession status s).cyc = s.cyc ∧ (resultSession status s).vote =
    s.vote ∧ (resultSession status s).vin = s.vin ∧ (resultSession status s).comb = s.comb ∧ (resultSession status
    s).rst = s.rst ∧ (resultSession status s).opt = s.opt ∧ (resultSession status s).hp = s.hp ∧ (resultSession status
    s).dir = s.dir ∧ (resultSession status s).set = s.set ∧ (resultSession status s).port = s.port ∧ (resultSession
    status s).chk = s.chk ∧ (resultSession status s).store = s.store ∧ (resultSession status s).free = s.free ∧
    (resultSession status s).test = s.test ∧ (resultSession status s).wk = s.wk ∧ (resultSession status s).tk = s.tk ∧
    (resultSession status s).pwr = s.pwr ∧ (resultSession status s).pending = s.pending ∧ (resultSession status
    s).fuse = s.fuse ∧ (resultSession status s).setAt = s.setAt := by
  generalize h : resultSession status s = t
  unfold resultSession at h
  (try dsimp only at h)
  (repeat' split at h) <;> subst h <;> simp

/-- `enterOut` changes nothing but tb, crown, comb, evr. -/
@[simp] theorem enterOut_frame (s : State) :
    (enterOut s).ring = s.ring ∧ (enterOut s).tg = s.tg ∧ (enterOut s).wp = s.wp ∧ (enterOut s).door = s.door ∧
    (enterOut s).pl = s.pl ∧ (enterOut s).px = s.px ∧ (enterOut s).keep = s.keep ∧ (enterOut s).clk = s.clk ∧
    (enterOut s).lane = s.lane ∧ (enterOut s).eng = s.eng ∧ (enterOut s).st = s.st ∧ (enterOut s).bank = s.bank ∧
    (enterOut s).ret = s.ret ∧ (enterOut s).glb = s.glb ∧ (enterOut s).cyc = s.cyc ∧ (enterOut s).vote = s.vote ∧
    (enterOut s).vin = s.vin ∧ (enterOut s).rst = s.rst ∧ (enterOut s).opt = s.opt ∧ (enterOut s).hp = s.hp ∧
    (enterOut s).dir = s.dir ∧ (enterOut s).set = s.set ∧ (enterOut s).upd = s.upd ∧ (enterOut s).port = s.port ∧
    (enterOut s).chk = s.chk ∧ (enterOut s).store = s.store ∧ (enterOut s).free = s.free ∧ (enterOut s).eth = s.eth ∧
    (enterOut s).test = s.test ∧ (enterOut s).wk = s.wk ∧ (enterOut s).tk = s.tk ∧ (enterOut s).pwr = s.pwr ∧
    (enterOut s).pending = s.pending ∧ (enterOut s).fuse = s.fuse ∧ (enterOut s).setAt = s.setAt := by
  generalize h : enterOut s = t
  unfold enterOut at h
  (try dsimp only at h)
  (repeat' split at h) <;> subst h <;> simp

/-- `enterSeeking` changes nothing but tb, crown, comb, evr. -/
@[simp] theorem enterSeeking_frame (s : State) :
    (enterSeeking s).ring = s.ring ∧ (enterSeeking s).tg = s.tg ∧ (enterSeeking s).wp = s.wp ∧ (enterSeeking s).door =
    s.door ∧ (enterSeeking s).pl = s.pl ∧ (enterSeeking s).px = s.px ∧ (enterSeeking s).keep = s.keep ∧ (enterSeeking
    s).clk = s.clk ∧ (enterSeeking s).lane = s.lane ∧ (enterSeeking s).eng = s.eng ∧ (enterSeeking s).st = s.st ∧
    (enterSeeking s).bank = s.bank ∧ (enterSeeking s).ret = s.ret ∧ (enterSeeking s).glb = s.glb ∧ (enterSeeking
    s).cyc = s.cyc ∧ (enterSeeking s).vote = s.vote ∧ (enterSeeking s).vin = s.vin ∧ (enterSeeking s).rst = s.rst ∧
    (enterSeeking s).opt = s.opt ∧ (enterSeeking s).hp = s.hp ∧ (enterSeeking s).dir = s.dir ∧ (enterSeeking s).set =
    s.set ∧ (enterSeeking s).upd = s.upd ∧ (enterSeeking s).port = s.port ∧ (enterSeeking s).chk = s.chk ∧
    (enterSeeking s).store = s.store ∧ (enterSeeking s).free = s.free ∧ (enterSeeking s).eth = s.eth ∧ (enterSeeking
    s).test = s.test ∧ (enterSeeking s).wk = s.wk ∧ (enterSeeking s).tk = s.tk ∧ (enterSeeking s).pwr = s.pwr ∧
    (enterSeeking s).pending = s.pending ∧ (enterSeeking s).fuse = s.fuse ∧ (enterSeeking s).setAt = s.setAt := by
  generalize h : enterSeeking s = t
  unfold enterSeeking at h
  (try dsimp only at h)
  (repeat' split at h) <;> subst h <;> simp

/-- `seeEpoch` changes nothing but keep. -/
@[simp] theorem seeEpoch_frame (e : W32) (s : State) :
    (seeEpoch e s).ring = s.ring ∧ (seeEpoch e s).tb = s.tb ∧ (seeEpoch e s).tg = s.tg ∧ (seeEpoch e s).wp = s.wp ∧
    (seeEpoch e s).door = s.door ∧ (seeEpoch e s).crown = s.crown ∧ (seeEpoch e s).pl = s.pl ∧ (seeEpoch e s).px =
    s.px ∧ (seeEpoch e s).clk = s.clk ∧ (seeEpoch e s).lane = s.lane ∧ (seeEpoch e s).eng = s.eng ∧ (seeEpoch e s).st
    = s.st ∧ (seeEpoch e s).bank = s.bank ∧ (seeEpoch e s).ret = s.ret ∧ (seeEpoch e s).glb = s.glb ∧ (seeEpoch e
    s).cyc = s.cyc ∧ (seeEpoch e s).vote = s.vote ∧ (seeEpoch e s).vin = s.vin ∧ (seeEpoch e s).comb = s.comb ∧
    (seeEpoch e s).evr = s.evr ∧ (seeEpoch e s).rst = s.rst ∧ (seeEpoch e s).opt = s.opt ∧ (seeEpoch e s).hp = s.hp ∧
    (seeEpoch e s).dir = s.dir ∧ (seeEpoch e s).set = s.set ∧ (seeEpoch e s).upd = s.upd ∧ (seeEpoch e s).port =
    s.port ∧ (seeEpoch e s).chk = s.chk ∧ (seeEpoch e s).store = s.store ∧ (seeEpoch e s).free = s.free ∧ (seeEpoch e
    s).eth = s.eth ∧ (seeEpoch e s).test = s.test ∧ (seeEpoch e s).wk = s.wk ∧ (seeEpoch e s).tk = s.tk ∧ (seeEpoch e
    s).pwr = s.pwr ∧ (seeEpoch e s).pending = s.pending ∧ (seeEpoch e s).fuse = s.fuse ∧ (seeEpoch e s).setAt =
    s.setAt := by
  generalize h : seeEpoch e s = t
  unfold seeEpoch at h
  (try dsimp only at h)
  (repeat' split at h) <;> subst h <;> simp

/-- `bumpCounter` changes nothing but keep. -/
@[simp] theorem bumpCounter_frame (i : Nat) (s : State) :
    (bumpCounter i s).ring = s.ring ∧ (bumpCounter i s).tb = s.tb ∧ (bumpCounter i s).tg = s.tg ∧ (bumpCounter i s).wp
    = s.wp ∧ (bumpCounter i s).door = s.door ∧ (bumpCounter i s).crown = s.crown ∧ (bumpCounter i s).pl = s.pl ∧
    (bumpCounter i s).px = s.px ∧ (bumpCounter i s).clk = s.clk ∧ (bumpCounter i s).lane = s.lane ∧ (bumpCounter i
    s).eng = s.eng ∧ (bumpCounter i s).st = s.st ∧ (bumpCounter i s).bank = s.bank ∧ (bumpCounter i s).ret = s.ret ∧
    (bumpCounter i s).glb = s.glb ∧ (bumpCounter i s).cyc = s.cyc ∧ (bumpCounter i s).vote = s.vote ∧ (bumpCounter i
    s).vin = s.vin ∧ (bumpCounter i s).comb = s.comb ∧ (bumpCounter i s).evr = s.evr ∧ (bumpCounter i s).rst = s.rst ∧
    (bumpCounter i s).opt = s.opt ∧ (bumpCounter i s).hp = s.hp ∧ (bumpCounter i s).dir = s.dir ∧ (bumpCounter i
    s).set = s.set ∧ (bumpCounter i s).upd = s.upd ∧ (bumpCounter i s).port = s.port ∧ (bumpCounter i s).chk = s.chk ∧
    (bumpCounter i s).store = s.store ∧ (bumpCounter i s).free = s.free ∧ (bumpCounter i s).eth = s.eth ∧ (bumpCounter
    i s).test = s.test ∧ (bumpCounter i s).wk = s.wk ∧ (bumpCounter i s).tk = s.tk ∧ (bumpCounter i s).pwr = s.pwr ∧
    (bumpCounter i s).pending = s.pending ∧ (bumpCounter i s).fuse = s.fuse ∧ (bumpCounter i s).setAt = s.setAt := by
  generalize h : bumpCounter i s = t
  unfold bumpCounter at h
  (try dsimp only at h)
  (repeat' split at h) <;> subst h <;> simp

/-- `setPx` changes nothing but px, vote, comb, evr. -/
@[simp] theorem setPx_frame (x : PxState) (reason : Nat) (s : State) :
    (setPx x reason s).ring = s.ring ∧ (setPx x reason s).tb = s.tb ∧ (setPx x reason s).tg = s.tg ∧ (setPx x reason
    s).wp = s.wp ∧ (setPx x reason s).door = s.door ∧ (setPx x reason s).crown = s.crown ∧ (setPx x reason s).pl =
    s.pl ∧ (setPx x reason s).keep = s.keep ∧ (setPx x reason s).clk = s.clk ∧ (setPx x reason s).lane = s.lane ∧
    (setPx x reason s).eng = s.eng ∧ (setPx x reason s).st = s.st ∧ (setPx x reason s).bank = s.bank ∧ (setPx x reason
    s).ret = s.ret ∧ (setPx x reason s).glb = s.glb ∧ (setPx x reason s).cyc = s.cyc ∧ (setPx x reason s).vin = s.vin
    ∧ (setPx x reason s).rst = s.rst ∧ (setPx x reason s).opt = s.opt ∧ (setPx x reason s).hp = s.hp ∧ (setPx x reason
    s).dir = s.dir ∧ (setPx x reason s).set = s.set ∧ (setPx x reason s).upd = s.upd ∧ (setPx x reason s).port =
    s.port ∧ (setPx x reason s).chk = s.chk ∧ (setPx x reason s).store = s.store ∧ (setPx x reason s).free = s.free ∧
    (setPx x reason s).eth = s.eth ∧ (setPx x reason s).test = s.test ∧ (setPx x reason s).wk = s.wk ∧ (setPx x reason
    s).tk = s.tk ∧ (setPx x reason s).pwr = s.pwr ∧ (setPx x reason s).pending = s.pending ∧ (setPx x reason s).fuse =
    s.fuse ∧ (setPx x reason s).setAt = s.setAt := by
  generalize h : setPx x reason s = t
  unfold setPx at h
  (try dsimp only at h)
  (repeat' split at h) <;> subst h <;> simp

/-- `unstage` changes nothing but px, bank. -/
@[simp] theorem unstage_frame (s : State) :
    (unstage s).ring = s.ring ∧ (unstage s).tb = s.tb ∧ (unstage s).tg = s.tg ∧ (unstage s).wp = s.wp ∧ (unstage
    s).door = s.door ∧ (unstage s).crown = s.crown ∧ (unstage s).pl = s.pl ∧ (unstage s).keep = s.keep ∧ (unstage
    s).clk = s.clk ∧ (unstage s).lane = s.lane ∧ (unstage s).eng = s.eng ∧ (unstage s).st = s.st ∧ (unstage s).ret =
    s.ret ∧ (unstage s).glb = s.glb ∧ (unstage s).cyc = s.cyc ∧ (unstage s).vote = s.vote ∧ (unstage s).vin = s.vin ∧
    (unstage s).comb = s.comb ∧ (unstage s).evr = s.evr ∧ (unstage s).rst = s.rst ∧ (unstage s).opt = s.opt ∧ (unstage
    s).hp = s.hp ∧ (unstage s).dir = s.dir ∧ (unstage s).set = s.set ∧ (unstage s).upd = s.upd ∧ (unstage s).port =
    s.port ∧ (unstage s).chk = s.chk ∧ (unstage s).store = s.store ∧ (unstage s).free = s.free ∧ (unstage s).eth =
    s.eth ∧ (unstage s).test = s.test ∧ (unstage s).wk = s.wk ∧ (unstage s).tk = s.tk ∧ (unstage s).pwr = s.pwr ∧
    (unstage s).pending = s.pending ∧ (unstage s).fuse = s.fuse ∧ (unstage s).setAt = s.setAt := by
  generalize h : unstage s = t
  unfold unstage at h
  (try dsimp only at h)
  (repeat' split at h) <;> subst h <;> simp

/-- `cancelPx` changes nothing but px, vote, comb, evr. -/
@[simp] theorem cancelPx_frame (reason : Nat) (s : State) :
    (cancelPx reason s).ring = s.ring ∧ (cancelPx reason s).tb = s.tb ∧ (cancelPx reason s).tg = s.tg ∧ (cancelPx
    reason s).wp = s.wp ∧ (cancelPx reason s).door = s.door ∧ (cancelPx reason s).crown = s.crown ∧ (cancelPx reason
    s).pl = s.pl ∧ (cancelPx reason s).keep = s.keep ∧ (cancelPx reason s).clk = s.clk ∧ (cancelPx reason s).lane =
    s.lane ∧ (cancelPx reason s).eng = s.eng ∧ (cancelPx reason s).st = s.st ∧ (cancelPx reason s).bank = s.bank ∧
    (cancelPx reason s).ret = s.ret ∧ (cancelPx reason s).glb = s.glb ∧ (cancelPx reason s).cyc = s.cyc ∧ (cancelPx
    reason s).vin = s.vin ∧ (cancelPx reason s).rst = s.rst ∧ (cancelPx reason s).opt = s.opt ∧ (cancelPx reason s).hp
    = s.hp ∧ (cancelPx reason s).dir = s.dir ∧ (cancelPx reason s).set = s.set ∧ (cancelPx reason s).upd = s.upd ∧
    (cancelPx reason s).port = s.port ∧ (cancelPx reason s).chk = s.chk ∧ (cancelPx reason s).store = s.store ∧
    (cancelPx reason s).free = s.free ∧ (cancelPx reason s).eth = s.eth ∧ (cancelPx reason s).test = s.test ∧
    (cancelPx reason s).wk = s.wk ∧ (cancelPx reason s).tk = s.tk ∧ (cancelPx reason s).pwr = s.pwr ∧ (cancelPx reason
    s).pending = s.pending ∧ (cancelPx reason s).fuse = s.fuse ∧ (cancelPx reason s).setAt = s.setAt := by
  generalize h : cancelPx reason s = t
  unfold cancelPx at h
  (try dsimp only at h)
  (repeat' split at h) <;> subst h <;> simp

/-- `acknowledge` changes nothing but crown. -/
@[simp] theorem acknowledge_frame (ts : Nat) (solo : Bool) (s : State) :
    (acknowledge ts solo s).ring = s.ring ∧ (acknowledge ts solo s).tb = s.tb ∧ (acknowledge ts solo s).tg = s.tg ∧
    (acknowledge ts solo s).wp = s.wp ∧ (acknowledge ts solo s).door = s.door ∧ (acknowledge ts solo s).pl = s.pl ∧
    (acknowledge ts solo s).px = s.px ∧ (acknowledge ts solo s).keep = s.keep ∧ (acknowledge ts solo s).clk = s.clk ∧
    (acknowledge ts solo s).lane = s.lane ∧ (acknowledge ts solo s).eng = s.eng ∧ (acknowledge ts solo s).st = s.st ∧
    (acknowledge ts solo s).bank = s.bank ∧ (acknowledge ts solo s).ret = s.ret ∧ (acknowledge ts solo s).glb = s.glb
    ∧ (acknowledge ts solo s).cyc = s.cyc ∧ (acknowledge ts solo s).vote = s.vote ∧ (acknowledge ts solo s).vin =
    s.vin ∧ (acknowledge ts solo s).comb = s.comb ∧ (acknowledge ts solo s).evr = s.evr ∧ (acknowledge ts solo s).rst
    = s.rst ∧ (acknowledge ts solo s).opt = s.opt ∧ (acknowledge ts solo s).hp = s.hp ∧ (acknowledge ts solo s).dir =
    s.dir ∧ (acknowledge ts solo s).set = s.set ∧ (acknowledge ts solo s).upd = s.upd ∧ (acknowledge ts solo s).port =
    s.port ∧ (acknowledge ts solo s).chk = s.chk ∧ (acknowledge ts solo s).store = s.store ∧ (acknowledge ts solo
    s).free = s.free ∧ (acknowledge ts solo s).eth = s.eth ∧ (acknowledge ts solo s).test = s.test ∧ (acknowledge ts
    solo s).wk = s.wk ∧ (acknowledge ts solo s).tk = s.tk ∧ (acknowledge ts solo s).pwr = s.pwr ∧ (acknowledge ts solo
    s).pending = s.pending ∧ (acknowledge ts solo s).fuse = s.fuse ∧ (acknowledge ts solo s).setAt = s.setAt := by
  generalize h : acknowledge ts solo s = t
  unfold acknowledge at h
  (try dsimp only at h)
  (repeat' split at h) <;> subst h <;> simp

/-- `recordWcet` changes nothing but comb. -/
@[simp] theorem recordWcet_frame (s : State) :
    (recordWcet s).ring = s.ring ∧ (recordWcet s).tb = s.tb ∧ (recordWcet s).tg = s.tg ∧ (recordWcet s).wp = s.wp ∧
    (recordWcet s).door = s.door ∧ (recordWcet s).crown = s.crown ∧ (recordWcet s).pl = s.pl ∧ (recordWcet s).px =
    s.px ∧ (recordWcet s).keep = s.keep ∧ (recordWcet s).clk = s.clk ∧ (recordWcet s).lane = s.lane ∧ (recordWcet
    s).eng = s.eng ∧ (recordWcet s).st = s.st ∧ (recordWcet s).bank = s.bank ∧ (recordWcet s).ret = s.ret ∧
    (recordWcet s).glb = s.glb ∧ (recordWcet s).cyc = s.cyc ∧ (recordWcet s).vote = s.vote ∧ (recordWcet s).vin =
    s.vin ∧ (recordWcet s).evr = s.evr ∧ (recordWcet s).rst = s.rst ∧ (recordWcet s).opt = s.opt ∧ (recordWcet s).hp =
    s.hp ∧ (recordWcet s).dir = s.dir ∧ (recordWcet s).set = s.set ∧ (recordWcet s).upd = s.upd ∧ (recordWcet s).port
    = s.port ∧ (recordWcet s).chk = s.chk ∧ (recordWcet s).store = s.store ∧ (recordWcet s).free = s.free ∧
    (recordWcet s).eth = s.eth ∧ (recordWcet s).test = s.test ∧ (recordWcet s).wk = s.wk ∧ (recordWcet s).tk = s.tk ∧
    (recordWcet s).pwr = s.pwr ∧ (recordWcet s).pending = s.pending ∧ (recordWcet s).fuse = s.fuse ∧ (recordWcet
    s).setAt = s.setAt := by
  generalize h : recordWcet s = t
  unfold recordWcet at h
  (try dsimp only at h)
  (repeat' split at h) <;> subst h <;> simp

/-- `countInvalid` changes nothing but ring. -/
@[simp] theorem countInvalid_frame (r : Ring) (p : Pair) (n : Nat) (s : State) :
    (countInvalid r p n s).tb = s.tb ∧ (countInvalid r p n s).tg = s.tg ∧ (countInvalid r p n s).wp = s.wp ∧
    (countInvalid r p n s).door = s.door ∧ (countInvalid r p n s).crown = s.crown ∧ (countInvalid r p n s).pl = s.pl ∧
    (countInvalid r p n s).px = s.px ∧ (countInvalid r p n s).keep = s.keep ∧ (countInvalid r p n s).clk = s.clk ∧
    (countInvalid r p n s).lane = s.lane ∧ (countInvalid r p n s).eng = s.eng ∧ (countInvalid r p n s).st = s.st ∧
    (countInvalid r p n s).bank = s.bank ∧ (countInvalid r p n s).ret = s.ret ∧ (countInvalid r p n s).glb = s.glb ∧
    (countInvalid r p n s).cyc = s.cyc ∧ (countInvalid r p n s).vote = s.vote ∧ (countInvalid r p n s).vin = s.vin ∧
    (countInvalid r p n s).comb = s.comb ∧ (countInvalid r p n s).evr = s.evr ∧ (countInvalid r p n s).rst = s.rst ∧
    (countInvalid r p n s).opt = s.opt ∧ (countInvalid r p n s).hp = s.hp ∧ (countInvalid r p n s).dir = s.dir ∧
    (countInvalid r p n s).set = s.set ∧ (countInvalid r p n s).upd = s.upd ∧ (countInvalid r p n s).port = s.port ∧
    (countInvalid r p n s).chk = s.chk ∧ (countInvalid r p n s).store = s.store ∧ (countInvalid r p n s).free = s.free
    ∧ (countInvalid r p n s).eth = s.eth ∧ (countInvalid r p n s).test = s.test ∧ (countInvalid r p n s).wk = s.wk ∧
    (countInvalid r p n s).tk = s.tk ∧ (countInvalid r p n s).pwr = s.pwr ∧ (countInvalid r p n s).pending = s.pending
    ∧ (countInvalid r p n s).fuse = s.fuse ∧ (countInvalid r p n s).setAt = s.setAt := by
  generalize h : countInvalid r p n s = t
  unfold countInvalid at h
  (try dsimp only at h)
  (repeat' split at h) <;> subst h <;> simp

/-- `wrapPort` changes nothing but ring. -/
@[simp] theorem wrapPort_frame (r : Ring) (p : Pair) (s : State) :
    (wrapPort r p s).tb = s.tb ∧ (wrapPort r p s).tg = s.tg ∧ (wrapPort r p s).wp = s.wp ∧ (wrapPort r p s).door =
    s.door ∧ (wrapPort r p s).crown = s.crown ∧ (wrapPort r p s).pl = s.pl ∧ (wrapPort r p s).px = s.px ∧ (wrapPort r
    p s).keep = s.keep ∧ (wrapPort r p s).clk = s.clk ∧ (wrapPort r p s).lane = s.lane ∧ (wrapPort r p s).eng = s.eng
    ∧ (wrapPort r p s).st = s.st ∧ (wrapPort r p s).bank = s.bank ∧ (wrapPort r p s).ret = s.ret ∧ (wrapPort r p
    s).glb = s.glb ∧ (wrapPort r p s).cyc = s.cyc ∧ (wrapPort r p s).vote = s.vote ∧ (wrapPort r p s).vin = s.vin ∧
    (wrapPort r p s).comb = s.comb ∧ (wrapPort r p s).evr = s.evr ∧ (wrapPort r p s).rst = s.rst ∧ (wrapPort r p
    s).opt = s.opt ∧ (wrapPort r p s).hp = s.hp ∧ (wrapPort r p s).dir = s.dir ∧ (wrapPort r p s).set = s.set ∧
    (wrapPort r p s).upd = s.upd ∧ (wrapPort r p s).port = s.port ∧ (wrapPort r p s).chk = s.chk ∧ (wrapPort r p
    s).store = s.store ∧ (wrapPort r p s).free = s.free ∧ (wrapPort r p s).eth = s.eth ∧ (wrapPort r p s).test =
    s.test ∧ (wrapPort r p s).wk = s.wk ∧ (wrapPort r p s).tk = s.tk ∧ (wrapPort r p s).pwr = s.pwr ∧ (wrapPort r p
    s).pending = s.pending ∧ (wrapPort r p s).fuse = s.fuse ∧ (wrapPort r p s).setAt = s.setAt := by
  generalize h : wrapPort r p s = t
  unfold wrapPort at h
  (try dsimp only at h)
  (repeat' split at h) <;> subst h <;> simp

/-- `wrapIfBroken` changes nothing but ring. -/
@[simp] theorem wrapIfBroken_frame (s : State) (r : Ring) :
    (wrapIfBroken s r).tb = s.tb ∧ (wrapIfBroken s r).tg = s.tg ∧ (wrapIfBroken s r).wp = s.wp ∧ (wrapIfBroken s
    r).door = s.door ∧ (wrapIfBroken s r).crown = s.crown ∧ (wrapIfBroken s r).pl = s.pl ∧ (wrapIfBroken s r).px =
    s.px ∧ (wrapIfBroken s r).keep = s.keep ∧ (wrapIfBroken s r).clk = s.clk ∧ (wrapIfBroken s r).lane = s.lane ∧
    (wrapIfBroken s r).eng = s.eng ∧ (wrapIfBroken s r).st = s.st ∧ (wrapIfBroken s r).bank = s.bank ∧ (wrapIfBroken s
    r).ret = s.ret ∧ (wrapIfBroken s r).glb = s.glb ∧ (wrapIfBroken s r).cyc = s.cyc ∧ (wrapIfBroken s r).vote =
    s.vote ∧ (wrapIfBroken s r).vin = s.vin ∧ (wrapIfBroken s r).comb = s.comb ∧ (wrapIfBroken s r).evr = s.evr ∧
    (wrapIfBroken s r).rst = s.rst ∧ (wrapIfBroken s r).opt = s.opt ∧ (wrapIfBroken s r).hp = s.hp ∧ (wrapIfBroken s
    r).dir = s.dir ∧ (wrapIfBroken s r).set = s.set ∧ (wrapIfBroken s r).upd = s.upd ∧ (wrapIfBroken s r).port =
    s.port ∧ (wrapIfBroken s r).chk = s.chk ∧ (wrapIfBroken s r).store = s.store ∧ (wrapIfBroken s r).free = s.free ∧
    (wrapIfBroken s r).eth = s.eth ∧ (wrapIfBroken s r).test = s.test ∧ (wrapIfBroken s r).wk = s.wk ∧ (wrapIfBroken s
    r).tk = s.tk ∧ (wrapIfBroken s r).pwr = s.pwr ∧ (wrapIfBroken s r).pending = s.pending ∧ (wrapIfBroken s r).fuse =
    s.fuse ∧ (wrapIfBroken s r).setAt = s.setAt := by
  generalize h : wrapIfBroken s r = t
  unfold wrapIfBroken at h
  (try dsimp only at h)
  (repeat' split at h) <;> subst h <;> simp

/-- `leavePort` changes nothing but ring. -/
@[simp] theorem leavePort_frame (r : Ring) (pr : Pair) (f : Frame) (s : State) :
    (leavePort r pr f s).tb = s.tb ∧ (leavePort r pr f s).tg = s.tg ∧ (leavePort r pr f s).wp = s.wp ∧ (leavePort r pr
    f s).door = s.door ∧ (leavePort r pr f s).crown = s.crown ∧ (leavePort r pr f s).pl = s.pl ∧ (leavePort r pr f
    s).px = s.px ∧ (leavePort r pr f s).keep = s.keep ∧ (leavePort r pr f s).clk = s.clk ∧ (leavePort r pr f s).lane =
    s.lane ∧ (leavePort r pr f s).eng = s.eng ∧ (leavePort r pr f s).st = s.st ∧ (leavePort r pr f s).bank = s.bank ∧
    (leavePort r pr f s).ret = s.ret ∧ (leavePort r pr f s).glb = s.glb ∧ (leavePort r pr f s).cyc = s.cyc ∧
    (leavePort r pr f s).vote = s.vote ∧ (leavePort r pr f s).vin = s.vin ∧ (leavePort r pr f s).comb = s.comb ∧
    (leavePort r pr f s).evr = s.evr ∧ (leavePort r pr f s).rst = s.rst ∧ (leavePort r pr f s).opt = s.opt ∧
    (leavePort r pr f s).hp = s.hp ∧ (leavePort r pr f s).dir = s.dir ∧ (leavePort r pr f s).set = s.set ∧ (leavePort
    r pr f s).upd = s.upd ∧ (leavePort r pr f s).port = s.port ∧ (leavePort r pr f s).chk = s.chk ∧ (leavePort r pr f
    s).store = s.store ∧ (leavePort r pr f s).free = s.free ∧ (leavePort r pr f s).eth = s.eth ∧ (leavePort r pr f
    s).test = s.test ∧ (leavePort r pr f s).wk = s.wk ∧ (leavePort r pr f s).tk = s.tk ∧ (leavePort r pr f s).pwr =
    s.pwr ∧ (leavePort r pr f s).pending = s.pending ∧ (leavePort r pr f s).fuse = s.fuse ∧ (leavePort r pr f s).setAt
    = s.setAt := by
  generalize h : leavePort r pr f s = t
  unfold leavePort at h
  (try dsimp only at h)
  (repeat' split at h) <;> subst h <;> simp

/-- `sendOn` changes nothing but ring. -/
@[simp] theorem sendOn_frame (r : Ring) (pr : Pair) (cut : Bool) (f : Frame) (s : State) :
    (sendOn r pr cut f s).tb = s.tb ∧ (sendOn r pr cut f s).tg = s.tg ∧ (sendOn r pr cut f s).wp = s.wp ∧ (sendOn r pr
    cut f s).door = s.door ∧ (sendOn r pr cut f s).crown = s.crown ∧ (sendOn r pr cut f s).pl = s.pl ∧ (sendOn r pr
    cut f s).px = s.px ∧ (sendOn r pr cut f s).keep = s.keep ∧ (sendOn r pr cut f s).clk = s.clk ∧ (sendOn r pr cut f
    s).lane = s.lane ∧ (sendOn r pr cut f s).eng = s.eng ∧ (sendOn r pr cut f s).st = s.st ∧ (sendOn r pr cut f
    s).bank = s.bank ∧ (sendOn r pr cut f s).ret = s.ret ∧ (sendOn r pr cut f s).glb = s.glb ∧ (sendOn r pr cut f
    s).cyc = s.cyc ∧ (sendOn r pr cut f s).vote = s.vote ∧ (sendOn r pr cut f s).vin = s.vin ∧ (sendOn r pr cut f
    s).comb = s.comb ∧ (sendOn r pr cut f s).evr = s.evr ∧ (sendOn r pr cut f s).rst = s.rst ∧ (sendOn r pr cut f
    s).opt = s.opt ∧ (sendOn r pr cut f s).hp = s.hp ∧ (sendOn r pr cut f s).dir = s.dir ∧ (sendOn r pr cut f s).set =
    s.set ∧ (sendOn r pr cut f s).upd = s.upd ∧ (sendOn r pr cut f s).port = s.port ∧ (sendOn r pr cut f s).chk =
    s.chk ∧ (sendOn r pr cut f s).store = s.store ∧ (sendOn r pr cut f s).free = s.free ∧ (sendOn r pr cut f s).eth =
    s.eth ∧ (sendOn r pr cut f s).test = s.test ∧ (sendOn r pr cut f s).wk = s.wk ∧ (sendOn r pr cut f s).tk = s.tk ∧
    (sendOn r pr cut f s).pwr = s.pwr ∧ (sendOn r pr cut f s).pending = s.pending ∧ (sendOn r pr cut f s).fuse =
    s.fuse ∧ (sendOn r pr cut f s).setAt = s.setAt := by
  generalize h : sendOn r pr cut f s = t
  unfold sendOn at h
  (try dsimp only at h)
  (repeat' split at h) <;> subst h <;> simp

/-- `endClaim` changes nothing but ring, comb, evr. -/
@[simp] theorem endClaim_frame (r : Ring) (x : ClaimState) (s : State) :
    (endClaim r x s).tb = s.tb ∧ (endClaim r x s).tg = s.tg ∧ (endClaim r x s).wp = s.wp ∧ (endClaim r x s).door =
    s.door ∧ (endClaim r x s).crown = s.crown ∧ (endClaim r x s).pl = s.pl ∧ (endClaim r x s).px = s.px ∧ (endClaim r
    x s).keep = s.keep ∧ (endClaim r x s).clk = s.clk ∧ (endClaim r x s).lane = s.lane ∧ (endClaim r x s).eng = s.eng
    ∧ (endClaim r x s).st = s.st ∧ (endClaim r x s).bank = s.bank ∧ (endClaim r x s).ret = s.ret ∧ (endClaim r x
    s).glb = s.glb ∧ (endClaim r x s).cyc = s.cyc ∧ (endClaim r x s).vote = s.vote ∧ (endClaim r x s).vin = s.vin ∧
    (endClaim r x s).rst = s.rst ∧ (endClaim r x s).opt = s.opt ∧ (endClaim r x s).hp = s.hp ∧ (endClaim r x s).dir =
    s.dir ∧ (endClaim r x s).set = s.set ∧ (endClaim r x s).upd = s.upd ∧ (endClaim r x s).port = s.port ∧ (endClaim r
    x s).chk = s.chk ∧ (endClaim r x s).store = s.store ∧ (endClaim r x s).free = s.free ∧ (endClaim r x s).eth =
    s.eth ∧ (endClaim r x s).test = s.test ∧ (endClaim r x s).wk = s.wk ∧ (endClaim r x s).tk = s.tk ∧ (endClaim r x
    s).pwr = s.pwr ∧ (endClaim r x s).pending = s.pending ∧ (endClaim r x s).fuse = s.fuse ∧ (endClaim r x s).setAt =
    s.setAt := by
  generalize h : endClaim r x s = t
  unfold endClaim at h
  (try dsimp only at h)
  (repeat' split at h) <;> subst h <;> simp

/-- `followMismatch` changes nothing but tb, crown, comb, evr. -/
@[simp] theorem followMismatch_frame (cycle : W32) (s : State) :
    (followMismatch cycle s).ring = s.ring ∧ (followMismatch cycle s).tg = s.tg ∧ (followMismatch cycle s).wp = s.wp ∧
    (followMismatch cycle s).door = s.door ∧ (followMismatch cycle s).pl = s.pl ∧ (followMismatch cycle s).px = s.px ∧
    (followMismatch cycle s).keep = s.keep ∧ (followMismatch cycle s).clk = s.clk ∧ (followMismatch cycle s).lane =
    s.lane ∧ (followMismatch cycle s).eng = s.eng ∧ (followMismatch cycle s).st = s.st ∧ (followMismatch cycle s).bank
    = s.bank ∧ (followMismatch cycle s).ret = s.ret ∧ (followMismatch cycle s).glb = s.glb ∧ (followMismatch cycle
    s).cyc = s.cyc ∧ (followMismatch cycle s).vote = s.vote ∧ (followMismatch cycle s).vin = s.vin ∧ (followMismatch
    cycle s).rst = s.rst ∧ (followMismatch cycle s).opt = s.opt ∧ (followMismatch cycle s).hp = s.hp ∧ (followMismatch
    cycle s).dir = s.dir ∧ (followMismatch cycle s).set = s.set ∧ (followMismatch cycle s).upd = s.upd ∧
    (followMismatch cycle s).port = s.port ∧ (followMismatch cycle s).chk = s.chk ∧ (followMismatch cycle s).store =
    s.store ∧ (followMismatch cycle s).free = s.free ∧ (followMismatch cycle s).eth = s.eth ∧ (followMismatch cycle
    s).test = s.test ∧ (followMismatch cycle s).wk = s.wk ∧ (followMismatch cycle s).tk = s.tk ∧ (followMismatch cycle
    s).pwr = s.pwr ∧ (followMismatch cycle s).pending = s.pending ∧ (followMismatch cycle s).fuse = s.fuse ∧
    (followMismatch cycle s).setAt = s.setAt := by
  generalize h : followMismatch cycle s = t
  unfold followMismatch at h
  (try dsimp only at h)
  (repeat' split at h) <;> subst h <;> simp

/-- `countUncompared` changes nothing but tb, crown, comb, evr. -/
@[simp] theorem countUncompared_frame (cycle : W32) (s : State) :
    (countUncompared cycle s).ring = s.ring ∧ (countUncompared cycle s).tg = s.tg ∧ (countUncompared cycle s).wp =
    s.wp ∧ (countUncompared cycle s).door = s.door ∧ (countUncompared cycle s).pl = s.pl ∧ (countUncompared cycle
    s).px = s.px ∧ (countUncompared cycle s).keep = s.keep ∧ (countUncompared cycle s).clk = s.clk ∧ (countUncompared
    cycle s).lane = s.lane ∧ (countUncompared cycle s).eng = s.eng ∧ (countUncompared cycle s).st = s.st ∧
    (countUncompared cycle s).bank = s.bank ∧ (countUncompared cycle s).ret = s.ret ∧ (countUncompared cycle s).glb =
    s.glb ∧ (countUncompared cycle s).cyc = s.cyc ∧ (countUncompared cycle s).vote = s.vote ∧ (countUncompared cycle
    s).vin = s.vin ∧ (countUncompared cycle s).rst = s.rst ∧ (countUncompared cycle s).opt = s.opt ∧ (countUncompared
    cycle s).hp = s.hp ∧ (countUncompared cycle s).dir = s.dir ∧ (countUncompared cycle s).set = s.set ∧
    (countUncompared cycle s).upd = s.upd ∧ (countUncompared cycle s).port = s.port ∧ (countUncompared cycle s).chk =
    s.chk ∧ (countUncompared cycle s).store = s.store ∧ (countUncompared cycle s).free = s.free ∧ (countUncompared
    cycle s).eth = s.eth ∧ (countUncompared cycle s).test = s.test ∧ (countUncompared cycle s).wk = s.wk ∧
    (countUncompared cycle s).tk = s.tk ∧ (countUncompared cycle s).pwr = s.pwr ∧ (countUncompared cycle s).pending =
    s.pending ∧ (countUncompared cycle s).fuse = s.fuse ∧ (countUncompared cycle s).setAt = s.setAt := by
  generalize h : countUncompared cycle s = t
  unfold countUncompared at h
  (try dsimp only at h)
  (repeat' split at h) <;> subst h <;> simp

/-- `cancelled` changes nothing but px, vote, comb, evr. -/
@[simp] theorem cancelled_frame (reason : Nat) (s : State) :
    (cancelled reason s).ring = s.ring ∧ (cancelled reason s).tb = s.tb ∧ (cancelled reason s).tg = s.tg ∧ (cancelled
    reason s).wp = s.wp ∧ (cancelled reason s).door = s.door ∧ (cancelled reason s).crown = s.crown ∧ (cancelled
    reason s).pl = s.pl ∧ (cancelled reason s).keep = s.keep ∧ (cancelled reason s).clk = s.clk ∧ (cancelled reason
    s).lane = s.lane ∧ (cancelled reason s).eng = s.eng ∧ (cancelled reason s).st = s.st ∧ (cancelled reason s).bank =
    s.bank ∧ (cancelled reason s).ret = s.ret ∧ (cancelled reason s).glb = s.glb ∧ (cancelled reason s).cyc = s.cyc ∧
    (cancelled reason s).vin = s.vin ∧ (cancelled reason s).rst = s.rst ∧ (cancelled reason s).opt = s.opt ∧
    (cancelled reason s).hp = s.hp ∧ (cancelled reason s).dir = s.dir ∧ (cancelled reason s).set = s.set ∧ (cancelled
    reason s).upd = s.upd ∧ (cancelled reason s).port = s.port ∧ (cancelled reason s).chk = s.chk ∧ (cancelled reason
    s).store = s.store ∧ (cancelled reason s).free = s.free ∧ (cancelled reason s).eth = s.eth ∧ (cancelled reason
    s).test = s.test ∧ (cancelled reason s).wk = s.wk ∧ (cancelled reason s).tk = s.tk ∧ (cancelled reason s).pwr =
    s.pwr ∧ (cancelled reason s).pending = s.pending ∧ (cancelled reason s).fuse = s.fuse ∧ (cancelled reason s).setAt
    = s.setAt := by
  generalize h : cancelled reason s = t
  unfold cancelled at h
  (try dsimp only at h)
  (repeat' split at h) <;> subst h <;> simp

/-- `offerHandover` changes nothing but crown, pl. -/
@[simp] theorem offerHandover_frame (why : OfferWhy) (s : State) :
    (offerHandover why s).ring = s.ring ∧ (offerHandover why s).tb = s.tb ∧ (offerHandover why s).tg = s.tg ∧
    (offerHandover why s).wp = s.wp ∧ (offerHandover why s).door = s.door ∧ (offerHandover why s).px = s.px ∧
    (offerHandover why s).keep = s.keep ∧ (offerHandover why s).clk = s.clk ∧ (offerHandover why s).lane = s.lane ∧
    (offerHandover why s).eng = s.eng ∧ (offerHandover why s).st = s.st ∧ (offerHandover why s).bank = s.bank ∧
    (offerHandover why s).ret = s.ret ∧ (offerHandover why s).glb = s.glb ∧ (offerHandover why s).cyc = s.cyc ∧
    (offerHandover why s).vote = s.vote ∧ (offerHandover why s).vin = s.vin ∧ (offerHandover why s).comb = s.comb ∧
    (offerHandover why s).evr = s.evr ∧ (offerHandover why s).rst = s.rst ∧ (offerHandover why s).opt = s.opt ∧
    (offerHandover why s).hp = s.hp ∧ (offerHandover why s).dir = s.dir ∧ (offerHandover why s).set = s.set ∧
    (offerHandover why s).upd = s.upd ∧ (offerHandover why s).port = s.port ∧ (offerHandover why s).chk = s.chk ∧
    (offerHandover why s).store = s.store ∧ (offerHandover why s).free = s.free ∧ (offerHandover why s).eth = s.eth ∧
    (offerHandover why s).test = s.test ∧ (offerHandover why s).wk = s.wk ∧ (offerHandover why s).tk = s.tk ∧
    (offerHandover why s).pwr = s.pwr ∧ (offerHandover why s).pending = s.pending ∧ (offerHandover why s).fuse =
    s.fuse ∧ (offerHandover why s).setAt = s.setAt := by
  generalize h : offerHandover why s = t
  unfold offerHandover at h
  (try dsimp only at h)
  (repeat' split at h) <;> subst h <;> simp

/-- `freeze` changes nothing but crown, cyc, comb, evr. -/
@[simp] theorem freeze_frame (s : State) :
    (freeze s).ring = s.ring ∧ (freeze s).tb = s.tb ∧ (freeze s).tg = s.tg ∧ (freeze s).wp = s.wp ∧ (freeze s).door =
    s.door ∧ (freeze s).pl = s.pl ∧ (freeze s).px = s.px ∧ (freeze s).keep = s.keep ∧ (freeze s).clk = s.clk ∧ (freeze
    s).lane = s.lane ∧ (freeze s).eng = s.eng ∧ (freeze s).st = s.st ∧ (freeze s).bank = s.bank ∧ (freeze s).ret =
    s.ret ∧ (freeze s).glb = s.glb ∧ (freeze s).vote = s.vote ∧ (freeze s).vin = s.vin ∧ (freeze s).rst = s.rst ∧
    (freeze s).opt = s.opt ∧ (freeze s).hp = s.hp ∧ (freeze s).dir = s.dir ∧ (freeze s).set = s.set ∧ (freeze s).upd =
    s.upd ∧ (freeze s).port = s.port ∧ (freeze s).chk = s.chk ∧ (freeze s).store = s.store ∧ (freeze s).free = s.free
    ∧ (freeze s).eth = s.eth ∧ (freeze s).test = s.test ∧ (freeze s).wk = s.wk ∧ (freeze s).tk = s.tk ∧ (freeze s).pwr
    = s.pwr ∧ (freeze s).pending = s.pending ∧ (freeze s).fuse = s.fuse ∧ (freeze s).setAt = s.setAt := by
  generalize h : freeze s = t
  unfold freeze at h
  (try dsimp only at h)
  (repeat' split at h) <;> subst h <;> simp

/-- `voteReset` changes nothing but tb, tg, keep, lane, eng, st, bank, vin, comb, evr, port. -/
@[simp] theorem voteReset_frame (l : Lane) (s : State) :
    (voteReset l s).ring = s.ring ∧ (voteReset l s).wp = s.wp ∧ (voteReset l s).door = s.door ∧ (voteReset l s).crown
    = s.crown ∧ (voteReset l s).pl = s.pl ∧ (voteReset l s).px = s.px ∧ (voteReset l s).clk = s.clk ∧ (voteReset l
    s).ret = s.ret ∧ (voteReset l s).glb = s.glb ∧ (voteReset l s).cyc = s.cyc ∧ (voteReset l s).vote = s.vote ∧
    (voteReset l s).rst = s.rst ∧ (voteReset l s).opt = s.opt ∧ (voteReset l s).hp = s.hp ∧ (voteReset l s).dir =
    s.dir ∧ (voteReset l s).set = s.set ∧ (voteReset l s).upd = s.upd ∧ (voteReset l s).chk = s.chk ∧ (voteReset l
    s).store = s.store ∧ (voteReset l s).free = s.free ∧ (voteReset l s).eth = s.eth ∧ (voteReset l s).test = s.test ∧
    (voteReset l s).wk = s.wk ∧ (voteReset l s).tk = s.tk ∧ (voteReset l s).pwr = s.pwr ∧ (voteReset l s).pending =
    s.pending ∧ (voteReset l s).fuse = s.fuse ∧ (voteReset l s).setAt = s.setAt := by
  generalize h : voteReset l s = t
  unfold voteReset at h
  (try dsimp only at h)
  (repeat' split at h) <;> subst h <;> simp

/-- `endTest` changes nothing but comb, evr, test. -/
@[simp] theorem endTest_frame (kind : Nat) (es : List (W32 × W32)) (s : State) :
    (endTest kind es s).ring = s.ring ∧ (endTest kind es s).tb = s.tb ∧ (endTest kind es s).tg = s.tg ∧ (endTest kind
    es s).wp = s.wp ∧ (endTest kind es s).door = s.door ∧ (endTest kind es s).crown = s.crown ∧ (endTest kind es s).pl
    = s.pl ∧ (endTest kind es s).px = s.px ∧ (endTest kind es s).keep = s.keep ∧ (endTest kind es s).clk = s.clk ∧
    (endTest kind es s).lane = s.lane ∧ (endTest kind es s).eng = s.eng ∧ (endTest kind es s).st = s.st ∧ (endTest
    kind es s).bank = s.bank ∧ (endTest kind es s).ret = s.ret ∧ (endTest kind es s).glb = s.glb ∧ (endTest kind es
    s).cyc = s.cyc ∧ (endTest kind es s).vote = s.vote ∧ (endTest kind es s).vin = s.vin ∧ (endTest kind es s).rst =
    s.rst ∧ (endTest kind es s).opt = s.opt ∧ (endTest kind es s).hp = s.hp ∧ (endTest kind es s).dir = s.dir ∧
    (endTest kind es s).set = s.set ∧ (endTest kind es s).upd = s.upd ∧ (endTest kind es s).port = s.port ∧ (endTest
    kind es s).chk = s.chk ∧ (endTest kind es s).store = s.store ∧ (endTest kind es s).free = s.free ∧ (endTest kind
    es s).eth = s.eth ∧ (endTest kind es s).wk = s.wk ∧ (endTest kind es s).tk = s.tk ∧ (endTest kind es s).pwr =
    s.pwr ∧ (endTest kind es s).pending = s.pending ∧ (endTest kind es s).fuse = s.fuse ∧ (endTest kind es s).setAt =
    s.setAt := by
  generalize h : endTest kind es s = t
  unfold endTest at h
  (try dsimp only at h)
  (repeat' split at h) <;> subst h <;> simp

/-- `safeOptions` changes nothing but keep, evr, rst, opt. -/
@[simp] theorem safeOptions_frame (why bad : Nat) (s : State) :
    (safeOptions why bad s).ring = s.ring ∧ (safeOptions why bad s).tb = s.tb ∧ (safeOptions why bad s).tg = s.tg ∧
    (safeOptions why bad s).wp = s.wp ∧ (safeOptions why bad s).door = s.door ∧ (safeOptions why bad s).crown =
    s.crown ∧ (safeOptions why bad s).pl = s.pl ∧ (safeOptions why bad s).px = s.px ∧ (safeOptions why bad s).clk =
    s.clk ∧ (safeOptions why bad s).lane = s.lane ∧ (safeOptions why bad s).eng = s.eng ∧ (safeOptions why bad s).st =
    s.st ∧ (safeOptions why bad s).bank = s.bank ∧ (safeOptions why bad s).ret = s.ret ∧ (safeOptions why bad s).glb =
    s.glb ∧ (safeOptions why bad s).cyc = s.cyc ∧ (safeOptions why bad s).vote = s.vote ∧ (safeOptions why bad s).vin
    = s.vin ∧ (safeOptions why bad s).comb = s.comb ∧ (safeOptions why bad s).hp = s.hp ∧ (safeOptions why bad s).dir
    = s.dir ∧ (safeOptions why bad s).set = s.set ∧ (safeOptions why bad s).upd = s.upd ∧ (safeOptions why bad s).port
    = s.port ∧ (safeOptions why bad s).chk = s.chk ∧ (safeOptions why bad s).store = s.store ∧ (safeOptions why bad
    s).free = s.free ∧ (safeOptions why bad s).eth = s.eth ∧ (safeOptions why bad s).test = s.test ∧ (safeOptions why
    bad s).wk = s.wk ∧ (safeOptions why bad s).tk = s.tk ∧ (safeOptions why bad s).pwr = s.pwr ∧ (safeOptions why bad
    s).pending = s.pending ∧ (safeOptions why bad s).fuse = s.fuse ∧ (safeOptions why bad s).setAt = s.setAt := by
  generalize h : safeOptions why bad s = t
  unfold safeOptions at h
  (try dsimp only at h)
  (repeat' split at h) <;> subst h <;> simp

/-- `noteBadCopies` changes nothing but comb, evr. -/
@[simp] theorem noteBadCopies_frame (bad : Nat) (s : State) :
    (noteBadCopies bad s).ring = s.ring ∧ (noteBadCopies bad s).tb = s.tb ∧ (noteBadCopies bad s).tg = s.tg ∧
    (noteBadCopies bad s).wp = s.wp ∧ (noteBadCopies bad s).door = s.door ∧ (noteBadCopies bad s).crown = s.crown ∧
    (noteBadCopies bad s).pl = s.pl ∧ (noteBadCopies bad s).px = s.px ∧ (noteBadCopies bad s).keep = s.keep ∧
    (noteBadCopies bad s).clk = s.clk ∧ (noteBadCopies bad s).lane = s.lane ∧ (noteBadCopies bad s).eng = s.eng ∧
    (noteBadCopies bad s).st = s.st ∧ (noteBadCopies bad s).bank = s.bank ∧ (noteBadCopies bad s).ret = s.ret ∧
    (noteBadCopies bad s).glb = s.glb ∧ (noteBadCopies bad s).cyc = s.cyc ∧ (noteBadCopies bad s).vote = s.vote ∧
    (noteBadCopies bad s).vin = s.vin ∧ (noteBadCopies bad s).rst = s.rst ∧ (noteBadCopies bad s).opt = s.opt ∧
    (noteBadCopies bad s).hp = s.hp ∧ (noteBadCopies bad s).dir = s.dir ∧ (noteBadCopies bad s).set = s.set ∧
    (noteBadCopies bad s).upd = s.upd ∧ (noteBadCopies bad s).port = s.port ∧ (noteBadCopies bad s).chk = s.chk ∧
    (noteBadCopies bad s).store = s.store ∧ (noteBadCopies bad s).free = s.free ∧ (noteBadCopies bad s).eth = s.eth ∧
    (noteBadCopies bad s).test = s.test ∧ (noteBadCopies bad s).wk = s.wk ∧ (noteBadCopies bad s).tk = s.tk ∧
    (noteBadCopies bad s).pwr = s.pwr ∧ (noteBadCopies bad s).pending = s.pending ∧ (noteBadCopies bad s).fuse =
    s.fuse ∧ (noteBadCopies bad s).setAt = s.setAt := by
  generalize h : noteBadCopies bad s = t
  unfold noteBadCopies at h
  (try dsimp only at h)
  (repeat' split at h) <;> subst h <;> simp

/-- `useOptions` changes nothing but keep, opt. -/
@[simp] theorem useOptions_frame (n bad other : Nat) (b : List Byte) (s : State) :
    (useOptions n bad other b s).ring = s.ring ∧ (useOptions n bad other b s).tb = s.tb ∧ (useOptions n bad other b
    s).tg = s.tg ∧ (useOptions n bad other b s).wp = s.wp ∧ (useOptions n bad other b s).door = s.door ∧ (useOptions n
    bad other b s).crown = s.crown ∧ (useOptions n bad other b s).pl = s.pl ∧ (useOptions n bad other b s).px = s.px ∧
    (useOptions n bad other b s).clk = s.clk ∧ (useOptions n bad other b s).lane = s.lane ∧ (useOptions n bad other b
    s).eng = s.eng ∧ (useOptions n bad other b s).st = s.st ∧ (useOptions n bad other b s).bank = s.bank ∧ (useOptions
    n bad other b s).ret = s.ret ∧ (useOptions n bad other b s).glb = s.glb ∧ (useOptions n bad other b s).cyc = s.cyc
    ∧ (useOptions n bad other b s).vote = s.vote ∧ (useOptions n bad other b s).vin = s.vin ∧ (useOptions n bad other
    b s).comb = s.comb ∧ (useOptions n bad other b s).evr = s.evr ∧ (useOptions n bad other b s).rst = s.rst ∧
    (useOptions n bad other b s).hp = s.hp ∧ (useOptions n bad other b s).dir = s.dir ∧ (useOptions n bad other b
    s).set = s.set ∧ (useOptions n bad other b s).upd = s.upd ∧ (useOptions n bad other b s).port = s.port ∧
    (useOptions n bad other b s).chk = s.chk ∧ (useOptions n bad other b s).store = s.store ∧ (useOptions n bad other
    b s).free = s.free ∧ (useOptions n bad other b s).eth = s.eth ∧ (useOptions n bad other b s).test = s.test ∧
    (useOptions n bad other b s).wk = s.wk ∧ (useOptions n bad other b s).tk = s.tk ∧ (useOptions n bad other b s).pwr
    = s.pwr ∧ (useOptions n bad other b s).pending = s.pending ∧ (useOptions n bad other b s).fuse = s.fuse ∧
    (useOptions n bad other b s).setAt = s.setAt := by
  generalize h : useOptions n bad other b s = t
  unfold useOptions at h
  (try dsimp only at h)
  (repeat' split at h) <;> subst h <;> simp

/-- `enterRecovery` changes nothing but keep, rst, eth. -/
@[simp] theorem enterRecovery_frame (reason : Nat) (s : State) :
    (enterRecovery reason s).ring = s.ring ∧ (enterRecovery reason s).tb = s.tb ∧ (enterRecovery reason s).tg = s.tg ∧
    (enterRecovery reason s).wp = s.wp ∧ (enterRecovery reason s).door = s.door ∧ (enterRecovery reason s).crown =
    s.crown ∧ (enterRecovery reason s).pl = s.pl ∧ (enterRecovery reason s).px = s.px ∧ (enterRecovery reason s).clk =
    s.clk ∧ (enterRecovery reason s).lane = s.lane ∧ (enterRecovery reason s).eng = s.eng ∧ (enterRecovery reason
    s).st = s.st ∧ (enterRecovery reason s).bank = s.bank ∧ (enterRecovery reason s).ret = s.ret ∧ (enterRecovery
    reason s).glb = s.glb ∧ (enterRecovery reason s).cyc = s.cyc ∧ (enterRecovery reason s).vote = s.vote ∧
    (enterRecovery reason s).vin = s.vin ∧ (enterRecovery reason s).comb = s.comb ∧ (enterRecovery reason s).evr =
    s.evr ∧ (enterRecovery reason s).opt = s.opt ∧ (enterRecovery reason s).hp = s.hp ∧ (enterRecovery reason s).dir =
    s.dir ∧ (enterRecovery reason s).set = s.set ∧ (enterRecovery reason s).upd = s.upd ∧ (enterRecovery reason
    s).port = s.port ∧ (enterRecovery reason s).chk = s.chk ∧ (enterRecovery reason s).store = s.store ∧
    (enterRecovery reason s).free = s.free ∧ (enterRecovery reason s).test = s.test ∧ (enterRecovery reason s).wk =
    s.wk ∧ (enterRecovery reason s).tk = s.tk ∧ (enterRecovery reason s).pwr = s.pwr ∧ (enterRecovery reason
    s).pending = s.pending ∧ (enterRecovery reason s).fuse = s.fuse ∧ (enterRecovery reason s).setAt = s.setAt := by
  generalize h : enterRecovery reason s = t
  unfold enterRecovery at h
  (try dsimp only at h)
  (repeat' split at h) <;> subst h <;> simp

/-- `storeErase` changes nothing but store. -/
@[simp] theorem storeErase_frame (a n : Nat) (s : State) :
    (storeErase a n s).ring = s.ring ∧ (storeErase a n s).tb = s.tb ∧ (storeErase a n s).tg = s.tg ∧ (storeErase a n
    s).wp = s.wp ∧ (storeErase a n s).door = s.door ∧ (storeErase a n s).crown = s.crown ∧ (storeErase a n s).pl =
    s.pl ∧ (storeErase a n s).px = s.px ∧ (storeErase a n s).keep = s.keep ∧ (storeErase a n s).clk = s.clk ∧
    (storeErase a n s).lane = s.lane ∧ (storeErase a n s).eng = s.eng ∧ (storeErase a n s).st = s.st ∧ (storeErase a n
    s).bank = s.bank ∧ (storeErase a n s).ret = s.ret ∧ (storeErase a n s).glb = s.glb ∧ (storeErase a n s).cyc =
    s.cyc ∧ (storeErase a n s).vote = s.vote ∧ (storeErase a n s).vin = s.vin ∧ (storeErase a n s).comb = s.comb ∧
    (storeErase a n s).evr = s.evr ∧ (storeErase a n s).rst = s.rst ∧ (storeErase a n s).opt = s.opt ∧ (storeErase a n
    s).hp = s.hp ∧ (storeErase a n s).dir = s.dir ∧ (storeErase a n s).set = s.set ∧ (storeErase a n s).upd = s.upd ∧
    (storeErase a n s).port = s.port ∧ (storeErase a n s).chk = s.chk ∧ (storeErase a n s).free = s.free ∧ (storeErase
    a n s).eth = s.eth ∧ (storeErase a n s).test = s.test ∧ (storeErase a n s).wk = s.wk ∧ (storeErase a n s).tk =
    s.tk ∧ (storeErase a n s).pwr = s.pwr ∧ (storeErase a n s).pending = s.pending ∧ (storeErase a n s).fuse = s.fuse
    ∧ (storeErase a n s).setAt = s.setAt := by
  generalize h : storeErase a n s = t
  unfold storeErase at h
  (try dsimp only at h)
  (repeat' split at h) <;> subst h <;> simp

/-- `storeProgram` changes nothing but store. -/
@[simp] theorem storeProgram_frame (a n : Nat) (b : List Byte) (s : State) :
    (storeProgram a n b s).ring = s.ring ∧ (storeProgram a n b s).tb = s.tb ∧ (storeProgram a n b s).tg = s.tg ∧
    (storeProgram a n b s).wp = s.wp ∧ (storeProgram a n b s).door = s.door ∧ (storeProgram a n b s).crown = s.crown ∧
    (storeProgram a n b s).pl = s.pl ∧ (storeProgram a n b s).px = s.px ∧ (storeProgram a n b s).keep = s.keep ∧
    (storeProgram a n b s).clk = s.clk ∧ (storeProgram a n b s).lane = s.lane ∧ (storeProgram a n b s).eng = s.eng ∧
    (storeProgram a n b s).st = s.st ∧ (storeProgram a n b s).bank = s.bank ∧ (storeProgram a n b s).ret = s.ret ∧
    (storeProgram a n b s).glb = s.glb ∧ (storeProgram a n b s).cyc = s.cyc ∧ (storeProgram a n b s).vote = s.vote ∧
    (storeProgram a n b s).vin = s.vin ∧ (storeProgram a n b s).comb = s.comb ∧ (storeProgram a n b s).evr = s.evr ∧
    (storeProgram a n b s).rst = s.rst ∧ (storeProgram a n b s).opt = s.opt ∧ (storeProgram a n b s).hp = s.hp ∧
    (storeProgram a n b s).dir = s.dir ∧ (storeProgram a n b s).set = s.set ∧ (storeProgram a n b s).upd = s.upd ∧
    (storeProgram a n b s).port = s.port ∧ (storeProgram a n b s).chk = s.chk ∧ (storeProgram a n b s).free = s.free ∧
    (storeProgram a n b s).eth = s.eth ∧ (storeProgram a n b s).test = s.test ∧ (storeProgram a n b s).wk = s.wk ∧
    (storeProgram a n b s).tk = s.tk ∧ (storeProgram a n b s).pwr = s.pwr ∧ (storeProgram a n b s).pending = s.pending
    ∧ (storeProgram a n b s).fuse = s.fuse ∧ (storeProgram a n b s).setAt = s.setAt := by
  generalize h : storeProgram a n b s = t
  unfold storeProgram at h
  (try dsimp only at h)
  (repeat' split at h) <;> subst h <;> simp

/-- `writeSettings` changes nothing but store. -/
@[simp] theorem writeSettings_frame (n : Nat) (b : List Byte) (s : State) :
    (writeSettings n b s).ring = s.ring ∧ (writeSettings n b s).tb = s.tb ∧ (writeSettings n b s).tg = s.tg ∧
    (writeSettings n b s).wp = s.wp ∧ (writeSettings n b s).door = s.door ∧ (writeSettings n b s).crown = s.crown ∧
    (writeSettings n b s).pl = s.pl ∧ (writeSettings n b s).px = s.px ∧ (writeSettings n b s).keep = s.keep ∧
    (writeSettings n b s).clk = s.clk ∧ (writeSettings n b s).lane = s.lane ∧ (writeSettings n b s).eng = s.eng ∧
    (writeSettings n b s).st = s.st ∧ (writeSettings n b s).bank = s.bank ∧ (writeSettings n b s).ret = s.ret ∧
    (writeSettings n b s).glb = s.glb ∧ (writeSettings n b s).cyc = s.cyc ∧ (writeSettings n b s).vote = s.vote ∧
    (writeSettings n b s).vin = s.vin ∧ (writeSettings n b s).comb = s.comb ∧ (writeSettings n b s).evr = s.evr ∧
    (writeSettings n b s).rst = s.rst ∧ (writeSettings n b s).opt = s.opt ∧ (writeSettings n b s).hp = s.hp ∧
    (writeSettings n b s).dir = s.dir ∧ (writeSettings n b s).set = s.set ∧ (writeSettings n b s).upd = s.upd ∧
    (writeSettings n b s).port = s.port ∧ (writeSettings n b s).chk = s.chk ∧ (writeSettings n b s).free = s.free ∧
    (writeSettings n b s).eth = s.eth ∧ (writeSettings n b s).test = s.test ∧ (writeSettings n b s).wk = s.wk ∧
    (writeSettings n b s).tk = s.tk ∧ (writeSettings n b s).pwr = s.pwr ∧ (writeSettings n b s).pending = s.pending ∧
    (writeSettings n b s).fuse = s.fuse ∧ (writeSettings n b s).setAt = s.setAt := by
  generalize h : writeSettings n b s = t
  unfold writeSettings at h
  (try dsimp only at h)
  (repeat' split at h) <;> subst h <;> simp

/-- `notePass` changes nothing but comb, wk. -/
@[simp] theorem notePass_frame (task interval : Nat) (s : State) :
    (notePass task interval s).ring = s.ring ∧ (notePass task interval s).tb = s.tb ∧ (notePass task interval s).tg =
    s.tg ∧ (notePass task interval s).wp = s.wp ∧ (notePass task interval s).door = s.door ∧ (notePass task interval
    s).crown = s.crown ∧ (notePass task interval s).pl = s.pl ∧ (notePass task interval s).px = s.px ∧ (notePass task
    interval s).keep = s.keep ∧ (notePass task interval s).clk = s.clk ∧ (notePass task interval s).lane = s.lane ∧
    (notePass task interval s).eng = s.eng ∧ (notePass task interval s).st = s.st ∧ (notePass task interval s).bank =
    s.bank ∧ (notePass task interval s).ret = s.ret ∧ (notePass task interval s).glb = s.glb ∧ (notePass task interval
    s).cyc = s.cyc ∧ (notePass task interval s).vote = s.vote ∧ (notePass task interval s).vin = s.vin ∧ (notePass
    task interval s).evr = s.evr ∧ (notePass task interval s).rst = s.rst ∧ (notePass task interval s).opt = s.opt ∧
    (notePass task interval s).hp = s.hp ∧ (notePass task interval s).dir = s.dir ∧ (notePass task interval s).set =
    s.set ∧ (notePass task interval s).upd = s.upd ∧ (notePass task interval s).port = s.port ∧ (notePass task
    interval s).chk = s.chk ∧ (notePass task interval s).store = s.store ∧ (notePass task interval s).free = s.free ∧
    (notePass task interval s).eth = s.eth ∧ (notePass task interval s).test = s.test ∧ (notePass task interval s).tk
    = s.tk ∧ (notePass task interval s).pwr = s.pwr ∧ (notePass task interval s).pending = s.pending ∧ (notePass task
    interval s).fuse = s.fuse ∧ (notePass task interval s).setAt = s.setAt := by
  generalize h : notePass task interval s = t
  unfold notePass at h
  (try dsimp only at h)
  (repeat' split at h) <;> subst h <;> simp

/-- `setCalendar` changes nothing but clk, comb, evr, tk. -/
@[simp] theorem setCalendar_frame (setter new : Nat) (s : State) :
    (setCalendar setter new s).ring = s.ring ∧ (setCalendar setter new s).tb = s.tb ∧ (setCalendar setter new s).tg =
    s.tg ∧ (setCalendar setter new s).wp = s.wp ∧ (setCalendar setter new s).door = s.door ∧ (setCalendar setter new
    s).crown = s.crown ∧ (setCalendar setter new s).pl = s.pl ∧ (setCalendar setter new s).px = s.px ∧ (setCalendar
    setter new s).keep = s.keep ∧ (setCalendar setter new s).lane = s.lane ∧ (setCalendar setter new s).eng = s.eng ∧
    (setCalendar setter new s).st = s.st ∧ (setCalendar setter new s).bank = s.bank ∧ (setCalendar setter new s).ret =
    s.ret ∧ (setCalendar setter new s).glb = s.glb ∧ (setCalendar setter new s).cyc = s.cyc ∧ (setCalendar setter new
    s).vote = s.vote ∧ (setCalendar setter new s).vin = s.vin ∧ (setCalendar setter new s).rst = s.rst ∧ (setCalendar
    setter new s).opt = s.opt ∧ (setCalendar setter new s).hp = s.hp ∧ (setCalendar setter new s).dir = s.dir ∧
    (setCalendar setter new s).set = s.set ∧ (setCalendar setter new s).upd = s.upd ∧ (setCalendar setter new s).port
    = s.port ∧ (setCalendar setter new s).chk = s.chk ∧ (setCalendar setter new s).store = s.store ∧ (setCalendar
    setter new s).free = s.free ∧ (setCalendar setter new s).eth = s.eth ∧ (setCalendar setter new s).test = s.test ∧
    (setCalendar setter new s).wk = s.wk ∧ (setCalendar setter new s).pwr = s.pwr ∧ (setCalendar setter new s).pending
    = s.pending ∧ (setCalendar setter new s).fuse = s.fuse ∧ (setCalendar setter new s).setAt = s.setAt := by
  generalize h : setCalendar setter new s = t
  unfold setCalendar at h
  (try dsimp only at h)
  (repeat' split at h) <;> subst h <;> simp

/-- `writeSource` changes nothing but evr. -/
@[simp] theorem writeSource_frame (f : Source → Source) (s : State) :
    (writeSource f s).ring = s.ring ∧ (writeSource f s).tb = s.tb ∧ (writeSource f s).tg = s.tg ∧ (writeSource f s).wp
    = s.wp ∧ (writeSource f s).door = s.door ∧ (writeSource f s).crown = s.crown ∧ (writeSource f s).pl = s.pl ∧
    (writeSource f s).px = s.px ∧ (writeSource f s).keep = s.keep ∧ (writeSource f s).clk = s.clk ∧ (writeSource f
    s).lane = s.lane ∧ (writeSource f s).eng = s.eng ∧ (writeSource f s).st = s.st ∧ (writeSource f s).bank = s.bank ∧
    (writeSource f s).ret = s.ret ∧ (writeSource f s).glb = s.glb ∧ (writeSource f s).cyc = s.cyc ∧ (writeSource f
    s).vote = s.vote ∧ (writeSource f s).vin = s.vin ∧ (writeSource f s).comb = s.comb ∧ (writeSource f s).rst = s.rst
    ∧ (writeSource f s).opt = s.opt ∧ (writeSource f s).hp = s.hp ∧ (writeSource f s).dir = s.dir ∧ (writeSource f
    s).set = s.set ∧ (writeSource f s).upd = s.upd ∧ (writeSource f s).port = s.port ∧ (writeSource f s).chk = s.chk ∧
    (writeSource f s).store = s.store ∧ (writeSource f s).free = s.free ∧ (writeSource f s).eth = s.eth ∧ (writeSource
    f s).test = s.test ∧ (writeSource f s).wk = s.wk ∧ (writeSource f s).tk = s.tk ∧ (writeSource f s).pwr = s.pwr ∧
    (writeSource f s).pending = s.pending ∧ (writeSource f s).fuse = s.fuse ∧ (writeSource f s).setAt = s.setAt := by
  generalize h : writeSource f s = t
  unfold writeSource at h
  (try dsimp only at h)
  (repeat' split at h) <;> subst h <;> simp

/-- `dropFrame` changes nothing but eth. -/
@[simp] theorem dropFrame_frame (s : State) :
    (dropFrame s).ring = s.ring ∧ (dropFrame s).tb = s.tb ∧ (dropFrame s).tg = s.tg ∧ (dropFrame s).wp = s.wp ∧
    (dropFrame s).door = s.door ∧ (dropFrame s).crown = s.crown ∧ (dropFrame s).pl = s.pl ∧ (dropFrame s).px = s.px ∧
    (dropFrame s).keep = s.keep ∧ (dropFrame s).clk = s.clk ∧ (dropFrame s).lane = s.lane ∧ (dropFrame s).eng = s.eng
    ∧ (dropFrame s).st = s.st ∧ (dropFrame s).bank = s.bank ∧ (dropFrame s).ret = s.ret ∧ (dropFrame s).glb = s.glb ∧
    (dropFrame s).cyc = s.cyc ∧ (dropFrame s).vote = s.vote ∧ (dropFrame s).vin = s.vin ∧ (dropFrame s).comb = s.comb
    ∧ (dropFrame s).evr = s.evr ∧ (dropFrame s).rst = s.rst ∧ (dropFrame s).opt = s.opt ∧ (dropFrame s).hp = s.hp ∧
    (dropFrame s).dir = s.dir ∧ (dropFrame s).set = s.set ∧ (dropFrame s).upd = s.upd ∧ (dropFrame s).port = s.port ∧
    (dropFrame s).chk = s.chk ∧ (dropFrame s).store = s.store ∧ (dropFrame s).free = s.free ∧ (dropFrame s).test =
    s.test ∧ (dropFrame s).wk = s.wk ∧ (dropFrame s).tk = s.tk ∧ (dropFrame s).pwr = s.pwr ∧ (dropFrame s).pending =
    s.pending ∧ (dropFrame s).fuse = s.fuse ∧ (dropFrame s).setAt = s.setAt := by
  generalize h : dropFrame s = t
  unfold dropFrame at h
  (try dsimp only at h)
  (repeat' split at h) <;> subst h <;> simp

/-- `ethSend` changes nothing but eth. -/
@[simp] theorem ethSend_frame (x : EthOut) (s : State) :
    (ethSend x s).ring = s.ring ∧ (ethSend x s).tb = s.tb ∧ (ethSend x s).tg = s.tg ∧ (ethSend x s).wp = s.wp ∧
    (ethSend x s).door = s.door ∧ (ethSend x s).crown = s.crown ∧ (ethSend x s).pl = s.pl ∧ (ethSend x s).px = s.px ∧
    (ethSend x s).keep = s.keep ∧ (ethSend x s).clk = s.clk ∧ (ethSend x s).lane = s.lane ∧ (ethSend x s).eng = s.eng
    ∧ (ethSend x s).st = s.st ∧ (ethSend x s).bank = s.bank ∧ (ethSend x s).ret = s.ret ∧ (ethSend x s).glb = s.glb ∧
    (ethSend x s).cyc = s.cyc ∧ (ethSend x s).vote = s.vote ∧ (ethSend x s).vin = s.vin ∧ (ethSend x s).comb = s.comb
    ∧ (ethSend x s).evr = s.evr ∧ (ethSend x s).rst = s.rst ∧ (ethSend x s).opt = s.opt ∧ (ethSend x s).hp = s.hp ∧
    (ethSend x s).dir = s.dir ∧ (ethSend x s).set = s.set ∧ (ethSend x s).upd = s.upd ∧ (ethSend x s).port = s.port ∧
    (ethSend x s).chk = s.chk ∧ (ethSend x s).store = s.store ∧ (ethSend x s).free = s.free ∧ (ethSend x s).test =
    s.test ∧ (ethSend x s).wk = s.wk ∧ (ethSend x s).tk = s.tk ∧ (ethSend x s).pwr = s.pwr ∧ (ethSend x s).pending =
    s.pending ∧ (ethSend x s).fuse = s.fuse ∧ (ethSend x s).setAt = s.setAt := by
  generalize h : ethSend x s = t
  unfold ethSend at h
  (try dsimp only at h)
  (repeat' split at h) <;> subst h <;> simp

end Sys2Proof.Machine
end

