-- ==== Sys2Proof/Laws/Tab.lean ====
section
/-! SUPPORT. The laws of sparse tables: a read after a write, and that every write keeps the canonical form. -/
namespace Sys2Proof.Machine

variable {α : Type}

theorem kvGet_kvPut (t : List (Nat × α)) (k j : Nat) (v : α) :
    kvGet (kvPut t k v) j = if j = k then some v else kvGet t j := by
  induction t with
  | nil => simp [kvPut, kvGet]
  | cons e t ih =>
    obtain ⟨i, x⟩ := e
    simp only [kvPut]
    split
    · simp [kvGet]
    · split
      · next h => subst h; simp only [kvGet]; split <;> simp_all
      · next h => simp only [kvGet, ih]; split <;> simp_all [eq_comm]

theorem kvGet_kvErase (t : List (Nat × α)) (k j : Nat) :
    kvGet (kvErase t k) j = if j = k then none else kvGet t j := by
  induction t with
  | nil => simp [kvErase, kvGet]
  | cons e t ih =>
    obtain ⟨i, x⟩ := e
    simp only [kvErase]
    split
    · next h => subst h; rw [ih]; simp only [kvGet]; split <;> simp_all
    · next h => simp only [kvGet, ih]; split <;> simp_all [eq_comm]

/-- A read after a write: the value written at its key, what was there before at every other. -/
theorem tabGet_tabSet [DecidableEq α] (d : α) (t : Tab α) (k j : Nat) (v : α) :
    tabGet d (tabSet d t k v) j = if j = k then v else tabGet d t j := by
  unfold tabGet tabSet
  split
  · next h => rw [kvGet_kvErase]; split <;> simp_all
  · rw [kvGet_kvPut]; split <;> simp_all

theorem tabWfFrom_mono [DecidableEq α] (d : α) {lo hi : Nat} (h : lo ≤ hi) (t : Tab α) (w : tabWfFrom d hi t = true) :
    tabWfFrom d lo t = true := by
  cases t with
  | nil => rfl
  | cons e t =>
    simp only [tabWfFrom, Bool.and_eq_true, decide_eq_true_eq] at w ⊢
    exact ⟨⟨Nat.le_trans h w.1.1, w.1.2⟩, w.2⟩

theorem tabWfFrom_kvErase [DecidableEq α] (d : α) (t : Tab α) (lo k : Nat) (w : tabWfFrom d lo t = true) :
    tabWfFrom d lo (kvErase t k) = true := by
  induction t generalizing lo with
  | nil => rfl
  | cons e t ih =>
    obtain ⟨i, x⟩ := e
    simp only [tabWfFrom, Bool.and_eq_true, decide_eq_true_eq] at w
    simp only [kvErase]
    split
    · exact tabWfFrom_mono d (by omega) _ (ih (i + 1) w.2)
    · simp only [tabWfFrom, Bool.and_eq_true, decide_eq_true_eq]; exact ⟨w.1, ih (i + 1) w.2⟩

theorem tabWfFrom_kvPut [DecidableEq α] (d : α) (t : Tab α) (lo k : Nat) (v : α) (hv : v ≠ d) (hk : lo ≤ k)
    (w : tabWfFrom d lo t = true) : tabWfFrom d lo (kvPut t k v) = true := by
  induction t generalizing lo with
  | nil => simp [kvPut, tabWfFrom, hv, hk]
  | cons e t ih =>
    obtain ⟨i, x⟩ := e
    simp only [tabWfFrom, Bool.and_eq_true, decide_eq_true_eq] at w
    simp only [kvPut]
    split
    · simp only [tabWfFrom, Bool.and_eq_true, decide_eq_true_eq]
      exact ⟨⟨hk, hv⟩, ⟨by omega, w.1.2⟩, w.2⟩
    · split
      · next h => subst h; simp only [tabWfFrom, Bool.and_eq_true, decide_eq_true_eq]; exact ⟨⟨hk, hv⟩, w.2⟩
      · simp only [tabWfFrom, Bool.and_eq_true, decide_eq_true_eq]; exact ⟨w.1, ih (i + 1) (by omega) w.2⟩

/-- A write keeps the canonical form. -/
theorem tabSet_wf [DecidableEq α] (d : α) (t : Tab α) (k : Nat) (v : α) (w : tabWf d t = true) :
    tabWf d (tabSet d t k v) = true := by
  unfold tabSet tabWf
  split
  · exact tabWfFrom_kvErase d t 0 k w
  · next h => exact tabWfFrom_kvPut d t 0 k v h (Nat.zero_le k) w

/-- Writing a run of values keeps the canonical form. -/
theorem tabSetList_wf [DecidableEq α] (d : α) (vs : List α) (t : Tab α) (k : Nat) (w : tabWf d t = true) :
    tabWf d (tabSetList d t k vs) = true := by
  induction vs generalizing t k with
  | nil => exact w
  | cons v vs ih => exact ih _ _ (tabSet_wf d t k v w)

theorem tabWfFrom_filter [DecidableEq α] (d : α) (p : Nat → Bool) (t : Tab α) (lo : Nat) (w : tabWfFrom d lo t = true) :
    tabWfFrom d lo (tabFilter p t) = true := by
  induction t generalizing lo with
  | nil => rfl
  | cons e t ih =>
    obtain ⟨i, x⟩ := e
    simp only [tabWfFrom, Bool.and_eq_true, decide_eq_true_eq] at w
    simp only [tabFilter, List.filter_cons]
    split
    · simp only [tabWfFrom, Bool.and_eq_true, decide_eq_true_eq]; exact ⟨w.1, ih (i + 1) w.2⟩
    · exact tabWfFrom_mono d (by omega) _ (ih (i + 1) w.2)

/-- Taking entries out keeps the canonical form. -/
theorem tabFilter_wf [DecidableEq α] (d : α) (p : Nat → Bool) (t : Tab α) (w : tabWf d t = true) :
    tabWf d (tabFilter p t) = true := tabWfFrom_filter d p t 0 w

/-! ### One value per lane and per port -/

@[simp] theorem Tri.at_put (t : Tri α) (l m : Lane) (v : α) : (t.put l v).at m = if m = l then v else t.at m := by
  cases l <;> cases m <;> rfl

@[simp] theorem Tri.at_upd (t : Tri α) (l m : Lane) (f : α → α) : (t.upd l f).at m = if m = l then f (t.at l) else t.at m := by
  cases l <;> cases m <;> rfl

@[simp] theorem Tri.at_map {β : Type} (f : Lane → α → β) (t : Tri α) (l : Lane) : (t.map f).at l = f l (t.at l) := by
  cases l <;> rfl

@[simp] theorem Quad.at_put (q : Quad α) (r p : Fin 4) (v : α) : (q.put r v).at p = if p = r then v else q.at p := by
  revert r p; simp [Fin.forall_fin_succ, Quad.put, Quad.at]

@[simp] theorem Quad.at_upd (q : Quad α) (r p : Fin 4) (f : α → α) : (q.upd r f).at p = if p = r then f (q.at r) else q.at p := by
  simp [Quad.upd]

@[simp] theorem Quad.at_map {β : Type} (f : Ring → α → β) (q : Quad α) (r : Fin 4) : (q.map f).at r = f r (q.at r) := by
  revert r; simp [Fin.forall_fin_succ, Quad.map, Quad.at]

end Sys2Proof.Machine
end

