-- ==== Sys2Proof/Laws/Store.lean ====
section
/-! SUPPORT. The code store: every operation that writes it keeps its canonical form, reset has it, and a read after a write. -/
namespace Sys2Proof.Machine

theorem reset_storeWf : storeWf State.reset = true := rfl

theorem storeWrite_wf (a : Nat) (b : List Byte) (s : State) (h : storeWf s = true) : storeWf (storeWrite a b s) = true :=
  tabSetList_wf 0xFF b s.store a h

theorem storeErase_wf (a n : Nat) (s : State) (h : storeWf s = true) : storeWf (storeErase a n s) = true :=
  tabFilter_wf 0xFF (fun k => decide (k < a) || decide (a + n ≤ k)) s.store h

theorem storeProgram_wf (a n : Nat) (b : List Byte) (s : State) (h : storeWf s = true) :
    storeWf (storeProgram a n b s) = true := storeWrite_wf a b _ (storeErase_wf a n s h)

theorem writeOptions_wf (n : Nat) (b : List Byte) (s : State) (h : storeWf s = true) :
    storeWf (writeOptions n b s) = true := storeProgram_wf _ _ _ s h

theorem writeSettings_wf (n : Nat) (b : List Byte) (s : State) (h : storeWf s = true) :
    storeWf (writeSettings n b s) = true := storeProgram_wf _ _ _ s h

/-- A byte written reads back; every other byte reads as before. -/
theorem storeByte_storeWrite_one (a k : Nat) (b : Byte) (s : State) :
    storeByte (storeWrite a [b] s) k = if k = a then b else storeByte s k := by
  simp [storeByte, storeWrite, tabSetList, tabGet_tabSet]

/-- Bytes below a run that is written read as before. -/
theorem storeByte_storeWrite_below (b : List Byte) (a k : Nat) (s : State) (h : k < a) :
    storeByte (storeWrite a b s) k = storeByte s k := by
  unfold storeByte storeWrite
  dsimp only
  suffices g : ∀ (t : List Host.Cell) (a : Nat), k < a → tabGet 0xFF (tabSetList 0xFF t a b) k = tabGet 0xFF t k from g _ a h
  intro t a h
  induction b generalizing t a with
  | nil => rfl
  | cons v b ih => rw [tabSetList, ih _ _ (by omega), tabGet_tabSet, if_neg (by omega)]

end Sys2Proof.Machine
end

