-- ==== Sys2Proof/Tests/Slice0.lean ====
section
/-! SUPPORT. The model's own tests: one ill-formed command for each check of WellFormed, for each statement with hypotheses
states that meet them, and what single commands do. -/
set_option Elab.async false

namespace Sys2Proof.Tests
open Sys2Proof.Machine

/-! ### Small states -/

/-- The same machine at module time n: ring time and the life clock agree with it. -/
def moment (n : Nat) (s : State) : State :=
  { s with clk := { s.clk with now := n, ring := Tri.all { ns := n }, lifeUs := n / 1000 } }

/-- A lane that votes. -/
def voter : LaneRegs := { state := .voting, ready := true }

/-- Settings: a 40 ms lease, rotation every hour. -/
def someSettings : Settings := { leaseMs := 40, rotHours := 1, profile := 2, k := 4, id := 1 }

/-- READY and SEEKING: three lanes vote, T_prog is 1 ms, the comb runs, the partner link is in sync. -/
def up : State := { State.reset with
  rst := { powered := true, stage := .ready }
  glb := { valid := true, k := 4, profile := 2 }
  lane := Tri.all voter
  vote := { mode := .full, permit := Tri.all true }
  set := { block := some someSettings }
  comb := { state := .running }
  pl := { sync0 := true, sync1 := true }
  crown := { state := .seeking } }

/-- CROWNED with epoch 5. -/
def held : State := { up with crown := { up.crown with state := .crowned, epoch := 5 }, keep := { up.keep with epochKept := 5 } }

/-- IN_STEP with a holder of epoch 5. -/
def follows : State := { up with
  crown := { up.crown with state := .inStep, followed := 5, view := some 40000000 }, keep := { up.keep with epochKept := 5 } }

/-- The instruction word of a verb code, P, SPACE, ADDR and OP2. -/
def wordOf (verb p space addr op2 : Nat) : W64 := BitVec.ofNat 64 (verb * 2 ^ 58 + p * 2 ^ 57 + space * 2 ^ 55 + addr * 2 ^ 32 + op2)

/-- A program of 100 instructions, all END, with ENTRY at 40. -/
def aProgram : Program := { insnCount := 100, wcet := 100000, words := [(40, wordOf 0x35 0 0 0 0)] }

/-- Lane B's engine runs aProgram. -/
def runs : State := { up with
  eng := up.eng.put .b { run := .running, clocks := 4096, cycle := 7 }, bank := up.bank.put .b { bank0 := some aProgram } }

/-- The same with ACC set and a clause open. -/
def runsSet : State := { runs with eng := runs.eng.upd .b (fun e => { e with acc := 0x8000000000000001, clause := [0] }) }

/-- The same inside a subroutine, at its ENTRY. -/
def runsIn : State := { runs with eng := runs.eng.upd .b (fun e => { e with pc := 40, call := [8], viaCall := true }) }

/-- What is left after the life clock's checkpoint. -/
def afterCheckpoint : State := { up with keep := { up.keep with checkpoint := 0 } }

/-- The vote of cycle 7 is due: words 1, 2 and 0xFFF of the three images agree in A and B, nowhere, and in B and C. -/
def voting : State := moment 1968000 { held with
  cyc := { on := true, n := 7, b := 1000000, phase := .voting, atEnd := Tri.all true }
  eng := Tri.all { run := .ended, cycle := 7 }
  st := ⟨{ out := [(1, 9), (2, 1), (0xFFF, 3)] }, { out := [(1, 9), (2, 2)] }, { out := [(1, 8), (2, 3)] }⟩ }

/-- A vote's result. -/
def aVote : VoteRes :=
  { image := [(1, 9)], faultWord := 0, agreed := [(1, 9)], agreedFault := 0, skipped := false, minority := Tri.all false
    split3 := 0, split2 := 0, disWords := 0, disFirst := 0, disLanes := Tri.all false, disSplit := false, digestBad := false }

/-- Ring 1 in use, with one node of address 3; the master at a boundary, its lease running. -/
def onRing : State := moment 1000000 { held with
  ring := held.ring.put 1 { table := [⟨3, 14, 16⟩], released := true }
  crown := { held.crown with tAck := 900000, lease := 40000000 } }

/-- The frame the master of onRing sends, without the values nothing defines. -/
def outFrame : Frame :=
  let x : Sec := { addr := 255, olen := 8, ilen := 40, state := 0, out := List.replicate 8 1, oseq := 4, seals := ⟨0, 0, 0⟩
                   fresh := 6, iseq := 0, inp := List.replicate 40 0, chk1 := 0, chk2 := 0 }
  let h : Hdr := { ftype := 1, flags := 0, secCount := 1, cycle := 7, epoch := 5, ringTime := 1000000, masterId := 1
                   tmRank := 0, tmFlags := 0, beaconSeq := 4, check := 0 }
  sealTrl 1 { hdr := sealHdr 1 h, secs := [x], claim := none, trl := { hops := 0, wrap := 0, flags := 0, check := 0 } }

/-- The same frame as the standby sends it back. -/
def backFrame : Frame :=
  sealTrl 1 { outFrame with
    secs := outFrame.secs.map (fun x => { x with fresh := 7, inp := List.replicate 40 9 }), trl := { outFrame.trl with hops := 2 } }

/-- The master of ring 1 has sent outFrame. -/
def afterFrame : State := moment 1020000 { onRing with
  ring := onRing.ring.upd 1 (fun p => { p with sent := some outFrame, sentAt := 1000000, sentRing := 1000000 }) }

/-- A standby at ring 1. -/
def standing : State := moment 1000000 { follows with
  ring := follows.ring.put 1 { table := [⟨3, 14, 16⟩], released := true, syncF := true, syncB := true } }

/-- A frame of another holder. -/
def foreignFrame : Frame :=
  sealTrl 1 { outFrame with hdr := sealHdr 1 { outFrame.hdr with masterId := 9, flags := 2 } }

/-- A claim of another module, and one of module 1. -/
def claimOf (rank epoch : W32) : Frame :=
  let h : Hdr := { ftype := 2, flags := 0, secCount := 1, cycle := 0, epoch := epoch, ringTime := 1000000, masterId := rank
                   tmRank := 0, tmFlags := 0, beaconSeq := 0, check := 0 }
  sealTrl 1 { hdr := sealHdr 1 h, secs := [], claim := some ⟨0, 2, 0, 0⟩, trl := { hops := 0, wrap := 0, flags := 0, check := 0 } }

def foreignClaim : Frame := claimOf 9 6
def ownClaimFrame : Frame := claimOf 1 6

/-- A candidate of epoch 6 whose first claim went out on ring 1 at 1 ms. -/
def claims : State := moment 1000500 { standing with
  crown := { standing.crown with state := .candidate, epoch := 6 }, keep := { standing.keep with epochKept := 6 }
  ring := standing.ring.upd 1 (fun p => { p with claim :=
    { state := .claiming, next := 1, sent := [(1000000, 1000000, 0)], first := some 1000000 } }) }

/-- A door: unit 511, a confirmation source, 10 minutes degraded at most. -/
def aDoor : DoorEntry :=
  { ring := 1, addr := 3, unit := 0, retired := false, gunit := 511, leaves := 2, proofOpen := 100, mass := 80, eLim := 10
    full := 1000, win := 5, closedTol := 5, posTol := 5, spdTol := 5, dirTol := 5, dirGrace := 100, disc := 3, degMax := 10
    plausTol := 5, pti := none, staff := some (.vin 2), spdLim := 400 }

/-- A door at rest, closed and locked. -/
def atRest : Reading := { pos := 0, spd := 0, stat := 1 }

/-- The holder, the door's unit in the given state in both channels, its quiet interval of 100 ms over. -/
def quietDoor (u : DoorChan) : State := moment 100000000 { held with
  door := { table := [aDoor], tripHold := 100, sel := 511, cx := [(511, u)], cy := [(511, u)] } }

/-- A standby that receives a copy of a program of two noun words, and the copy's first pass. -/
def copies : State := { follows with
  crown := { follows.crown with state := .copying }, bank := Tri.all { bank0 := some { aProgram with nounTop := 2 } } }

def aCopy : CopyBody :=
  { pass := 0, cycle := 3, snapAt := 3500000, words := [5, 6], check := copyCheck 0 3 [5, 6], combSeq := 11, activeId := 0
    stagedId := 0 }

/-- A holder whose partner is in step and ready to take over. -/
def willing : State := { held with crown := { held.crown with partner := 4, partnerVoting := Tri.all true } }

/-- The holder, a program staged for cycle 40, and a module that has agreed on cycle 9. -/
def proposes : State := { held with px := { held.px with state := .staged, target := 40 } }
def agrees : State := { up with px := { up.px with state := .agreed, h := 9 } }

/-- A cell in the queue. -/
def aCell : Cell :=
  { seq := 0, life := 0, cal := 0, cycle := 0, source := 3, payload := .note .ringWrap [], calValid := false, partner := false
    verified := false, trunc := false }

/-- A scan of one word. -/
def aScan : ScanReq := { who := 1, src := .noun, start := 0, len := 1, tag := 0, a := 0, b := 0, cont := false, cls := 2 }

/-- A telegram of source 2 with its check. -/
def teleOf (slot : Nat) (value : W64) : List Byte :=
  let b := leBytes 2 slot ++ leBytes 2 0 ++ leBytes 4 1 ++ leBytes 8 value.toNat ++ leBytes 4 2
  b ++ leBytes 4 (checkOf 0x10 slot 1 b).toNat

def aTele : List Byte := teleOf 5 1
def ethTele : List Byte := teleOf 5 1
def calTele : List Byte := teleOf 0xFFFF 1000

/-- The holder, which obeys source 2 from host 1 and from 10.0.0.1. -/
def obeys : State := { held with
  set := { block := some { someSettings with cmds :=
    [{ id := 2, ipv4 := false, cal := false, address := [1], first := 0, last := 9 }
    , { id := 2, ipv4 := true, cal := true, address := [10, 0, 0, 1], first := 0, last := 9 }] } }
  eth := { held.eth with link := true } }

/-- No time passes at time 0. -/
theorem elapse_zero (s : State) : elapse 0 s = s := by simp [elapse, Clocks.at]

/-- A pass arrives whole and no checker has a snapshot of its cycle. -/
theorem passGood_alone (s : State) (r : Rejoin) (h : r.chk = none) : passGood 0 s r = true := by simp [passGood, h]

def inStepPerformsTheFrontCommand1 : State := { up with pending := [.lifeCheckpoint 0] }

theorem hyp_StepPerformsTheFrontCommand :
    (∃ (c : Instr) (rest : List Instr) (s : State), s.pending = c :: rest) ∧ (∃ (s : State), s.pending = []) := by
  refine ⟨⟨.lifeCheckpoint 0, [], inStepPerformsTheFrontCommand1, ?_⟩, ⟨up, ?_⟩⟩
  all_goals and_intros
  all_goals first | decide +kernel | exact rfl

theorem hyp_StepKeepsInvariant :
    (∃ (s t : State), Inv s ∧ step s = .next t) := by
  refine ⟨inStepPerformsTheFrontCommand1, afterCheckpoint, ?_⟩
  all_goals and_intros
  all_goals first | decide +kernel | (unfold Inv; decide +kernel) | exact rfl

theorem hyp_CommandsLeaveQueueAndFuses :
    (∃ (c : Instr) (s t : State), exec c s = .next t) := by
  refine ⟨.lifeCheckpoint 0, up, afterCheckpoint, ?_⟩
  all_goals and_intros
  all_goals first | decide +kernel | exact rfl

theorem hyp_WordVerbs :
    (∃ (l : Lane) (w : W64) (s : State), Executes 0x21 l w s) := by
  refine ⟨.b, wordOf 0x21 1 0 7 0, runs, ?_⟩
  all_goals and_intros
  all_goals first | decide +kernel | (unfold Executes; decide +kernel) | exact rfl

theorem hyp_FlowVerbs :
    (∃ (l : Lane) (w : W64) (s : State), Executes 0x31 l w s ∧ someColumn (s.eng.at l) (vword w)) ∧ (∃ (l : Lane) (w : W64) (s :
    State), Executes 0x31 l w s ∧ (¬ someColumn (s.eng.at l) (vword w))) ∧ (∃ (l : Lane) (w : W64) (s : State), Executes 0x32 l
    w s ∧ (¬ someColumn (s.eng.at l) (vword w))) ∧ (∃ (l : Lane) (w : W64) (s : State), Executes 0x32 l w s ∧ someColumn
    (s.eng.at l) (vword w)) ∧ (∃ (l : Lane) (w : W64) (s : State), Executes 0x34 l w s) := by
  refine ⟨⟨.b, wordOf 0x31 0 0 0 5, runsSet, ?_⟩, ⟨.b, wordOf 0x31 1 0 0 5, runs, ?_⟩, ⟨.b, wordOf 0x32 0 0 0 5, runs, ?_⟩, ⟨.b,
    wordOf 0x32 1 0 0 5, runsSet, ?_⟩, ⟨.b, wordOf 0x34 0 0 0 0, runsIn, ?_⟩⟩
  all_goals and_intros
  all_goals first | decide +kernel | (unfold Executes; decide +kernel) | (unfold someColumn; decide +kernel) | exact rfl

theorem hyp_EndVerb :
    (∃ (l : Lane) (w : W64) (s : State), Executes 0x38 l w s) := by
  refine ⟨.b, wordOf 0x38 0 0 0 0, runs, ?_⟩
  all_goals and_intros
  all_goals first | decide +kernel | (unfold Executes; decide +kernel) | exact rfl

def inTrapsStopTheEngine1 : State := moment 1000000 { runs with eng := runs.eng.upd .b (fun e => { e with startAt := 0 }) }

theorem hyp_TrapsStopTheEngine :
    (∃ (i : Instr) (c : Nat) (l : Lane) (w : W64) (s : State) (cause : Nat), verbOf i = some (c, l, w) ∧ i.wf = true ∧ (s.eng.at
    l).run = .running ∧ trapOf ((activeProg s l).getD {}) (s.bank.at l).active (workOf s l) (vword w) = some cause) ∧ (∃ (i :
    Instr) (c : Nat) (l : Lane) (w : W64) (s : State) (cause : Nat), verbOf i = some (c, l, w) ∧ i.wf = true ∧ (s.eng.at l).run
    = .running ∧ trapOf ((activeProg s l).getD {}) (s.bank.at l).active (workOf s l) (vword w) = some cause) ∧ (∃ (t : Nat) (l :
    Lane) (s : State), (s.eng.at l).run = .running ∧ ((activeProg s l).getD {}).wcet < phaseClocks (elapse t s) l) ∧ (∃ (i :
    Instr) (c : Nat) (l : Lane) (w : W64) (s : State), verbOf i = some (c, l, w) ∧ i.wf = true ∧ (s.eng.at l).run ≠ .running) :=
    by
  refine ⟨⟨.verbLd .b (wordOf 0x3F 0 0 0 0), 0x01, .b, wordOf 0x3F 0 0 0 0, runs, 0x01, ?_⟩, ⟨.verbWst .b (wordOf 0x21 1 1 0 0),
    0x21, .b, wordOf 0x21 1 1 0 0, runs, 0x04, ?_⟩, ⟨0, .b, inTrapsStopTheEngine1, ?_⟩, ⟨.verbLd .b (wordOf 0x01 0 0 0 0), 0x01,
    .b, wordOf 0x01 0 0 0 0, up, ?_⟩⟩
  all_goals and_intros
  all_goals first | decide +kernel | exact rfl

def inInputLatchOpensTheCycle1 : State := moment 1000000 { held with cyc := { on := true } }

theorem hyp_InputLatchOpensTheCycle :
    (∃ (t : Nat) (s u : State), u = elapse t s ∧ u.cyc.on = true ∧ u.cyc.phase = .idle ∧ crowned u = true ∧ u.crown.firstLatch =
    false ∧ u.cyc.takeover = false ∧ 0 < tProg u ∧ ringNow u < boundaryAt u (ringNow u) + 4000 ∧ boundaryAt u (ringNow u) ≠
    u.cyc.b ∧ u.cyc.firstAt ≤ boundaryAt u (ringNow u)) := by
  refine ⟨0, inInputLatchOpensTheCycle1, inInputLatchOpensTheCycle1, (elapse_zero _).symm, ?_⟩
  all_goals and_intros
  all_goals first | decide +kernel | exact rfl

def inLogicPhaseStartsTheEngines1 : State := moment 1004000 { held with
  cyc := { on := true, phase := .latched, b := 1000000, imaged := true } }

theorem hyp_LogicPhaseStartsTheEngines :
    (∃ (t : Nat) (s u : State), u = elapse t s ∧ u.cyc.phase = .latched ∧ runsCycles u = true ∧ u.cyc.b + 4000 ≤ ringNow u ∧
    u.cyc.imaged = true ∧ u.px.swap = false ∧ u.vote.mode ≠ .halted ∧ (∀ l, (u.eng.at l).run ≠ .running) ∧ (∀ l, sweepStop
    (u.st.at l) = none) ∧ u.test.inj = none) := by
  refine ⟨0, inLogicPhaseStartsTheEngines1, inLogicPhaseStartsTheEngines1, (elapse_zero _).symm, ?_⟩
  all_goals and_intros
  all_goals first | decide +kernel | (intro l; cases l <;> decide +kernel) | exact rfl

def inCommitDeadlineDecidesSkips1 : State := moment 1968000 { held with
  cyc := { on := true, phase := .logic, b := 1000000 }
  eng := ⟨{ run := .ended }, { run := .running }, {}⟩ }

theorem hyp_CommitDeadlineDecidesSkips :
    (∃ (t : Nat) (s u : State), u = elapse t s ∧ u.cyc.phase = .logic ∧ u.cyc.b + tProg u ≤ ringNow u + 32000 ∧ takesPart u .a =
    true ∧ (u.eng.at .a).run = .ended ∧ (u.eng.at .a).cycle = u.cyc.n ∧ takesPart u .b = true ∧ (u.eng.at .b).run = .running) :=
    by
  refine ⟨0, inCommitDeadlineDecidesSkips1, inCommitDeadlineDecidesSkips1, (elapse_zero _).symm, ?_⟩
  all_goals and_intros
  all_goals first | decide +kernel | exact rfl

theorem hyp_VoteTakesTheMajority :
    (∃ (s : State) (w : Nat), presentLanes s = [.a, .b, .c] ∧ w < 0x1000 ∧ tabGet 0 s.st.a.out 1 = tabGet 0 s.st.b.out 1 ∧
    tabGet 0 s.st.a.out 1 ≠ tabGet 0 s.st.c.out 1) ∧ (∃ (s : State) (w : Nat), presentLanes s = [.a, .b, .c] ∧ w < 0x1000 ∧
    tabGet 0 s.st.a.out 0xFFF ≠ tabGet 0 s.st.b.out 0xFFF ∧ tabGet 0 s.st.b.out 0xFFF = tabGet 0 s.st.c.out 0xFFF) ∧ (∃ (s :
    State) (w : Nat), presentLanes s = [.a, .b, .c] ∧ w < 0x1000 ∧ tabGet 0 s.st.a.out 2 ≠ tabGet 0 s.st.b.out 2 ∧ tabGet 0
    s.st.a.out 2 ≠ tabGet 0 s.st.c.out 2 ∧ tabGet 0 s.st.b.out 2 ≠ tabGet 0 s.st.c.out 2) ∧ (∃ (t : Nat) (e : Tri W32) (s u :
    State), u = elapse t s ∧ u.cyc.phase = .voting ∧ crowned u = true) := by
  refine ⟨⟨voting, 1, ?_⟩, ⟨voting, 0xFFF, ?_⟩, ⟨voting, 2, ?_⟩, ⟨0, ⟨0, 0, 0⟩, voting, voting, (elapse_zero _).symm, ?_⟩⟩
  all_goals and_intros
  all_goals first | decide +kernel | exact rfl

def inCommitTakesTheVote1 : State := moment 1992000 { voting with
  cyc := { voting.cyc with phase := .voted, res := some aVote } }

def inCommitTakesTheVote2 : State := moment 1992000 { voting with
  cyc := { voting.cyc with phase := .voted, res := some { aVote with skipped := true } } }

def inCommitTakesTheVote3 : State := { voting with
  cyc := { voting.cyc with phase := .idle, imgCycle := 7, b := 3000000 }
  keep := { voting.keep with lastCommit := some 7 }
  lane := voting.lane.upd .b (fun r => { r with retValid := true, retSlot := true, retCycle := 6 })
  bank := ⟨{}, { bank0 := some { retStart := 4, retLen := 2 } }, {}⟩ }

theorem hyp_CommitTakesTheVote :
    (∃ (t : Nat) (r : VoteRes) (s u : State), u = elapse t s ∧ commitDue u = true ∧ u.cyc.res = some r ∧ crowned u = true ∧
    u.crown.ho = none ∧ aVote.skipped = false ∧ u.vote.mode ≠ .halted ∧ u.cyc.safeStop = false ∧ aVote.faultWord.getLsbD 63 =
    false) ∧ (∃ (t : Nat) (r : VoteRes) (s u : State), u = elapse t s ∧ commitDue u = true ∧ u.cyc.res = some r ∧ crowned u =
    true ∧ u.crown.ho = none ∧ skippedWhole u { aVote with skipped := true } = true) ∧ (∃ (t : Nat) (l : Lane) (s u : State), u
    = elapse t s ∧ copyDue u l = true ∧ (u.lane.at .b).retValid = true ∧ 4 ≤ 5 ∧ 5 < 4 + 2) ∧ (∃ (t : Nat) (l : Lane) (s u :
    State), u = elapse t s ∧ copyDue u l = true) := by
  refine ⟨⟨0, aVote, inCommitTakesTheVote1, inCommitTakesTheVote1, (elapse_zero _).symm, ?_⟩, ⟨0,
    { aVote with skipped := true }, inCommitTakesTheVote2, inCommitTakesTheVote2, (elapse_zero _).symm, ?_⟩, ⟨0, .b,
    inCommitTakesTheVote3, inCommitTakesTheVote3, (elapse_zero _).symm, ?_⟩, ⟨0, .b, inCommitTakesTheVote3,
    inCommitTakesTheVote3, (elapse_zero _).symm, ?_⟩⟩
  all_goals and_intros
  all_goals first | decide +kernel | exact rfl

def inServiceRoleMoves1 : State := { up with lane := up.lane.put .a { state := .excluded } }

theorem hyp_ServiceRoleMoves :
    (∃ (t : Nat) (m : Lane) (s u : State), u = elapse t s ∧ inService u u.glb.svc = false ∧ nextService u u.glb.svc = some m) :=
    by
  refine ⟨0, .b, inServiceRoleMoves1, inServiceRoleMoves1, (elapse_zero _).symm, ?_⟩
  all_goals and_intros
  all_goals first | decide +kernel | exact rfl

def inLaneResets1 : State := { up with lane := up.lane.put .c { state := .excluded, resetDue := true } }

def inLaneResets2 : State := { up with
  lane := up.lane.put .c { state := .excluded, resetDue := true, resetHeld := true, supplyIn := false } }

theorem hyp_LaneResets :
    (∃ (t : Nat) (l : Lane) (s u : State), u = elapse t s ∧ (u.lane.at l).state = .excluded ∧ (u.lane.at l).resetDue = true ∧
    (u.lane.at l).wdogReset = false ∧ (u.lane.at l).supplyIn = true ∧ (u.lane.at l).clockIn = true) ∧ (∃ (t : Nat) (l : Lane) (s
    u : State), u = elapse t s ∧ (u.lane.at l).state = .excluded ∧ (u.lane.at l).resetDue = true ∧ (u.lane.at l).wdogReset =
    false ∧ (u.lane.at l).resetHeld = true ∧ u.test.inj = none ∧ u.test.once = none) ∧ (∃ (t : Nat) (l : Lane) (s u : State), u
    = elapse t s ∧ (u.lane.at l).state ≠ .off ∧ (u.lane.at l).state ≠ .excluded ∧ u.vote.mode ≠ .halted ∧ u.vote.rejoin = none)
    := by
  refine ⟨⟨0, .c, inLaneResets1, inLaneResets1, (elapse_zero _).symm, ?_⟩, ⟨0, .c, inLaneResets2, inLaneResets2,
    (elapse_zero _).symm, ?_⟩, ⟨0, .c, up, up, (elapse_zero _).symm, ?_⟩⟩
  all_goals and_intros
  all_goals first | decide +kernel | exact rfl

def inLaneReadinessAndRejoin1 : State := { up with lane := up.lane.put .c { state := .starting } }

def inLaneReadinessAndRejoin2 : State := moment 3005000 { held with
  vote := { held.vote with
    rejoin := some { lane := .c, donor := .a, checker := some .b, inPass := true, snapB := 2000000 } } }

def argLaneReadinessAndRejoin1 : Rejoin := { lane := .c, donor := .a, checker := some .b, inPass := true, snapB := 2000000 }

def inLaneReadinessAndRejoin3 : State := { held with
  vote := { held.vote with
    hold := true
    rejoin := some { lane := .c, donor := .a, checker := some .b, inPass := true, cycles := 8 } } }

def argLaneReadinessAndRejoin2 : Rejoin := { lane := .c, donor := .a, checker := some .b, inPass := true, cycles := 8 }

theorem hyp_LaneReadinessAndRejoin :
    (∃ (t : Nat) (l : Lane) (units : BitVec 2) (s u : State), u = elapse t s ∧ u.rst.stage = .ready ∧ (u.lane.at l).state =
    .starting ∧ (u.lane.at l).ready = false ∧ u.test.katWrong.at l = false) ∧ (∃ (t : Nat) (l : Lane) (units : BitVec 2) (s u :
    State), u = elapse t s ∧ u.rst.stage = .ready ∧ (u.lane.at l).state = .starting ∧ (u.lane.at l).ready = false ∧
    u.test.katWrong.at l = false) ∧ (∃ (t : Nat) (err : W32) (r : Rejoin) (s u : State), u = elapse t s ∧ u.vote.rejoin = some r
    ∧ r.proving = false ∧ r.inPass = true ∧ u.cyc.phase = .idle ∧ passGood err u r = true ∧ r.pass < 63 ∧ r.snapB + tProg u +
    4000 < ringNow u) ∧ (∃ (t : Nat) (r : Rejoin) (s u : State), u = elapse t s ∧ u.vote.rejoin = some r ∧ r.proving = false ∧
    r.inPass = true ∧ r.pass = 0 ∧ 8 ≤ r.cycles ∧ u.vote.hold = true) := by
  refine ⟨⟨0, .c, 3, inLaneReadinessAndRejoin1, inLaneReadinessAndRejoin1, (elapse_zero _).symm, ?_⟩, ⟨0, .c, 1,
    inLaneReadinessAndRejoin1, inLaneReadinessAndRejoin1, (elapse_zero _).symm, ?_⟩, ⟨0, 0, argLaneReadinessAndRejoin1,
    inLaneReadinessAndRejoin2, inLaneReadinessAndRejoin2, (elapse_zero _).symm, ?_⟩, ⟨0, argLaneReadinessAndRejoin2,
    inLaneReadinessAndRejoin3, inLaneReadinessAndRejoin3, (elapse_zero _).symm, ?_⟩⟩
  all_goals and_intros
  all_goals first | exact passGood_alone _ _ rfl | decide +kernel | exact rfl

def inDegradedClockExpires1 : State := moment 5000000 { up with vote := { up.vote with degRun := true, degEnd := 5000 } }

def inDegradedClockExpires2 : State := moment 5000000 { held with vote := { up.vote with degRun := true, degEnd := 5000 } }

def inDegradedClockExpires3 : State := moment 5000000 { held with vote := { up.vote with graceEnd := some 5000 } }

theorem hyp_DegradedClockExpires :
    (∃ (t : Nat) (s u : State), u = elapse t s ∧ u.vote.degRun = true ∧ u.vote.degEnd ≤ u.clk.lifeUs ∧ crowned u = false) ∧ (∃
    (t : Nat) (s u : State), u = elapse t s ∧ u.vote.degRun = true ∧ u.vote.degEnd ≤ u.clk.lifeUs ∧ crowned u = true) ∧ (∃ (t e
    : Nat) (s u : State), u = elapse t s ∧ u.vote.graceEnd = some e ∧ e ≤ u.clk.lifeUs ∧ crowned u = true) := by
  refine ⟨⟨0, inDegradedClockExpires1, inDegradedClockExpires1, (elapse_zero _).symm, ?_⟩, ⟨0, inDegradedClockExpires2,
    inDegradedClockExpires2, (elapse_zero _).symm, ?_⟩, ⟨0, 5000, inDegradedClockExpires3, inDegradedClockExpires3,
    (elapse_zero _).symm, ?_⟩⟩
  all_goals and_intros
  all_goals first | decide +kernel | exact rfl

theorem hyp_ReflexActs :
    (∃ (t code : Nat) (l : Lane) (r : Ring) (s u : State), u = elapse t s ∧ 0x10 ≤ code ∧ code ≤ 0x19 ∧ crowned u = true) ∧ (∃
    (t code : Nat) (l : Lane) (r : Ring) (s u : State), u = elapse t s ∧ 0x10 ≤ code ∧ code ≤ 0x19 ∧ crowned u = true) ∧ (∃ (t
    code : Nat) (l : Lane) (r : Ring) (s u : State), u = elapse t s ∧ 0x10 ≤ code ∧ code ≤ 0x19 ∧ crowned u = true) ∧ (∃ (t code
    : Nat) (l : Lane) (r : Ring) (s u : State), u = elapse t s ∧ 0x10 ≤ code ∧ code ≤ 0x19 ∧ crowned u = true) ∧ (∃ (t code :
    Nat) (l : Lane) (r : Ring) (s u : State), u = elapse t s ∧ 1 ≤ code ∧ code ≤ 3 ∧ u.vote.mode ≠ .halted ∧ u.vote.rejoin =
    none) ∧ (∃ (t code : Nat) (l : Lane) (r : Ring) (s u : State), u = elapse t s ∧ 1 ≤ code ∧ code ≤ 3 ∧ u.vote.mode ≠ .halted
    ∧ u.vote.rejoin = none) := by
  refine ⟨⟨0, 0x10, .a, 2, held, held, (elapse_zero _).symm, ?_⟩, ⟨0, 0x15, .a, 2, held, held, (elapse_zero _).symm, ?_⟩, ⟨0,
    0x18, .a, 2, held, held, (elapse_zero _).symm, ?_⟩, ⟨0, 0x19, .a, 2, held, held, (elapse_zero _).symm, ?_⟩, ⟨0, 1, .b, 0,
    held, held, (elapse_zero _).symm, ?_⟩, ⟨0, 3, .b, 0, held, held, (elapse_zero _).symm, ?_⟩⟩
  all_goals and_intros
  all_goals first | decide +kernel | exact rfl

def inVitalInputsAreEvaluated1 : State := moment 115000 { up with
  vin := {
    ev := ⟨List.replicate 8 { good := 1, closed := true }, List.replicate 8 {}, List.replicate 8 {}⟩
    discrepMs := 10
    debounce := 1 }
  lane := up.lane.upd .b (fun r => { r with ready := false }) }

def inVitalInputsAreEvaluated2 : State := moment 10000001 { up with
  vin := { ev := Tri.all (List.replicate 8 { differ := some 0 }), discrepMs := 10, debounce := 1 } }

theorem hyp_VitalInputsAreEvaluated :
    (∃ (t : Nat) (x : Tri VinSample) (s u : State), u = elapse t s ∧ u.rst.stage = .ready ∧ vinDue u = true ∧ u.test.inj = none
    ∧ u.test.once = none ∧ (u.lane.at .b).ready = false ∧ (u.lane.at .a).ready = true) ∧ (∃ (t d : Nat) (l : Lane) (i : Fin 8)
    (s u : State), u = elapse t s ∧ (u.vin.ev.at l).length = 8 ∧ (nthD {} (u.vin.ev.at l) i.val).differ = some d ∧ (nthD {}
    (u.vin.ev.at l) i.val).cause = 0 ∧ d + u.vin.discrepMs * 1000000 < ringNow u) := by
  refine ⟨⟨0, ⟨⟨0xFFFF, 0xFFFF, 0xFFFF, 0xFFFF, 0xFFFF⟩, ⟨0, 0, 0, 0, 0⟩, ⟨0, 0, 0, 0, 0⟩⟩, inVitalInputsAreEvaluated1,
    inVitalInputsAreEvaluated1, (elapse_zero _).symm, ?_⟩, ⟨0, 0, .a, 7, inVitalInputsAreEvaluated2, inVitalInputsAreEvaluated2,
    (elapse_zero _).symm, ?_⟩⟩
  all_goals and_intros
  all_goals first | decide +kernel | exact rfl

def inMasterSendsTheCycleFrame1 : State := { afterFrame with
  clk := onRing.clk
  wp := { afterFrame.wp with held := true }
  ring := afterFrame.ring.upd 1 (fun p => { p with dual := true, sentRing := 875000 }) }

def inMasterSendsTheCycleFrame2 : State := { claims with
  clk := onRing.clk
  ring := claims.ring.upd 1 (fun p => { p with sentRing := 875000 }) }

def inMasterSendsTheCycleFrame3 : State := { standing with
  ring := standing.ring.upd 1 (fun p => { p with testOn := true, testReq := true }) }

theorem hyp_MasterSendsTheCycleFrame :
    (∃ (t b : Nat) (r : Ring) (x y : Lane) (zs : List Lane) (s u : State), u = elapse t s ∧ inUse u r = true ∧ (∀ q, q ≠ r →
    inUse u q = false ∧ (u.ring.at q).testOn = false ∧ (u.ring.at q).toWin = false) ∧ viewLanes u = x :: y :: zs ∧ channelOpen u
    r x = some b ∧ channelOpen u r y = some b ∧ (u.ring.at r).sentRing ≠ b ∧ crowned u = true ∧ (u.ring.at r).testOn = false ∧
    (u.ring.at r).toWin = false ∧ (u.ring.at r).claim.state ≠ .claiming ∧ (u.ring.at r).dualPend = false ∧ (u.ring.at
    r).healSent = false ∧ (u.ring.at r).cleanRun < 8 ∧ renews u = true) ∧ (∃ (t b : Nat) (r : Ring) (x y : Lane) (zs : List
    Lane) (s u : State), u = elapse t s ∧ inUse u r = true ∧ (∀ q, q ≠ r → inUse u q = false ∧ (u.ring.at q).testOn = false ∧
    (u.ring.at q).toWin = false) ∧ viewLanes u = x :: y :: zs ∧ channelOpen u r x = some b ∧ channelOpen u r y = some b ∧
    (u.ring.at r).sentRing ≠ b ∧ crowned u = true ∧ (u.ring.at r).testOn = false ∧ (u.ring.at r).toWin = false ∧ (u.ring.at
    r).claim.state ≠ .claiming ∧ (u.ring.at r).dualPend = false ∧ (u.ring.at r).healSent = false ∧ (u.ring.at r).cleanRun < 8 ∧
    u.wp.held = true ∧ (u.ring.at 1).sent = some outFrame ∧ (u.ring.at 1).dual = true) ∧ (∃ (t b : Nat) (r : Ring) (x y : Lane)
    (zs : List Lane) (s u : State), u = elapse t s ∧ inUse u r = true ∧ (∀ q, q ≠ r → inUse u q = false ∧ (u.ring.at q).testOn =
    false ∧ (u.ring.at q).toWin = false) ∧ viewLanes u = x :: y :: zs ∧ channelOpen u r x = some b ∧ channelOpen u r y = some b
    ∧ (u.ring.at r).sentRing ≠ b ∧ u.crown.state = .candidate ∧ (u.ring.at r).testOn = false ∧ (u.ring.at r).claim.state =
    .claiming) ∧ (∃ (t b : Nat) (r : Ring) (x y : Lane) (zs : List Lane) (s u : State), u = elapse t s ∧ inUse u r = true ∧ (∀
    q, q ≠ r → inUse u q = false ∧ (u.ring.at q).testOn = false ∧ (u.ring.at q).toWin = false) ∧ viewLanes u = x :: y :: zs ∧
    channelOpen u r x = some b ∧ channelOpen u r y = some b ∧ (u.ring.at r).sentRing ≠ b ∧ crowned u = false ∧ u.crown.state ≠
    .candidate ∧ u.crown.state ≠ .off ∧ (u.ring.at r).testOn = true ∧ (u.ring.at r).testReq = true ∧ (u.ring.at r).testLeave =
    false) := by
  refine ⟨⟨0, 1000000, 1, .a, .b, [], onRing, onRing, (elapse_zero _).symm, ?_⟩, ⟨0, 1000000, 1, .a, .b, [],
    inMasterSendsTheCycleFrame1, inMasterSendsTheCycleFrame1, (elapse_zero _).symm, ?_⟩, ⟨0, 1000000, 1, .a, .b, [],
    inMasterSendsTheCycleFrame2, inMasterSendsTheCycleFrame2, (elapse_zero _).symm, ?_⟩, ⟨0, 1000000, 1, .a, .b, [],
    inMasterSendsTheCycleFrame3, inMasterSendsTheCycleFrame3, (elapse_zero _).symm, ?_⟩⟩
  all_goals and_intros
  all_goals first | decide +kernel | (intro q; revert q; decide +kernel) | exact rfl

theorem hyp_ReturnedFrameIsTaken :
    (∃ (t : Nat) (r : Ring) (f g : Frame) (s u : State), u = elapse t s ∧ crowned u = true ∧ roleOf u r = .master ∧ (u.ring.at
    r).testOn = false ∧ (u.ring.at r).dual = false ∧ (u.ring.at r).sent = some g ∧ (u.ring.at r).heardF = false ∧ (u.ring.at
    r).copyF = none ∧ (u.ring.at r).copyB = none ∧ inTime u r = true ∧ frameOk r f = true ∧ sameBlocks f g = true ∧
    f.hdr.masterId = u.fuse.rank ∧ f.hdr.epoch = u.crown.epoch ∧ f.hdr.ftype = 1 ∧ injected 0x0603 u = none ∧ ((255 : Nat) ∈
    frameAddrs (u.ring.at 1) ∧ ∃ x0 x, secOf outFrame 255 = some x0 ∧ secOf backFrame 255 = some x ∧ x.fresh = x0.fresh + 1)) :=
    by
  refine ⟨0, 1, backFrame, outFrame, afterFrame, afterFrame, (elapse_zero _).symm, ?_⟩
  all_goals and_intros
  all_goals first | decide +kernel | exact frameOk_sealed _ _ _ rfl rfl | exact ⟨_, _, rfl, rfl, by decide⟩ | exact rfl

def inReturnDeadlineCountsLateCopies1 : State := moment 1249000 { afterFrame with
  ring := afterFrame.ring.upd 1 (fun p => { p with dual := true }) }

def inReturnDeadlineCountsLateCopies2 : State := moment 1249000 afterFrame

theorem hyp_ReturnDeadlineCountsLateCopies :
    (∃ (t : Nat) (s u : State), u = elapse t s ∧ crowned u = true ∧ roleOf u 1 = .master ∧ (u.ring.at 1).sent.isSome = true ∧
    (u.ring.at 1).merged = false ∧ (u.ring.at 1).testOn = false ∧ (u.ring.at 1).sentRing + ringCycle u 1 ≤ ringNow u + 2000 ∧
    (u.ring.at 1).dual = true) ∧ (∃ (t : Nat) (s u : State), u = elapse t s ∧ crowned u = true ∧ roleOf u 1 = .master ∧
    (u.ring.at 1).sent.isSome = true ∧ (u.ring.at 1).merged = false ∧ (u.ring.at 1).testOn = false ∧ (u.ring.at 1).sentRing +
    ringCycle u 1 ≤ ringNow u + 2000 ∧ (u.ring.at 1).dual = false ∧ (u.ring.at 1).heardF = false) := by
  refine ⟨⟨0, inReturnDeadlineCountsLateCopies1, inReturnDeadlineCountsLateCopies1, (elapse_zero _).symm, ?_⟩, ⟨0,
    inReturnDeadlineCountsLateCopies2, inReturnDeadlineCountsLateCopies2, (elapse_zero _).symm, ?_⟩⟩
  all_goals and_intros
  all_goals first | decide +kernel | exact rfl

theorem hyp_StandbyPassesFramesOn :
    (∃ (t arrived : Nat) (ppb : Int) (r : Ring) (p : Pair) (f : Frame) (s u : State), u = elapse t s ∧ roleOf u r = .standby ∧
    (u.ring.at r).wrapped = none ∧ (u.ring.at r).silent = false ∧ u.test.looped.at r = false ∧ u.vote.mode ≠ .halted ∧
    u.crown.degRestart = false ∧ frameOk r f = true ∧ f.hdr.ftype = 1 ∧ isWrapped f = false ∧ f.hdr.masterId ≠ u.fuse.rank ∧
    firstCopy (u.ring.at r) f = true ∧ injected 0x0603 u = none) ∧ (∃ (t : Nat) (r : Ring) (p : Pair) (f : Frame) (s u : State),
    u = elapse t s ∧ roleOf u r = .standby ∧ (u.ring.at r).wrapped = none ∧ (u.ring.at r).silent = false ∧ u.test.looped.at r =
    false ∧ u.vote.mode ≠ .halted ∧ frameOk r f = true ∧ f.hdr.ftype = 2 ∧ isWrapped f = false ∧ f.hdr.masterId ≠ u.fuse.rank ∧
    injected 0x0603 u = none) ∧ (∃ (t b at0 n : Nat) (r : Ring) (p : Pair) (f : Frame) (s u : State), u = elapse t s ∧ roleOf u
    r = .origin ∧ (u.ring.at r).testOn = false ∧ (u.ring.at r).silent = false ∧ u.test.looped.at r = false ∧ u.vote.mode ≠
    .halted ∧ frameOk r f = true ∧ f.hdr.ftype = 2 ∧ f.hdr.masterId = u.fuse.rank ∧ f.hdr.epoch = u.crown.epoch ∧ (u.ring.at
    r).claim.sent = [(b, at0, n)] ∧ f.hdr.ringTime.toNat = b ∧ injected 0x0603 u = none) := by
  refine ⟨⟨0, 1000000, 0, 1, .bwd, foreignFrame, standing, standing, (elapse_zero _).symm, ?_⟩, ⟨0, 1, .bwd, foreignClaim,
    standing, standing, (elapse_zero _).symm, ?_⟩, ⟨0, 1000000, 1000000, 0, 1, .fwd, ownClaimFrame, claims, claims,
    (elapse_zero _).symm, ?_⟩⟩
  all_goals and_intros
  all_goals first | decide +kernel | exact frameOk_sealed _ _ _ rfl rfl | exact rfl

def inLinkAndSilenceEvents1 : State := moment 100000000 { standing with
  ring := standing.ring.upd 1 (fun p => { p with wrapped := some .fwd, syncF := true }) }

def inLinkAndSilenceEvents2 : State := moment 2000000000 { onRing with
  ring := onRing.ring.upd 1 (fun p => { p with dual := true, healSince := some 0 }) }

def inLinkAndSilenceEvents3 : State := moment 8000000 { standing with
  ring := standing.ring.upd 1 (fun p => { p with lastStart := some 0 }) }

def inLinkAndSilenceEvents4 : State := moment 64000000 { standing with
  ring := standing.ring.upd 1 (fun p => { p with testReq := true, lastStart := some 0 }) }

def inLinkAndSilenceEvents5 : State := moment 500000 { standing with
  crown := { standing.crown with state := .candidate }
  ring := standing.ring.upd 1 (fun p => { p with lastStart := some 0 }) }

theorem hyp_LinkAndSilenceEvents :
    (∃ (t : Nat) (r : Ring) (p : Pair) (s u : State) (n : Nat), u = elapse t s ∧ roleOf u 1 = .standby) ∧ (∃ (t : Nat) (r :
    Ring) (p : Pair) (s u : State) (n : Nat), u = elapse t s ∧ roleOf u 1 ≠ .standby) ∧ (∃ (t : Nat) (r : Ring) (p : Pair) (s u
    : State), u = elapse t s) ∧ (∃ (t : Nat) (r : Ring) (p : Pair) (s u : State), u = elapse t s ∧ roleOf u 1 = .standby) ∧ (∃
    (t : Nat) (r : Ring) (p : Pair) (s u : State), u = elapse t s ∧ (u.ring.at r).wrapped = some .fwd ∧ (u.ring.at r).syncF =
    true ∧ (u.ring.at r).sinceF + 100000000 ≤ u.clk.now) ∧ (∃ (t : Nat) (r : Ring) (p : Pair) (s u : State) (t0 : Nat), u =
    elapse t s ∧ (u.ring.at r).healSince = some t0 ∧ (u.ring.at r).dual = true ∧ t0 + 2000000000 ≤ u.clk.now) ∧ (∃ (t : Nat) (r
    : Ring) (p : Pair) (s u : State), u = elapse t s ∧ silentFor (u.ring.at r) u.clk.now 8000000 = true) ∧ (∃ (t : Nat) (r :
    Ring) (p : Pair) (s u : State), u = elapse t s ∧ (u.ring.at r).testReq = true ∧ crowned u = false ∧ roleOf u r = .standby ∧
    silentFor (u.ring.at r) u.clk.now 64000000 = true) ∧ (∃ (t : Nat) (r : Ring) (p : Pair) (s u : State), u = elapse t s ∧
    u.crown.state = .candidate ∧ inUse u r = true ∧ (u.ring.at r).claim.state = .idle ∧ silentFor (u.ring.at r) u.clk.now (2 *
    tRing u) = true) := by
  refine ⟨⟨0, 1, .fwd, standing, standing, 4, (elapse_zero _).symm, ?_⟩, ⟨0, 1, .bwd, onRing, onRing, 4, (elapse_zero _).symm,
    ?_⟩, ⟨0, 1, .fwd, standing, standing, (elapse_zero _).symm⟩, ⟨0, 1, .fwd, standing, standing, (elapse_zero _).symm, ?_⟩, ⟨0,
    1, .fwd, inLinkAndSilenceEvents1, inLinkAndSilenceEvents1, (elapse_zero _).symm, ?_⟩, ⟨0, 1, .fwd, inLinkAndSilenceEvents2,
    inLinkAndSilenceEvents2, 0, (elapse_zero _).symm, ?_⟩, ⟨0, 1, .fwd, inLinkAndSilenceEvents3, inLinkAndSilenceEvents3,
    (elapse_zero _).symm, ?_⟩, ⟨0, 1, .fwd, inLinkAndSilenceEvents4, inLinkAndSilenceEvents4, (elapse_zero _).symm, ?_⟩, ⟨0, 1,
    .fwd, inLinkAndSilenceEvents5, inLinkAndSilenceEvents5, (elapse_zero _).symm, ?_⟩⟩
  all_goals and_intros
  all_goals first | decide +kernel | exact rfl

def inClaimsAreWonOrAbandoned1 : State := moment 2000000 { claims with
  ring := claims.ring.upd 1 (fun p => { p with claim := { p.claim with ownBack := some 1000500, rt := 500 } }) }

def inClaimsAreWonOrAbandoned2 : State := moment 17000000 claims

theorem hyp_ClaimsAreWonOrAbandoned :
    (∃ (t : Nat) (r : Ring) (s u : State), u = elapse t s ∧ u.crown.state = .candidate ∧ inUse u r = true ∧ (u.ring.at
    r).claim.state = .claiming ∧ silenceWon u r = true ∧ (∀ q, inUse u q = true → (u.ring.at q).claim.state ≠ .withdrawn ∧
    (u.ring.at q).claim.state ≠ .clone)) ∧ (∃ (t t0 : Nat) (r : Ring) (s u : State), u = elapse t s ∧ u.crown.state = .candidate
    ∧ inUse u r = true ∧ (u.ring.at r).claim.state = .claiming ∧ (u.ring.at r).claim.first = some t0 ∧ t0 + 64 * tRing u ≤
    u.clk.now ∧ (∀ q, inUse u q = true → (u.ring.at q).claim.state ≠ .won) ∧ (∀ q, inUse u q = true → q ≠ 1 → (u.ring.at
    q).claim.state = .abandoned)) := by
  refine ⟨⟨0, 1, inClaimsAreWonOrAbandoned1, inClaimsAreWonOrAbandoned1, (elapse_zero _).symm, ?_⟩, ⟨0, 1000000, 1,
    inClaimsAreWonOrAbandoned2, inClaimsAreWonOrAbandoned2, (elapse_zero _).symm, ?_⟩⟩
  all_goals and_intros
  all_goals first | decide +kernel | exact rfl

theorem hyp_RingAndLaneControls :
    (∃ (t : Nat) (h : HostId) (r : Ring) (s u : State) (w : W32), u = elapse t s ∧ Served (ringCtlAddr r) u ∧ (0x53#32).getLsbD
    1 = true) ∧ (∃ (t : Nat) (h : HostId) (r : Ring) (s u : State) (w : W32), u = elapse t s ∧ Served (ringCtlAddr r) u ∧
    (0x51#32).getLsbD 1 = false) ∧ (∃ (t : Nat) (h : HostId) (r : Ring) (s u : State), u = elapse t s ∧ Served (ringCtlAddr r)
    u) ∧ (∃ (t : Nat) (h : HostId) (l : Lane) (s u : State), u = elapse t s ∧ Served (0x050028 + 0x10000 * l.num) u) := by
  refine ⟨⟨0, 2, 3, up, up, 0x53, (elapse_zero _).symm, ?_⟩, ⟨0, 2, 3, up, up, 0x51, (elapse_zero _).symm, ?_⟩, ⟨0, 2, 3, up,
    up, (elapse_zero _).symm, ?_⟩, ⟨0, 2, .c, up, up, (elapse_zero _).symm, ?_⟩⟩
  all_goals and_intros
  all_goals first | decide +kernel | (unfold Served; decide +kernel) | exact rfl

def inLanesFollowTheTimeMaster1 : State := { up with tb := { up.tb with tm := some .a, far := ⟨0, 1, 0⟩ } }

theorem hyp_LanesFollowTheTimeMaster :
    (∃ (t : Nat) (m : Lane) (dev : Tri Int) (s u : State), u = elapse t s ∧ u.tb.tm = some m ∧ inService u m = true ∧
    u.tb.far.at .b = 1 ∧ (u.lane.at .b).state = .voting) := by
  refine ⟨0, .a, ⟨0, 41, -40⟩, inLanesFollowTheTimeMaster1, inLanesFollowTheTimeMaster1, (elapse_zero _).symm, ?_⟩
  all_goals and_intros
  all_goals first | decide +kernel | exact rfl

def inTimeRecordsAndReads1 : State := { up with
  tb := { up.tb with established := true, lockRun := 7 }
  crown := { up.crown with partner := 8 } }

def inTimeRecordsAndReads2 : State := { follows with crown := { follows.crown with renewed := true } }

def inTimeRecordsAndReads3 : State := moment 1000000 up

theorem hyp_TimeRecordsAndReads :
    (∃ (t t1 t2 t3 t4 : Nat) (x : Rcv) (s u : State), u = elapse t s ∧ Sound x u ∧ crowned u = false ∧ u.crown.state ≠ .off ∧
    u.crown.state ≠ .candidate ∧ (u.crown.partner = 8 ∨ u.crown.renewed = true) ∧ (timeOffset 0 300 400 500).natAbs ≤ 200 ∧ 7 ≤
    u.tb.lockRun ∧ u.tb.established = true) ∧ (∃ (t t1 t2 t3 t4 : Nat) (x : Rcv) (s u : State), u = elapse t s ∧ Sound x u ∧
    crowned u = false ∧ u.crown.state ≠ .off ∧ u.crown.state ≠ .candidate ∧ (u.crown.partner = 8 ∨ u.crown.renewed = true) ∧ 500
    < (timeOffset 0 3000 4000 500).natAbs) ∧ (∃ (t : Nat) (s u : State), u = elapse t s ∧ u.tb.lastTime + 1000000 ≤ u.clk.now) ∧
    (∃ (t : Nat) (h : HostId) (s u : State), u = elapse t s ∧ Served 0x0C0000 u) := by
  refine ⟨⟨0, 0, 300, 400, 500, ⟨9, true⟩, inTimeRecordsAndReads1, inTimeRecordsAndReads1, (elapse_zero _).symm, ?_⟩, ⟨0, 0,
    3000, 4000, 500, ⟨9, true⟩, inTimeRecordsAndReads2, inTimeRecordsAndReads2, (elapse_zero _).symm, ?_⟩, ⟨0,
    inTimeRecordsAndReads3, inTimeRecordsAndReads3, (elapse_zero _).symm, ?_⟩, ⟨0, 0, up, up, (elapse_zero _).symm, ?_⟩⟩
  all_goals and_intros
  all_goals first | decide +kernel | (unfold Served; decide +kernel) | (unfold Sound; decide +kernel) | exact rfl

def inQuietIntervalCompletes1 : State := quietDoor { state := .tripped, cause := 1, quiet := some 0, both := some 0 }

def inQuietIntervalCompletes2 : State := quietDoor { state := .tripped, cause := 9, quiet := some 0, both := some 0 }

def inQuietIntervalCompletes3 : State := quietDoor {
  state := .tripped
  cause := 1
  quiet := some 0
  failX := true
  used := 600000000000 }

def inQuietIntervalCompletes4 : State := quietDoor {
  state := .tripped
  cause := 1
  quiet := some 0
  failX := true
  one := some 0
  conf := true }

theorem hyp_QuietIntervalCompletes :
    (∃ (t n : Nat) (e : DoorEntry) (s u : State), u = elapse t s ∧ doorEntry u.door n = some e ∧ crowned u = true ∧ quietDone u
    (chanOf u.door 0 n) = true ∧ quietDone u (chanOf u.door 1 n) = true ∧ (chanOf u.door 0 511).state = .tripped ∧ (chanOf
    u.door 0 511).cause ≠ 9 ∧ (chanOf u.door 0 511).cause ≠ 10 ∧ (chanOf u.door 0 511).both = some 0) ∧ (∃ (t n : Nat) (e :
    DoorEntry) (s u : State), u = elapse t s ∧ doorEntry u.door n = some e ∧ crowned u = true ∧ quietDone u (chanOf u.door 0 n)
    = true ∧ quietDone u (chanOf u.door 1 n) = true ∧ (chanOf u.door 1 511).state = .tripped ∧ (chanOf u.door 1 511).cause = 9)
    ∧ (∃ (t n : Nat) (e : DoorEntry) (s u : State), u = elapse t s ∧ doorEntry u.door n = some e ∧ crowned u = true ∧ quietDone
    u (chanOf u.door 0 n) = true ∧ quietDone u (chanOf u.door 1 n) = true ∧ (chanOf u.door 0 511).state = .tripped ∧ (chanOf
    u.door 0 511).cause = 1 ∧ (chanOf u.door 0 511).both = none ∧ (chanOf u.door 0 511).failX ≠ (chanOf u.door 0 511).failY ∧
    degSpent aDoor (chanOf u.door 0 511) = true) ∧ (∃ (t n : Nat) (e : DoorEntry) (s u : State), u = elapse t s ∧ doorEntry
    u.door n = some e ∧ crowned u = true ∧ quietDone u (chanOf u.door 0 n) = true ∧ quietDone u (chanOf u.door 1 n) = true ∧
    (chanOf u.door 0 511).state = .tripped ∧ (chanOf u.door 0 511).cause = 1 ∧ (chanOf u.door 0 511).both = none ∧ (chanOf
    u.door 0 511).failX ≠ (chanOf u.door 0 511).failY ∧ aDoor.staff.isNone = false ∧ degSpent aDoor (chanOf u.door 0 511) =
    false ∧ (chanOf u.door 0 511).one = some 0 ∧ (chanOf u.door 0 511).conf = true) := by
  refine ⟨⟨0, 511, aDoor, inQuietIntervalCompletes1, inQuietIntervalCompletes1, (elapse_zero _).symm, ?_⟩, ⟨0, 511, aDoor,
    inQuietIntervalCompletes2, inQuietIntervalCompletes2, (elapse_zero _).symm, ?_⟩, ⟨0, 511, aDoor, inQuietIntervalCompletes3,
    inQuietIntervalCompletes3, (elapse_zero _).symm, ?_⟩, ⟨0, 511, aDoor, inQuietIntervalCompletes4, inQuietIntervalCompletes4,
    (elapse_zero _).symm, ?_⟩⟩
  all_goals and_intros
  all_goals first | decide +kernel | exact rfl

def inDoorUnitsAreClearedAndMirrored1 : State := moment 600000000000 (quietDoor { state := .degraded })

def inDoorUnitsAreClearedAndMirrored2 : State := quietDoor {
  state := .tripped
  cause := 9
  quiet := some 0
  agree := some 0
  x := atRest
  y := atRest }

def inDoorUnitsAreClearedAndMirrored3 : State := quietDoor {
  state := .isolated
  cause := 7
  quiet := some 0
  x := atRest
  y := atRest }

theorem hyp_DoorUnitsAreClearedAndMirrored :
    (∃ (t n : Nat) (e : DoorEntry) (s u : State), u = elapse t s ∧ doorEntry u.door n = some e ∧ crowned u = true ∧ (chanOf
    u.door 1 511).state = .degraded ∧ aDoor.degMax * 60000000000 ≤ (chanOf u.door 1 511).used + (ringNow u - (chanOf u.door 1
    511).degAt)) ∧ (∃ (t : Nat) (h : HostId) (guard : Bool) (e : DoorEntry) (s u : State), u = elapse t s ∧ Served 0x100060 u ∧
    doorEntry u.door u.door.sel = some e ∧ crowned u = true ∧ clearAllowed u guard e (chanOf u.door 0 u.door.sel) = true ∧
    clearAllowed u guard e (chanOf u.door 1 u.door.sel) = true) ∧ (∃ (t : Nat) (h : HostId) (guard : Bool) (e : DoorEntry) (s u
    : State), u = elapse t s ∧ Served 0x100060 u ∧ doorEntry u.door u.door.sel = some e ∧ crowned u = true ∧ clearAllowed u
    guard e (chanOf u.door 0 u.door.sel) = true ∧ clearAllowed u guard e (chanOf u.door 1 u.door.sel) = true) ∧ (∃ (t : Nat) (x
    : Rcv) (units : List GuardUnit) (s u : State), u = elapse t s ∧ Sound x u ∧ crowned u = false ∧ (units.map (fun g =>
    g.unit)).Nodup) := by
  refine ⟨⟨0, 511, aDoor, inDoorUnitsAreClearedAndMirrored1, inDoorUnitsAreClearedAndMirrored1, (elapse_zero _).symm, ?_⟩, ⟨0,
    1, true, aDoor, inDoorUnitsAreClearedAndMirrored2, inDoorUnitsAreClearedAndMirrored2, (elapse_zero _).symm, ?_⟩, ⟨0, 1,
    false, aDoor, inDoorUnitsAreClearedAndMirrored3, inDoorUnitsAreClearedAndMirrored3, (elapse_zero _).symm, ?_⟩, ⟨0, ⟨9,
    true⟩, [⟨511, 3, 2, true, false, 7, 5, true, 1, 2, 3, 4, 1, 2, 9, true⟩, ⟨0, 1, 1, false, true, 1, 0, false, 1, 2, 3, 4, 0,
    0, 0, false⟩], up, up, (elapse_zero _).symm, ?_⟩⟩
  all_goals and_intros
  all_goals first | decide +kernel | (unfold Served; decide +kernel) | (unfold Sound; decide +kernel) | exact rfl

def argLeaseIsRenewedAndExpires1 : Twin LeaseBody := ⟨9, some {
  epoch := 5
  ts := 100
  leaseMs := 40
  renew := true
  halted := false
  profile := 2
  setId := 1
  fromId := 0
  rolling := false }, some { epoch := 5, ts := 100, leaseMs := 40, renew := true, halted := false, profile := 2, setId := 1, fromId := 0, rolling := false }, 2000⟩

def argLeaseIsRenewedAndExpires2 : LeaseBody := {
  epoch := 5
  ts := 100
  leaseMs := 40
  renew := true
  halted := false
  profile := 2
  setId := 1
  fromId := 0
  rolling := false }

def argLeaseIsRenewedAndExpires3 : Twin LeaseBody := ⟨9, some {
  epoch := 4
  ts := 100
  leaseMs := 40
  renew := true
  halted := false
  profile := 2
  setId := 1
  fromId := 0
  rolling := false }, some { epoch := 4, ts := 100, leaseMs := 40, renew := true, halted := false, profile := 2, setId := 1, fromId := 0, rolling := false }, 2000⟩

def argLeaseIsRenewedAndExpires4 : LeaseBody := {
  epoch := 4
  ts := 100
  leaseMs := 40
  renew := true
  halted := false
  profile := 2
  setId := 1
  fromId := 0
  rolling := false }

def inLeaseIsRenewedAndExpires1 : State := { held with crown := { held.crown with tAck := 99, lastTs := 100 } }

def inLeaseIsRenewedAndExpires2 : State := moment 40000000 { held with
  crown := { held.crown with tAck := 0, lease := 40000000 } }

theorem hyp_LeaseIsRenewedAndExpires :
    (∃ (t : Nat) (x : Twin LeaseBody) (b : LeaseBody) (s u : State), u = elapse t s ∧ Agreed x b u ∧ b.renew = true ∧
    u.crown.state = .inStep ∧ b.epoch = u.crown.followed) ∧ (∃ (t : Nat) (x : Twin LeaseBody) (b : LeaseBody) (s u : State), u =
    elapse t s ∧ Agreed x b u ∧ b.renew = true ∧ u.crown.state = .inStep ∧ b.epoch.toNat < u.crown.followed.toNat) ∧ (∃ (t ts :
    Nat) (x : Rcv) (s u : State), u = elapse t s ∧ Sound x u ∧ crowned u = true ∧ ts ≤ u.crown.lastTs ∧ u.crown.tAck < ts) ∧ (∃
    (t : Nat) (s u : State), u = elapse t s ∧ crowned u = true ∧ u.rst.stage = .ready ∧ u.crown.tAck + u.crown.lease ≤ ringNow u
    ∧ (¬ (0x19 ∈ u.vote.modAct))) := by
  refine ⟨⟨0, argLeaseIsRenewedAndExpires1, argLeaseIsRenewedAndExpires2, follows, follows, (elapse_zero _).symm, ?_⟩, ⟨0,
    argLeaseIsRenewedAndExpires3, argLeaseIsRenewedAndExpires4, follows, follows, (elapse_zero _).symm, ?_⟩, ⟨0, 100, ⟨9, true⟩,
    inLeaseIsRenewedAndExpires1, inLeaseIsRenewedAndExpires1, (elapse_zero _).symm, ?_⟩, ⟨0, inLeaseIsRenewedAndExpires2,
    inLeaseIsRenewedAndExpires2, (elapse_zero _).symm, ?_⟩⟩
  all_goals and_intros
  all_goals first | decide +kernel | exact ⟨rfl, rfl, by decide, by decide⟩ | (unfold Sound; decide +kernel) | exact rfl

def inCrownIsTaken1 : State := moment 50000000 follows

def inCrownIsTaken2 : State := moment 50000000 { follows with opt := { follows.opt with fail := true } }

def inCrownIsTaken3 : State := moment 1000000000 { up with crown := { up.crown with state := .out } }

def inCrownIsTaken4 : State := moment 90000000 up

theorem hyp_CrownIsTaken :
    (∃ (t w : Nat) (s u : State), u = elapse t s ∧ u.crown.state = .inStep ∧ u.crown.view = some w ∧ w + guardNs u ≤ ringNow u ∧
    crownRefuse u = 0) ∧ (∃ (t w : Nat) (s u : State), u = elapse t s ∧ u.crown.state = .inStep ∧ u.crown.view = some w ∧ w +
    guardNs u ≤ ringNow u ∧ crownRefuse u ≠ 0) ∧ (∃ (t : Nat) (s u : State), u = elapse t s ∧ u.crown.state = .out ∧
    u.crown.outAt + 1000000000 ≤ u.clk.now) ∧ (∃ (t : Nat) (s u : State), u = elapse t s ∧ u.crown.state = .seeking ∧
    u.set.block.isSome = true ∧ u.crown.waitFrom + 2 * leaseNs u + guardNs u ≤ u.clk.now ∧ refusalReasons u = 0) := by
  refine ⟨⟨0, 40000000, inCrownIsTaken1, inCrownIsTaken1, (elapse_zero _).symm, ?_⟩, ⟨0, 40000000, inCrownIsTaken2,
    inCrownIsTaken2, (elapse_zero _).symm, ?_⟩, ⟨0, inCrownIsTaken3, inCrownIsTaken3, (elapse_zero _).symm, ?_⟩, ⟨0,
    inCrownIsTaken4, inCrownIsTaken4, (elapse_zero _).symm, ?_⟩⟩
  all_goals and_intros
  all_goals first | decide +kernel | exact rfl

def argFollowingRecordsAreTaken1 : PartBody := {
  ring := 1
  addr := 3
  beacon := 4
  ringTime := 1000000
  lanes := ⟨true, false, true⟩
  iseq := 1
  part := [0, 0] }

def argFollowingRecordsAreTaken2 : CommandBody := { slot := 511, value := 1, src := 2, tseq := 3, accepted := 4 }

def inFollowingRecordsAreTaken1 : State := { follows with
  set := {
    block := some { someSettings with
      cmds := [{ id := 2, ipv4 := true, cal := false, address := [10, 0, 0, 1], first := 0, last := 9 }] } } }

def argFollowingRecordsAreTaken3 : LatchBody := {
  cycle := 8
  b := 2000000
  lanes := Tri.all ⟨0, 0, 0, []⟩
  took := ⟨true, true, true⟩ }

def inFollowingRecordsAreTaken2 : State := { follows with
  crown := { follows.crown with
    latch := some { cycle := 7, b := 2000000, lanes := Tri.all ⟨0, 0, 0, []⟩, took := ⟨true, true, true⟩ } } }

def argFollowingRecordsAreTaken4 : LatchBody := {
  cycle := 7
  b := 2000000
  lanes := Tri.all ⟨0, 0, 0, []⟩
  took := ⟨true, true, true⟩ }

def inFollowingRecordsAreTaken3 : State := { follows with crown := { follows.crown with state := .frozen } }

theorem hyp_FollowingRecordsAreTaken :
    (∃ (t : Nat) (x : Rcv) (b : PartBody) (s u : State), u = elapse t s ∧ Sound x u ∧ keepsRecords u = true) ∧ (∃ (t : Nat) (x :
    Rcv) (b : CommandBody) (eth : Bool) (s u : State), u = elapse t s ∧ Sound x u ∧ keepsRecords u = true ∧ eth =
    (u.set.block.map (fun x => x.cmds.any (fun e => e.id == b.src && e.ipv4))).getD false) ∧ (∃ (t : Nat) (x : Rcv) (b :
    PartBody) (s u : State), u = elapse t s ∧ Sound x u ∧ keepsRecords u = true ∧ u.crown.state = .seeking) ∧ (∃ (t : Nat) (x :
    Rcv) (b : CommandBody) (eth : Bool) (s u : State), u = elapse t s ∧ Sound x u ∧ keepsRecords u = true ∧ eth =
    (u.set.block.map (fun x => x.cmds.any (fun e => e.id == b.src && e.ipv4))).getD false) ∧ (∃ (t : Nat) (x : Rcv) (b :
    LatchBody) (s u : State), u = elapse t s ∧ Sound x u ∧ keepsRecords u = true ∧ u.crown.state ≠ .frozen ∧ u.crown.latch =
    none) ∧ (∃ (t : Nat) (x : Rcv) (b : LatchBody) (s u : State) (old : LatchBody), u = elapse t s ∧ Sound x u ∧ keepsRecords u
    = true ∧ u.crown.state ≠ .frozen ∧ u.crown.latch = some old) ∧ (∃ (t : Nat) (x : Rcv) (b : LatchBody) (s u : State), u =
    elapse t s ∧ Sound x u ∧ u.crown.state = .frozen) ∧ (∃ (t : Nat) (x : Rcv) (payload : List Byte) (s u : State), u = elapse t
    s ∧ Sound x u ∧ u.comb.state ≠ .failed ∧ u.comb.c0.mode ≠ .full ∧ u.comb.queue.length < 1024) ∧ (∃ (t : Nat) (l : Fin 2) (up
    : Bool) (s u : State), u = elapse t s ∧ (if l = 0 then u.pl.sync0 else u.pl.sync1) ≠ up) := by
  refine ⟨⟨0, ⟨9, true⟩, argFollowingRecordsAreTaken1, follows, follows, (elapse_zero _).symm, ?_⟩, ⟨0, ⟨9, true⟩,
    argFollowingRecordsAreTaken2, false, follows, follows, (elapse_zero _).symm, ?_⟩, ⟨0, ⟨9, true⟩,
    argFollowingRecordsAreTaken1, up, up, (elapse_zero _).symm, ?_⟩, ⟨0, ⟨9, true⟩, argFollowingRecordsAreTaken2, true,
    inFollowingRecordsAreTaken1, inFollowingRecordsAreTaken1, (elapse_zero _).symm, ?_⟩, ⟨0, ⟨9, true⟩,
    argFollowingRecordsAreTaken3, follows, follows, (elapse_zero _).symm, ?_⟩, ⟨0, ⟨9, true⟩, argFollowingRecordsAreTaken3,
    inFollowingRecordsAreTaken2, inFollowingRecordsAreTaken2, argFollowingRecordsAreTaken4, (elapse_zero _).symm, ?_⟩, ⟨0, ⟨9,
    true⟩, argFollowingRecordsAreTaken3, inFollowingRecordsAreTaken3, inFollowingRecordsAreTaken3, (elapse_zero _).symm, ?_⟩,
    ⟨0, ⟨9, true⟩, [1, 2, 3], up, up, (elapse_zero _).symm, ?_⟩, ⟨0, 1, false, up, up, (elapse_zero _).symm, ?_⟩⟩
  all_goals and_intros
  all_goals first | decide +kernel | (unfold Sound; decide +kernel) | exact rfl

theorem hyp_EveryCommandCompletes :
    (∃ (c : Instr) (s : State), verbOf c = none) ∧ (∃ (c : Instr) (s : State) (k : Nat) (l : Lane) (w : W64), verbOf c = some
    (k, l, w) ∧ ((vword w).verb.toNat = k ∨ verbForm (vword w).verb = none)) ∧ (∃ (c : Instr) (s : State) (k : Nat) (l : Lane)
    (w : W64), verbOf c = some (k, l, w) ∧ ((vword w).verb.toNat = k ∨ verbForm (vword w).verb = none) ∧ verbForm (vword w).verb
    = none) ∧ (∃ (c : Instr) (s : State) (k : Nat) (l : Lane) (w : W64), verbOf c = some (k, l, w) ∧ (vword w).verb.toNat ≠ k ∧
    (verbForm (vword w).verb).isSome = true) := by
  refine ⟨⟨.lifeCheckpoint 0, up, ?_⟩, ⟨.verbNot .b 0x2400000000000000, up, 9, .b, 0x2400000000000000, ?_⟩, ⟨.verbNot .b 0, up,
    9, .b, 0, ?_⟩, ⟨.verbNot .b 0x0400000000000000, up, 9, .b, 0x0400000000000000, ?_⟩⟩
  all_goals and_intros
  all_goals first | decide +kernel | exact rfl

def argPartnerRecordsAreChecked1 : StatusBody := {
  cycle := 8
  state := 1
  matched := 0
  voting := ⟨true, true, true⟩
  refuse := 1
  degraded := false
  degLeft := 0
  testing := false
  xw := {} }

theorem hyp_PartnerRecordsAreChecked :
    (∃ (t ts t1 t2 t3 t4 : Nat) (x : Rcv) (e version : W32) (pb : PartBody) (cb : CommandBody) (lb : LatchBody) (us : List
    GuardUnit) (yb : CopyBody) (sb : StatusBody) (bytes : List Byte) (item reason : Byte) (level least : W16) (c : Instr) (s u :
    State), u = elapse t s ∧ c ∈ [.leaseAckRecord t x ts e, .timeRecord t x t1 t2 t3 t4, .partRecord t x pb, .commandRecord t x
    cb, .latchRecord t x lb, .guardRecord t x us, .copyRecord t x yb, .statusRecord t x sb, .eventRecord t x bytes, .recoveryReq
    t x item version reason, .pairInfo t x version level least] ∧ (x.sound = false ∨ injected 0x0901 u ≠ none)) ∧ (∃ (t ts t1 t2
    t3 t4 : Nat) (x : Rcv) (e version : W32) (pb : PartBody) (cb : CommandBody) (lb : LatchBody) (us : List GuardUnit) (yb :
    CopyBody) (sb : StatusBody) (bytes : List Byte) (item reason : Byte) (level least : W16) (c : Instr) (s u : State), u =
    elapse t s ∧ c ∈ [.leaseAckRecord t x ts e, .timeRecord t x t1 t2 t3 t4, .partRecord t x pb, .commandRecord t x cb,
    .latchRecord t x lb, .guardRecord t x us, .copyRecord t x yb, .statusRecord t x sb, .eventRecord t x bytes, .recoveryReq t x
    item version reason, .pairInfo t x version level least] ∧ Sound x u) := by
  refine ⟨⟨0, 3, 0, 300, 400, 500, ⟨9, false⟩, 1, 1, argFollowingRecordsAreTaken1, argFollowingRecordsAreTaken2,
    argFollowingRecordsAreTaken3, [], aCopy, argPartnerRecordsAreChecked1, [1, 2], 4, 1, 1, 1, .leaseAckRecord 0 ⟨9, false⟩ 3 1,
    follows, follows, (elapse_zero _).symm, ?_⟩, ⟨0, 3, 0, 300, 400, 500, ⟨9, true⟩, 1, 1, argFollowingRecordsAreTaken1,
    argFollowingRecordsAreTaken2, argFollowingRecordsAreTaken3, [], aCopy, argPartnerRecordsAreChecked1, [1, 2], 4, 1, 1, 1,
    .eventRecord 0 ⟨9, true⟩ [1, 2], follows, follows, (elapse_zero _).symm, ?_⟩⟩
  all_goals and_intros
  all_goals first | decide +kernel | (unfold Sound; decide +kernel) | exact rfl

def inStandbyAndHolderLearn1 : State := { follows with crown := { follows.crown with own := some ⟨8, some 0xABCD⟩ } }

def argStandbyAndHolderLearn1 : Twin CommitBody := ⟨9, some {
  cycle := 8
  kind := .normal
  digest := 0xABCD
  fault := 0
  voting := ⟨true, true, true⟩
  combSeq := 11
  xw := {
    } }, some { cycle := 8, kind := .normal, digest := 0xABCD, fault := 0, voting := ⟨true, true, true⟩, combSeq := 11, xw := {} }, 2000⟩

def argStandbyAndHolderLearn2 : CommitBody := {
  cycle := 8
  kind := .normal
  digest := 0xABCD
  fault := 0
  voting := ⟨true, true, true⟩
  combSeq := 11
  xw := {} }

def argStandbyAndHolderLearn3 : Twin CommitBody := ⟨9, some {
  cycle := 8
  kind := .normal
  digest := 0xABCE
  fault := 0
  voting := ⟨true, true, true⟩
  combSeq := 11
  xw := {
    } }, some { cycle := 8, kind := .normal, digest := 0xABCE, fault := 0, voting := ⟨true, true, true⟩, combSeq := 11, xw := {} }, 2000⟩

def argStandbyAndHolderLearn4 : CommitBody := {
  cycle := 8
  kind := .normal
  digest := 0xABCE
  fault := 0
  voting := ⟨true, true, true⟩
  combSeq := 11
  xw := {} }

def inStandbyAndHolderLearn2 : State := moment 5000000 copies

def argStandbyAndHolderLearn5 : Twin ClaimRec := ⟨9, some {
  epoch := 7
  body := {
    seq := 0
    mask := 2
    seenEpoch := 0
    seenRank := 0 } }, some { epoch := 7, body := { seq := 0, mask := 2, seenEpoch := 0, seenRank := 0 } }, 2000⟩

def argStandbyAndHolderLearn6 : ClaimRec := { epoch := 7, body := { seq := 0, mask := 2, seenEpoch := 0, seenRank := 0 } }

def argStandbyAndHolderLearn7 : Twin ClaimRec := ⟨9, some {
  epoch := 5
  body := {
    seq := 0
    mask := 2
    seenEpoch := 0
    seenRank := 0 } }, some { epoch := 5, body := { seq := 0, mask := 2, seenEpoch := 0, seenRank := 0 } }, 2000⟩

def argStandbyAndHolderLearn8 : ClaimRec := { epoch := 5, body := { seq := 0, mask := 2, seenEpoch := 0, seenRank := 0 } }

def inStandbyAndHolderLearn3 : State := { follows with crown := { follows.crown with partner := 8 } }

theorem hyp_StandbyAndHolderLearn :
    (∃ (t : Nat) (x : Twin CommitBody) (b : CommitBody) (d : W32) (s u : State), u = elapse t s ∧ Agreed x b u ∧ (u.crown.state
    = .proving ∨ u.crown.state = .inStep) ∧ u.crown.finalLatch = false ∧ b.kind = .normal ∧ b.xw.state = .none ∧ u.crown.own =
    some ⟨b.cycle, some d⟩ ∧ u.crown.heard = none ∧ compareLate b.cycle u = false) ∧ (∃ (t : Nat) (x : Twin CommitBody) (b :
    CommitBody) (d : W32) (s u : State), u = elapse t s ∧ Agreed x b u ∧ (u.crown.state = .proving ∨ u.crown.state = .inStep) ∧
    u.crown.finalLatch = false ∧ b.kind = .normal ∧ b.xw.state = .none ∧ u.crown.own = some ⟨b.cycle, some d⟩ ∧ u.crown.heard =
    none ∧ compareLate b.cycle u = false ∧ (0xABCD : W32) ≠ 0xABCE) ∧ (∃ (t : Nat) (x : Rcv) (b : CopyBody) (s u : State), u =
    elapse t s ∧ Sound x u ∧ u.crown.state = .copying ∧ b.pass = u.crown.pass ∧ b.check = copyCheck b.pass b.cycle b.words ∧
    b.pass < 63 ∧ (b.snapAt / max 1 (tProg u) + 1) * tProg u + 4000 ≤ ringNow u ∧ aCopy.pass = 0 ∧ Lane.a ∈ copyLanes u ∧ 0 <
    nounTop u ∧ 0 < aCopy.words.length) ∧ (∃ (t : Nat) (x : Rcv) (b : CopyBody) (s u : State), u = elapse t s ∧ Sound x u ∧
    u.crown.state = .copying ∧ b.pass = u.crown.pass ∧ b.check ≠ copyCheck b.pass b.cycle b.words) ∧ (∃ (t : Nat) (x : Rcv) (b :
    StatusBody) (s u : State), u = elapse t s ∧ Sound x u ∧ crowned u = true ∧ b.xw.state ≠ .cancel) ∧ (∃ (t : Nat) (x : Twin
    ClaimRec) (b : ClaimRec) (s u : State), u = elapse t s ∧ Agreed x b u ∧ u.crown.state = .candidate) ∧ (∃ (t : Nat) (x : Twin
    ClaimRec) (b : ClaimRec) (s u : State), u = elapse t s ∧ Agreed x b u ∧ u.crown.state = .candidate) ∧ (∃ (t : Nat) (x : Twin
    Unit) (s u : State), u = elapse t s ∧ Agreed x () u ∧ u.crown.state = .inStep ∧ u.crown.partner = 8 ∧ crownRefuse u = 0) ∧
    (∃ (t : Nat) (x : Twin Unit) (s u : State), u = elapse t s ∧ Agreed x () u ∧ u.crown.state = .crowned) := by
  refine ⟨⟨0, argStandbyAndHolderLearn1, argStandbyAndHolderLearn2, 0xABCD, inStandbyAndHolderLearn1, inStandbyAndHolderLearn1,
    (elapse_zero _).symm, ?_⟩, ⟨0, argStandbyAndHolderLearn3, argStandbyAndHolderLearn4, 0xABCD, inStandbyAndHolderLearn1,
    inStandbyAndHolderLearn1, (elapse_zero _).symm, ?_⟩, ⟨0, ⟨9, true⟩, aCopy, inStandbyAndHolderLearn2,
    inStandbyAndHolderLearn2, (elapse_zero _).symm, ?_⟩, ⟨0, ⟨9, true⟩, { aCopy with check := aCopy.check + 1 },
    inStandbyAndHolderLearn2, inStandbyAndHolderLearn2, (elapse_zero _).symm, ?_⟩, ⟨0, ⟨9, true⟩, argPartnerRecordsAreChecked1,
    held, held, (elapse_zero _).symm, ?_⟩, ⟨0, argStandbyAndHolderLearn5, argStandbyAndHolderLearn6, claims, claims,
    (elapse_zero _).symm, ?_⟩, ⟨0, argStandbyAndHolderLearn7, argStandbyAndHolderLearn8, claims, claims, (elapse_zero _).symm,
    ?_⟩, ⟨0, ⟨9, some (), some (), 2000⟩, inStandbyAndHolderLearn3, inStandbyAndHolderLearn3, (elapse_zero _).symm, ?_⟩, ⟨0, ⟨9,
    some (), some (), 2000⟩, held, held, (elapse_zero _).symm, ?_⟩⟩
  all_goals and_intros
  all_goals first | decide +kernel | exact ⟨rfl, rfl, by decide, by decide⟩ | (unfold Sound; decide +kernel) | exact rfl

def inHandoverAndRotation1 : State := { held with
  crown := { held.crown with ho := some { h := 20, why := .rotation, accepted := false } } }

def argHandoverAndRotation1 : Handover := { h := 20, why := .rotation, accepted := false }

def inHandoverAndRotation2 : State := { follows with
  crown := { follows.crown with ho := some { h := 20, why := .rotation, accepted := true }, own := some ⟨20, some 77⟩ } }

def argHandoverAndRotation2 : Handover := { h := 20, why := .rotation, accepted := true }

def inHandoverAndRotation3 : State := { follows with
  crown := { follows.crown with ho := some { h := 20, why := .rotation, accepted := true } } }

def inHandoverAndRotation4 : State := moment 3600000000000 held

def inHandoverAndRotation5 : State := moment 60000000000 { held with crown := { held.crown with retry := some .now } }

theorem hyp_HandoverAndRotation :
    (∃ (t : Nat) (x : Twin (W32 × W32)) (h e : W32) (s u : State), u = elapse t s ∧ Agreed x (h, e) u ∧ crowned u = false ∧
    crownRefuse u = 0) ∧ (∃ (t : Nat) (x : Twin (W32 × W32)) (h e : W32) (s u : State), u = elapse t s ∧ Agreed x (h, e) u ∧
    crowned u = false ∧ crownRefuse u ≠ 0) ∧ (∃ (t : Nat) (o : Handover) (s u : State) (x : Twin W32), u = elapse t s ∧
    u.crown.ho = some o ∧ crowned u = true ∧ Agreed x o.h u) ∧ (∃ (t : Nat) (o : Handover) (s u : State) (x : Twin (W32 × W32))
    (why : W32), u = elapse t s ∧ u.crown.ho = some o ∧ crowned u = true ∧ Agreed x (o.h, why) u) ∧ (∃ (t : Nat) (o : Handover)
    (s u : State) (x : Twin (W32 × W32)) (d : W32), u = elapse t s ∧ u.crown.ho = some o ∧ u.crown.state = .inStep ∧ Agreed x
    (o.h, d) u ∧ o.accepted = true ∧ u.crown.own = some ⟨o.h, some d⟩) ∧ (∃ (t : Nat) (o : Handover) (s u : State) (x : Twin
    W32), u = elapse t s ∧ u.crown.ho = some o ∧ u.crown.state = .inStep ∧ Agreed x o.h u) ∧ (∃ (t : Nat) (s u : State) (i :
    Instr) (why : OfferWhy), u = elapse t s ∧ crowned u = true ∧ u.crown.ho = none ∧ ((i = .rotationDue t ∧ why = .rotation ∧ 0
    < rotationUs u ∧ u.crown.heldFrom + rotationUs u ≤ u.clk.lifeUs ∧ u.crown.retry = none) ∨ (i = .rotationRetry t ∧
    u.crown.retry = some why ∧ why ≠ .degraded ∧ u.crown.retryAt + 60000000000 ≤ u.clk.now) ∨ (∃ h, i = .rotateNow t h ∧ why =
    .now ∧ Served 0x0D0028 u)) ∧ offerPostponed .rotation u = true) ∧ (∃ (t : Nat) (s u : State) (i : Instr) (why : OfferWhy), u
    = elapse t s ∧ crowned u = true ∧ u.crown.ho = none ∧ ((i = .rotationDue t ∧ why = .rotation ∧ 0 < rotationUs u ∧
    u.crown.heldFrom + rotationUs u ≤ u.clk.lifeUs ∧ u.crown.retry = none) ∨ (i = .rotationRetry t ∧ u.crown.retry = some why ∧
    why ≠ .degraded ∧ u.crown.retryAt + 60000000000 ≤ u.clk.now) ∨ (∃ h, i = .rotateNow t h ∧ why = .now ∧ Served 0x0D0028 u)))
    ∧ (∃ (t : Nat) (s u : State) (i : Instr) (why : OfferWhy), u = elapse t s ∧ crowned u = true ∧ u.crown.ho = none ∧ ((i =
    .rotationDue t ∧ why = .rotation ∧ 0 < rotationUs u ∧ u.crown.heldFrom + rotationUs u ≤ u.clk.lifeUs ∧ u.crown.retry = none)
    ∨ (i = .rotationRetry t ∧ u.crown.retry = some why ∧ why ≠ .degraded ∧ u.crown.retryAt + 60000000000 ≤ u.clk.now) ∨ (∃ h, i
    = .rotateNow t h ∧ why = .now ∧ Served 0x0D0028 u)) ∧ offerPostponed .now u = false) := by
  refine ⟨⟨0, ⟨9, some (20, 6), some (20, 6), 2000⟩, 20, 6, follows, follows, (elapse_zero _).symm, ?_⟩, ⟨0, ⟨9, some (20, 6),
    some (20, 6), 2000⟩, 20, 6, up, up, (elapse_zero _).symm, ?_⟩, ⟨0, argHandoverAndRotation1, inHandoverAndRotation1,
    inHandoverAndRotation1, ⟨9, some 20, some 20, 2000⟩, (elapse_zero _).symm, ?_⟩, ⟨0, argHandoverAndRotation1,
    inHandoverAndRotation1, inHandoverAndRotation1, ⟨9, some (20, 3), some (20, 3), 2000⟩, 3, (elapse_zero _).symm, ?_⟩, ⟨0,
    argHandoverAndRotation2, inHandoverAndRotation2, inHandoverAndRotation2, ⟨9, some (20, 77), some (20, 77), 2000⟩, 77,
    (elapse_zero _).symm, ?_⟩, ⟨0, argHandoverAndRotation2, inHandoverAndRotation3, inHandoverAndRotation3, ⟨9, some 20, some
    20, 2000⟩, (elapse_zero _).symm, ?_⟩, ⟨0, inHandoverAndRotation4, inHandoverAndRotation4, .rotationDue 0, .rotation,
    (elapse_zero _).symm, ?_⟩, ⟨0, inHandoverAndRotation5, inHandoverAndRotation5, .rotationRetry 0, .now, (elapse_zero _).symm,
    ?_⟩, ⟨0, willing, willing, .rotateNow 0 3, .now, (elapse_zero _).symm, ?_⟩⟩
  all_goals and_intros
  all_goals first | decide +kernel | exact ⟨rfl, rfl, by decide, by decide⟩ | (unfold Served; decide +kernel) |
    exact .inl (by decide) | exact .inr (.inl (by decide)) | exact .inr (.inr ⟨_, rfl, rfl, by decide, by decide⟩) | exact rfl

def argExchangeMoves1 : Px := { proposes.px with
  state := if hasPartner proposes then .proposed else .agreed
  h := proposes.px.target }

def argExchangeMoves2 : Px := { agrees.px with
  state := .staged
  reason := 0x0A
  cancels := satAdd agrees.px.cancels 1 0xFFFF
  h := 0
  cancel := some agrees.px.h }

def inExchangeMoves1 : State := { follows with px := { follows.px with state := .staged, partner := { state := .propose } } }

def inExchangeMoves2 : State := { up with px := { up.px with state := .staging } }

def inExchangeMoves3 : State := moment 9000000 { follows with
  px := { follows.px with state := .agreed, h := 8 }
  cyc := { n := 8, b := 8000000 } }

def inExchangeMoves4 : State := { up with px := { up.px with dirAt := some 5 } }

theorem hyp_ExchangeMoves :
    (∃ (t : Nat) (h : HostId) (s u : State) (i : Instr) (y : Px), u = elapse t s ∧ Served 0x000044 u ∧ ((i = .pxStage t h ∧
    u.px.state = .idle ∧ y = { u.px with state := .staging }) ∨ (i = .pxPropose t h ∧ proposable u = true ∧ y =
    { u.px with state := if hasPartner u then .proposed else .agreed, h := u.px.target }) ∨ (i = .pxCancel t h ∧ (u.px.state =
    .proposed ∨ u.px.state = .agreed) ∧ y =
    { u.px with state := .staged, reason := 0x0A, cancels := satAdd u.px.cancels 1 0xFFFF, h := 0, cancel := some u.px.h }))) ∧
    (∃ (t : Nat) (h : HostId) (s u : State) (i : Instr) (y : Px), u = elapse t s ∧ Served 0x000044 u ∧ ((i = .pxStage t h ∧
    u.px.state = .idle ∧ y = { u.px with state := .staging }) ∨ (i = .pxPropose t h ∧ proposable u = true ∧ y =
    { u.px with state := if hasPartner u then .proposed else .agreed, h := u.px.target }) ∨ (i = .pxCancel t h ∧ (u.px.state =
    .proposed ∨ u.px.state = .agreed) ∧ y =
    { u.px with state := .staged, reason := 0x0A, cancels := satAdd u.px.cancels 1 0xFFFF, h := 0, cancel := some u.px.h }))) ∧
    (∃ (t : Nat) (h : HostId) (s u : State) (i : Instr) (y : Px), u = elapse t s ∧ Served 0x000044 u ∧ ((i = .pxStage t h ∧
    u.px.state = .idle ∧ y = { u.px with state := .staging }) ∨ (i = .pxPropose t h ∧ proposable u = true ∧ y =
    { u.px with state := if hasPartner u then .proposed else .agreed, h := u.px.target }) ∨ (i = .pxCancel t h ∧ (u.px.state =
    .proposed ∨ u.px.state = .agreed) ∧ y =
    { u.px with state := .staged, reason := 0x0A, cancels := satAdd u.px.cancels 1 0xFFFF, h := 0, cancel := some u.px.h }))) ∧
    (∃ (t : Nat) (h : HostId) (s u : State), u = elapse t s ∧ Served 0x000044 u ∧ sendsReady u = true) ∧ (∃ (t : Nat) (s u :
    State), u = elapse t s ∧ u.px.state = .staging ∧ (¬ ((stagingResult u).1 = 0 ∧ 2 ≤ (voters u).length))) ∧ (∃ (t : Nat) (s u
    : State), u = elapse t s ∧ crowned u = false ∧ u.px.state = .agreed ∧ u.px.partnerCycle ≠ u.px.h ∧ goLate u = true) ∧ (∃ (t
    : Nat) (s u : State), u = elapse t s ∧ u.px.dirAt.isSome = true) ∧ (∃ (t : Nat) (h : HostId) (sid : Bool) (s u : State), u =
    elapse t s ∧ Served (if sid then 0x00005C else 0x000054) u) ∧ (∃ (t : Nat) (h : HostId) (sid : Bool) (s u : State), u =
    elapse t s ∧ Served (if sid then 0x00005C else 0x000054) u) := by
  refine ⟨⟨0, 1, up, up, .pxStage 0 1, { up.px with state := .staging }, (elapse_zero _).symm, ?_⟩, ⟨0, 1, proposes, proposes,
    .pxPropose 0 1, argExchangeMoves1, (elapse_zero _).symm, ?_⟩, ⟨0, 1, agrees, agrees, .pxCancel 0 1, argExchangeMoves2,
    (elapse_zero _).symm, ?_⟩, ⟨0, 1, inExchangeMoves1, inExchangeMoves1, (elapse_zero _).symm, ?_⟩, ⟨0, inExchangeMoves2,
    inExchangeMoves2, (elapse_zero _).symm, ?_⟩, ⟨0, inExchangeMoves3, inExchangeMoves3, (elapse_zero _).symm, ?_⟩, ⟨0,
    inExchangeMoves4, inExchangeMoves4, (elapse_zero _).symm, ?_⟩, ⟨0, 1, true, up, up, (elapse_zero _).symm, ?_⟩, ⟨0, 1, false,
    up, up, (elapse_zero _).symm, ?_⟩⟩
  all_goals and_intros
  all_goals first | decide +kernel | (unfold Served; decide +kernel) | exact rfl

def inCellsAreCreatedAndWritten1 : State := { up with comb := { up.comb with c2 := { up.comb.c2 with mode := .full } } }

def inCellsAreCreatedAndWritten2 : State := { up with comb := { up.comb with queue := List.replicate 1024 (0, aCell) } }

def inCellsAreCreatedAndWritten3 : State := { up with comb := { up.comb with queue := [(1, aCell)] } }

def argCellsAreCreatedAndWritten1 : InProg := ⟨1, { aCell with verified := true }, .queued, false⟩

def inCellsAreCreatedAndWritten4 : State := { up with
  comb := { up.comb with queue := [(1, aCell)], prog := some ⟨1, aCell, .queued, true⟩ } }

def inCellsAreCreatedAndWritten5 : State := { up with comb := { up.comb with lossCnt := [0, 2, 0, 0] } }

def inCellsAreCreatedAndWritten6 : State := { up with comb := { up.comb with state := .scanning } }

def inCellsAreCreatedAndWritten7 : State := moment 1600000 { up with comb := { up.comb with holdupEnd := some 1600000 } }

theorem hyp_CellsAreCreatedAndWritten :
    (∃ (t : Nat) (i : Fin 3) (n : Note) (vals : List Nat) (s u : State), u = elapse t s ∧ u.comb.state ≠ .failed ∧ (u.comb.arr
    0).mode ≠ .full ∧ u.comb.queue.length < 1024) ∧ (∃ (t : Nat) (i : Fin 3) (n : Note) (vals : List Nat) (s u : State), u =
    elapse t s ∧ u.comb.state ≠ .failed ∧ (u.comb.arr (2 : Fin 3)).mode = .full) ∧ (∃ (t : Nat) (i : Fin 3) (n : Note) (vals :
    List Nat) (s u : State), u = elapse t s ∧ u.comb.state ≠ .failed ∧ (u.comb.arr (1 : Fin 3)).mode ≠ .full ∧ 1024 ≤
    u.comb.queue.length) ∧ (∃ (t : Nat) (w : InProg) (how : ProgramEnd) (s u : State), u = elapse t s ∧ writerRuns u = true ∧
    injected 0x0A01 u = none ∧ w.comb ≤ 2 ∧ (u.comb.prog = some w ∨ (u.comb.prog = none ∧ u.comb.frzReq = false ∧ nextCell u =
    some w)) ∧ (w.data = true → how ≠ .dataFailed) ∧ u.comb.prog = none) ∧ (∃ (t : Nat) (w : InProg) (how : ProgramEnd) (s u :
    State), u = elapse t s ∧ writerRuns u = true ∧ injected 0x0A01 u = none ∧ w.comb ≤ 2 ∧ (u.comb.prog = some w ∨ (u.comb.prog
    = none ∧ u.comb.frzReq = false ∧ nextCell u = some w)) ∧ (w.data = true → how ≠ .dataFailed) ∧ u.comb.prog = some ⟨1, aCell,
    .queued, true⟩) ∧ (∃ (t : Nat) (s u : State), u = elapse t s ∧ u.comb.lossCnt.any (fun n => n != 0) = true ∧
    u.comb.queue.length < 1024 ∧ u.comb.state ≠ .failed ∧ u.comb.c0.mode ≠ .full) ∧ (∃ (t : Nat) (s u : State), u = elapse t s ∧
    u.comb.state = .scanning ∧ u.comb.failed = false) ∧ (∃ (t e : Nat) (s u : State), u = elapse t s ∧ u.comb.holdupEnd = some e
    ∧ e ≤ u.clk.now) ∧ (∃ (t : Nat) (s u : State), u = elapse t s ∧ u.comb.failed = false) := by
  refine ⟨⟨0, 0, .ringWrap, [1], up, up, (elapse_zero _).symm, ?_⟩, ⟨0, 2, .ringWrap, [1], inCellsAreCreatedAndWritten1,
    inCellsAreCreatedAndWritten1, (elapse_zero _).symm, ?_⟩, ⟨0, 1, .ringWrap, [1], inCellsAreCreatedAndWritten2,
    inCellsAreCreatedAndWritten2, (elapse_zero _).symm, ?_⟩, ⟨0, argCellsAreCreatedAndWritten1, .capFailed 1,
    inCellsAreCreatedAndWritten3, inCellsAreCreatedAndWritten3, (elapse_zero _).symm, ?_⟩, ⟨0, ⟨1, aCell, .queued, true⟩, .good,
    inCellsAreCreatedAndWritten4, inCellsAreCreatedAndWritten4, (elapse_zero _).symm, ?_⟩, ⟨0, inCellsAreCreatedAndWritten5,
    inCellsAreCreatedAndWritten5, (elapse_zero _).symm, ?_⟩, ⟨0, inCellsAreCreatedAndWritten6, inCellsAreCreatedAndWritten6,
    (elapse_zero _).symm, ?_⟩, ⟨0, 1600000, inCellsAreCreatedAndWritten7, inCellsAreCreatedAndWritten7, (elapse_zero _).symm,
    ?_⟩, ⟨0, up, up, (elapse_zero _).symm, ?_⟩⟩
  all_goals and_intros
  all_goals first | decide +kernel | exact rfl

def inCombHostCommands1 : State := { up with comb := { up.comb with frzReq := true } }

def inCombHostCommands2 : State := { up with
  comb := { up.comb with frzReq := true, queue := [(1, aCell)], prog := some ⟨1, aCell, .queued, false⟩ } }

def inCombHostCommands3 : State := moment 100000000 { up with
  comb := { up.comb with frzReq := true, frzActive := true, state := .frozen } }

def inCombHostCommands4 : State := { up with
  comb := { up.comb with c0 := { up.comb.c0 with mode := .clearing, erasing := true } } }

def inCombHostCommands5 : State := { up with
  comb := { up.comb with lw := { up.comb.lw with mode := .clearing, erasing := true } } }

def inCombHostCommands6 : State := { up with comb := { up.comb with c2 := { up.comb.c2 with mode := .clearing } } }

def inCombHostCommands7 : State := { up with eth := { up.eth with comb1 := true } }

theorem hyp_CombHostCommands :
    (∃ (t : Nat) (h : HostId) (w : W32) (s u : State), u = elapse t s ∧ Served 0x0E0060 u ∧ w.getLsbD 0 = true ∧ crowned u =
    false ∧ anyClearing u.comb = false ∧ u.comb.state ≠ .failed) ∧ (∃ (t : Nat) (s u : State), u = elapse t s ∧ u.comb.frzReq =
    true ∧ u.comb.frzActive = false ∧ u.comb.state = .running ∧ u.comb.prog = none) ∧ (∃ (t : Nat) (s u : State) (w : InProg), u
    = elapse t s ∧ u.comb.frzReq = true ∧ u.comb.frzActive = false ∧ u.comb.state = .running ∧ u.comb.prog = some w) ∧ (∃ (t :
    Nat) (s u : State), u = elapse t s ∧ u.comb.frzActive = true ∧ u.comb.state = .frozen ∧ u.comb.frzSince + max 1
    u.comb.frzMaxMs * 1000000 ≤ u.clk.now) ∧ (∃ (t : Nat) (h : HostId) (m : BitVec 4) (s u : State), u = elapse t s ∧ Served
    0x0E0070 u ∧ u.test.scanEn = false) ∧ (∃ (t : Nat) (h : HostId) (m : BitVec 4) (s u : State), u = elapse t s ∧ Served
    0x0E0070 u ∧ clearForbidden u m = false ∧ (0x9#4).getLsbD 0 = true ∧ (0x9#4).getLsbD 3 = true) ∧ (∃ (t : Nat) (h : HostId)
    (m : BitVec 4) (s u : State), u = elapse t s ∧ Served 0x0E0070 u ∧ clearForbidden u m = false) ∧ (∃ (t : Nat) (h : HostId)
    (m : BitVec 4) (s u : State), u = elapse t s ∧ Served 0x0E0070 u ∧ clearForbidden u m = false ∧ (0x2#4).getLsbD 0 = false) ∧
    (∃ (t : Nat) (a : Fin 4) (s u : State), u = elapse t s ∧ a ≠ 3 ∧ (u.comb.arr a).erasing = true ∧ u.comb.own = [] ∧
    u.comb.state ≠ .failed) ∧ (∃ (t : Nat) (s u : State), u = elapse t s ∧ u.comb.lw.erasing = true ∧ u.comb.own = []) ∧ (∃ (t :
    Nat) (i : Fin 3) (s u : State), u = elapse t s ∧ (u.comb.arr i).mode = .clearing ∧ (u.comb.arr i).erasing = false) ∧ (∃ (t :
    Nat) (h : HostId) (m : BitVec 4) (s u : State), u = elapse t s ∧ Served 0x0E0100 u) ∧ (∃ (t comb first last : Nat) (conn :
    Fin 2) (s u : State), u = elapse t s ∧ (if conn = 0 then u.eth.comb0 else u.eth.comb1) = true ∧ u.test.running = false) ∧ (∃
    (t : Nat) (h : HostId) (s u : State), u = elapse t s ∧ Served 0x0E0004 u) := by
  refine ⟨⟨0, 1, 0x640001, up, up, (elapse_zero _).symm, ?_⟩, ⟨0, inCombHostCommands1, inCombHostCommands1,
    (elapse_zero _).symm, ?_⟩, ⟨0, inCombHostCommands2, inCombHostCommands2, ⟨1, aCell, .queued, false⟩, (elapse_zero _).symm,
    ?_⟩, ⟨0, inCombHostCommands3, inCombHostCommands3, (elapse_zero _).symm, ?_⟩, ⟨0, 1, 0xF, up, up, (elapse_zero _).symm, ?_⟩,
    ⟨0, 1, 0x9, up, up, (elapse_zero _).symm, ?_⟩, ⟨0, 1, 0x6, up, up, (elapse_zero _).symm, ?_⟩, ⟨0, 1, 0x2, up, up,
    (elapse_zero _).symm, ?_⟩, ⟨0, 0, inCombHostCommands4, inCombHostCommands4, (elapse_zero _).symm, ?_⟩, ⟨0,
    inCombHostCommands5, inCombHostCommands5, (elapse_zero _).symm, ?_⟩, ⟨0, 2, inCombHostCommands6, inCombHostCommands6,
    (elapse_zero _).symm, ?_⟩, ⟨0, 1, 0x5, up, up, (elapse_zero _).symm, ?_⟩, ⟨0, 0, 0, 5, 1, inCombHostCommands7,
    inCombHostCommands7, (elapse_zero _).symm, ?_⟩, ⟨0, 1, up, up, (elapse_zero _).symm, ?_⟩⟩
  all_goals and_intros
  all_goals first | decide +kernel | (unfold Served; decide +kernel) | exact rfl

theorem hyp_CheckPortOperations :
    (∃ (t : Nat) (l : Lane) (c d : Fin 32) (s u : State) (i : Instr) (b : List Byte), u = elapse t s ∧ ((∃ x, i = .portByteWrite
    t l c x ∧ b = [x]) ∨ (∃ x : W16, i = .portHalfWrite t l c x ∧ b = leBytes 2 x.toNat) ∨ (∃ x : W32, i = .portWordWrite t l c
    x ∧ b = leBytes 4 x.toNat) ∨ (i = .portSplice t l d c ∧ b = ctxBytes (u.port.at l) d))) ∧ (∃ (t : Nat) (l : Lane) (c d : Fin
    32) (s u : State) (i : Instr) (b : List Byte), u = elapse t s ∧ ((∃ x, i = .portByteWrite t l c x ∧ b = [x]) ∨ (∃ x : W16, i
    = .portHalfWrite t l c x ∧ b = leBytes 2 x.toNat) ∨ (∃ x : W32, i = .portWordWrite t l c x ∧ b = leBytes 4 x.toNat) ∨ (i =
    .portSplice t l d c ∧ b = ctxBytes (u.port.at l) d))) ∧ (∃ (t : Nat) (l : Lane) (c d : Fin 32) (s u : State), u = elapse t
    s) ∧ (∃ (t : Nat) (l : Lane) (c d : Fin 32) (s u : State), u = elapse t s) := by
  refine ⟨⟨0, .c, 31, 0, up, up, .portByteWrite 0 .c 31 7, [7], (elapse_zero _).symm, ?_⟩, ⟨0, .c, 31, 0, up, up, .portSplice 0
    .c 0 31, ctxBytes (up.port.at .c) 0, (elapse_zero _).symm, ?_⟩, ⟨0, .c, 31, 0, up, up, (elapse_zero _).symm⟩, ⟨0, .c, 31, 0,
    up, up, (elapse_zero _).symm⟩⟩
  all_goals and_intros
  all_goals first | exact .inl ⟨7, rfl, rfl⟩ | exact .inr (.inr (.inr ⟨rfl, rfl⟩)) | decide +kernel | exact rfl

def inScansAndStoredChecks1 : State := { up with port := up.port.put .a { queue := [aScan] } }

theorem hyp_ScansAndStoredChecks :
    (∃ (t : Nat) (l : Lane) (r : ScanReq) (s u : State), u = elapse t s ∧ 1 ≤ r.len ∧ r.len ≤ 2 ^ 24) ∧ (∃ (t : Nat) (l : Lane)
    (words : List W64) (r : ScanReq) (s u : State), u = elapse t s ∧ scanHead (u.port.at l).queue = some r ∧ r.cont = false ∧
    ((u.port.at l).susp = false ∨ r.cls ≠ 2)) ∧ (∃ (t place : Nat) (code : Fin 4) (old x : W32) (found : Tri (Option Reread)) (s
    u : State), u = elapse t s ∧ code ≠ 3 ∧ u.upd.lock = none ∧ ((rereads u found).filter (fun y => y.2.value == old)).length <
    2 ∧ 2 ≤ ((rereads u found).filter (fun y => y.2.sound)).length ∧ sharedValue (rereads u found) = some x) ∧ (∃ (t : Nat) (h :
    HostId) (s u : State), u = elapse t s ∧ Served 0x0F0040 u) ∧ (∃ (t : Nat) (h : HostId) (s u : State) (x : W32), u = elapse t
    s ∧ Served 0x0F0044 u) ∧ (∃ (t : Nat) (h : HostId) (s u : State) (x : W16), u = elapse t s ∧ Served 0x0F0048 u) ∧ (∃ (t :
    Nat) (h : HostId) (s u : State) (x : Byte), u = elapse t s ∧ Served 0x0F004C u) := by
  refine ⟨⟨0, .a, { aScan with len := 2 ^ 24 }, up, up, (elapse_zero _).symm, ?_⟩, ⟨0, .a, [], aScan, inScansAndStoredChecks1,
    inScansAndStoredChecks1, (elapse_zero _).symm, ?_⟩, ⟨0, 0x40000, 0, 1, 2, ⟨some ⟨true, 2⟩, some ⟨true, 2⟩, some ⟨true, 1⟩⟩,
    up, up, (elapse_zero _).symm, ?_⟩, ⟨0, 1, up, up, (elapse_zero _).symm, ?_⟩, ⟨0, 1, up, up, 7, (elapse_zero _).symm, ?_⟩,
    ⟨0, 1, up, up, 7, (elapse_zero _).symm, ?_⟩, ⟨0, 1, up, up, 7, (elapse_zero _).symm, ?_⟩⟩
  all_goals and_intros
  all_goals first | decide +kernel | (unfold Served; decide +kernel) | exact rfl

theorem hyp_HostPortTransactions :
    (∃ (t : Nat) (h : HostId) (a : BitVec 24) (w : W32) (s u v : State), u = elapse t s ∧ Served a.toNat u ∧ a.toNat % 4 = 0 ∧
    regReadFx h a.toNat u = some (v, w)) ∧ (∃ (t : Nat) (h : HostId) (a : BitVec 24) (s u : State), u = elapse t s ∧ Served
    a.toNat u ∧ a.toNat % 64 = 0 ∧ 0x200000 ≤ a.toNat ∧ a.toNat ≤ 0x2FFFFF) ∧ (∃ (t : Nat) (h : HostId) (x : W32) (s u : State)
    (i : Instr), u = elapse t s ∧ Served 0x030000 u ∧ (i = .registerWrite t h 0x030000 x ∨ i = .hpWrite t h 0x2D 0x030000 x
    (hpCheck 0x030000 0x2D ([0] ++ leBytes 4 x.toNat)))) ∧ (∃ (t : Nat) (h : HostId) (a : BitVec 24) (x : W32) (s u v : State)
    (st : Nat) (i : Instr), u = elapse t s ∧ Served a.toNat u ∧ a.toNat % 4 = 0 ∧ a.toNat ≠ 0x110020 ∧ regWrite h a.toNat x u =
    (v, st) ∧ hostOpen v = true ∧ (i = .registerWrite t h a x ∨ i = .hpWrite t h 0x2D a x (hpCheck a.toNat 0x2D ([0] ++ leBytes
    4 x.toNat)))) ∧ (∃ (t : Nat) (h : HostId) (a : BitVec 24) (x : W32) (s u v : State) (st : Nat) (i : Instr), u = elapse t s ∧
    Served a.toNat u ∧ a.toNat % 4 = 0 ∧ a.toNat ≠ 0x110020 ∧ regWrite h a.toNat x u = (v, st) ∧ hostOpen v = true ∧ (i =
    .registerWrite t h a x ∨ i = .hpWrite t h 0x2D a x (hpCheck a.toNat 0x2D ([0] ++ leBytes 4 x.toNat)))) ∧ (∃ (t : Nat) (h :
    HostId) (a : BitVec 24) (b : List Byte) (s u : State), u = elapse t s ∧ hostOpen u = true ∧ u.rst.recovery = false ∧
    teleSound b = true ∧ teleStatus (.inl h) false (readTele b) u = 0) ∧ (∃ (t : Nat) (s u : State), u = elapse t s ∧ hostOpen u
    = true) ∧ (∃ (t : Nat) (s u : State), u = elapse t s ∧ hostOpen u = true) ∧ (∃ (t : Nat) (s u : State) (h : HostId) (op :
    Byte) (a : BitVec 24), u = elapse t s ∧ hostOpen u = true) := by
  refine ⟨⟨0, 1, 0x000000, (regRead up 0).getD 0, up, up, up, (elapse_zero _).symm, ?_⟩, ⟨0, 1, 0x2FFFC0, up, up,
    (elapse_zero _).symm, ?_⟩, ⟨0, 1, 0x3210, up, up, .registerWrite 0 1 0x030000 0x3210, (elapse_zero _).symm, ?_⟩, ⟨0, 1,
    0x030000, 0x3210, up, up, (regWrite 1 0x030000 0x3210 up).1, 0, .registerWrite 0 1 0x030000 0x3210, (elapse_zero _).symm,
    ?_⟩, ⟨0, 1, 0x000000, 1, up, up, (regWrite 1 0 1 up).1, (regWrite 1 0 1 up).2, .registerWrite 0 1 0x000000 1,
    (elapse_zero _).symm, ?_⟩, ⟨0, 1, 5, aTele, obeys, obeys, (elapse_zero _).symm, ?_⟩, ⟨0, up, up, (elapse_zero _).symm, ?_⟩,
    ⟨0, up, up, (elapse_zero _).symm, ?_⟩, ⟨0, up, up, 1, 0x1E, 0, (elapse_zero _).symm, ?_⟩⟩
  all_goals and_intros
  all_goals first | decide +kernel | (unfold Served; decide +kernel) | (unfold Sound; decide +kernel) | exact rfl

def inEthernetServices1 : State := { up with upd := { up.upd with lock := some .eth } }

theorem hyp_EthernetServices :
    (∃ (t : Nat) (src : W32) (b : List Byte) (s u : State) (i : Instr), u = elapse t s ∧ ethUp u = true ∧ u.rst.recovery = false
    ∧ teleSound b = true ∧ teleStatus (.inr src) ((readTele b).slot == 0xFFFF) (readTele b) u = 0 ∧ (i = .ethCommand t src b ∨ i
    = .calTelegram t src b) ∧ (readTele ethTele).slot ≠ 0xFFFF) ∧ (∃ (t : Nat) (src : W32) (b : List Byte) (s u : State) (i :
    Instr), u = elapse t s ∧ ethUp u = true ∧ u.rst.recovery = false ∧ teleSound b = true ∧ teleStatus (.inr src) ((readTele
    b).slot == 0xFFFF) (readTele b) u = 0 ∧ (i = .ethCommand t src b ∨ i = .calTelegram t src b) ∧ (readTele calTele).slot =
    0xFFFF) ∧ (∃ (t : Nat) (s u : State), u = elapse t s ∧ ethUp u = true ∧ u.rst.recovery = false ∧ u.eth.echoes = 0 ∧
    u.eth.upd = false) ∧ (∃ (t : Nat) (up : Bool) (s u : State), u = elapse t s ∧ u.eth.link ≠ up) ∧ (∃ (t : Nat) (s u : State),
    u = elapse t s ∧ u.upd.lock = some .eth) := by
  refine ⟨⟨0, 0x0A000001, ethTele, obeys, obeys, .ethCommand 0 0x0A000001 ethTele, (elapse_zero _).symm, ?_⟩, ⟨0, 0x0A000001,
    calTele, obeys, obeys, .calTelegram 0 0x0A000001 calTele, (elapse_zero _).symm, ?_⟩, ⟨0, obeys, obeys, (elapse_zero _).symm,
    ?_⟩, ⟨0, true, up, up, (elapse_zero _).symm, ?_⟩, ⟨0, inEthernetServices1, inEthernetServices1, (elapse_zero _).symm, ?_⟩⟩
  all_goals and_intros
  all_goals first | decide +kernel | (unfold Sound; decide +kernel) | exact rfl

def inEventSourcesMove1 : State := { up with
  evr := { up.evr with src := [(9, { state := .pending, mask := 0xF, deliver := 0xF, tier := 3 })] } }

def inEventSourcesMove2 : State := { up with evr := { up.evr with src := [(9, { state := .active, claimer := 3 })] } }

def inEventSourcesMove3 : State := { up with evr := { up.evr with src := [(9, { state := .activePending, claimer := 3 })] } }

def inEventSourcesMove4 : State := moment 5000 { up with
  evr := { up.evr with src := [(9, { state := .pending, modTime := 5 })] } }

def inEventSourcesMove5 : State := { up with evr := { up.evr with src := [(9, { state := .pending })] } }

theorem hyp_EventSourcesMove :
    (∃ (t n : Nat) (s u : State), u = elapse t s ∧ namedSource n = true) ∧ (∃ (t : Nat) (h n : HostId) (s u : State), u = elapse
    t s ∧ Served (0x030010 + 4 * n.val) u ∧ bestFor u.evr 3 = some 9) ∧ (∃ (t : Nat) (h n : HostId) (s u : State), u = elapse t
    s ∧ Served (0x030010 + 4 * n.val) u ∧ bestFor u.evr 3 = none) ∧ (∃ (t : Nat) (h n : HostId) (k : Byte) (s u : State), u =
    elapse t s ∧ Served (0x030020 + 4 * n.val) u ∧ namedSource 9 = true ∧ (sourceOf u 9).claimer = 3 ∧ (sourceOf u 9).state =
    .active) ∧ (∃ (t : Nat) (h n : HostId) (k : Byte) (s u : State), u = elapse t s ∧ Served (0x030020 + 4 * n.val) u ∧
    namedSource 9 = true ∧ (sourceOf u 9).claimer = 3 ∧ (sourceOf u 9).state = .activePending) ∧ (∃ (t : Nat) (h n : HostId) (k
    : Byte) (s u : State), u = elapse t s ∧ Served (0x030020 + 4 * n.val) u ∧ (sourceOf u 9).claimer ≠ 3) ∧ (∃ (t n : Nat) (s u
    : State), u = elapse t s ∧ (sourceOf u n).state = .pending ∧ (sourceOf u n).since + (sourceOf u n).modTime * 1000 ≤
    u.clk.now) ∧ (∃ (t : Nat) (n : HostId) (s u : State), u = elapse t s ∧ kvGet u.evr.src 9 = some { state := .pending }) ∧ (∃
    (t : Nat) (n : HostId) (s u : State), u = elapse t s) := by
  refine ⟨⟨0, 110, up, up, (elapse_zero _).symm, ?_⟩, ⟨0, 1, 3, inEventSourcesMove1, inEventSourcesMove1, (elapse_zero _).symm,
    ?_⟩, ⟨0, 1, 3, up, up, (elapse_zero _).symm, ?_⟩, ⟨0, 1, 3, 9, inEventSourcesMove2, inEventSourcesMove2,
    (elapse_zero _).symm, ?_⟩, ⟨0, 1, 3, 9, inEventSourcesMove3, inEventSourcesMove3, (elapse_zero _).symm, ?_⟩, ⟨0, 1, 3, 9,
    up, up, (elapse_zero _).symm, ?_⟩, ⟨0, 9, inEventSourcesMove4, inEventSourcesMove4, (elapse_zero _).symm, ?_⟩, ⟨0, 2,
    inEventSourcesMove5, inEventSourcesMove5, (elapse_zero _).symm, ?_⟩, ⟨0, 2, up, up, (elapse_zero _).symm⟩⟩
  all_goals and_intros
  all_goals first | decide +kernel | (unfold Served; decide +kernel) | exact rfl

def inModuleResets1 : State := { State.reset with keep := { State.reset.keep with lost := false } }

def inModuleResets2 : State := moment 2000000 { up with pwr := { up.pwr with holdup := true, lostAt := some 0 } }

def inModuleResets3 : State := { up with rst := { up.rst with nrst := true } }

theorem hyp_ModuleResets :
    (∃ (t : Nat) (s u : State), u = elapse t s ∧ u.rst.powered = false ∧ u.keep.lost = false) ∧ (∃ (t : Nat) (s u : State), u =
    elapse t s ∧ u.rst.powered = false) ∧ (∃ (t x : Nat) (s u : State), u = elapse t s ∧ u.pwr.holdup = true ∧ u.pwr.lostAt =
    some x ∧ x + 2000000 ≤ u.clk.now ∧ u.rst.stage = .ready) ∧ (∃ (t n : Nat) (s u : State), u = elapse t s ∧ u.rst.powered =
    true ∧ 40 ≤ n ∧ u.rst.stage = .ready) ∧ (∃ (t n : Nat) (s u : State), u = elapse t s ∧ u.rst.powered = true ∧ 1 ≤ n ∧ n <
    40) ∧ (∃ (t n : Nat) (s u : State), u = elapse t s ∧ u.rst.powered = true ∧ 1 ≤ n ∧ n < 40) ∧ (∃ (t n : Nat) (s u : State),
    u = elapse t s ∧ u.rst.powered = true ∧ u.rst.nrst = true) ∧ (∃ (t : Nat) (h : HostId) (warm : Bool) (s u : State), u =
    elapse t s ∧ Served 0x010040 u ∧ u.rst.stage = .ready ∧ crowned u = false) ∧ (∃ (t : Nat) (h : HostId) (warm : Bool) (s u :
    State), u = elapse t s ∧ Served 0x010040 u ∧ u.rst.stage = .ready ∧ crowned u = false) ∧ (∃ (t : Nat) (h : HostId) (warm :
    Bool) (s u : State) (key : W16), u = elapse t s ∧ Served 0x010040 u ∧ u.rst.stage = .ready ∧ key ≠ 0xC3A5) := by
  refine ⟨⟨0, inModuleResets1, inModuleResets1, (elapse_zero _).symm, ?_⟩, ⟨0, State.reset, State.reset, (elapse_zero _).symm,
    ?_⟩, ⟨0, 0, inModuleResets2, inModuleResets2, (elapse_zero _).symm, ?_⟩, ⟨0, 40, up, up, (elapse_zero _).symm, ?_⟩, ⟨0, 39,
    up, up, (elapse_zero _).symm, ?_⟩, ⟨0, 1, up, up, (elapse_zero _).symm, ?_⟩, ⟨0, 40, inModuleResets3, inModuleResets3,
    (elapse_zero _).symm, ?_⟩, ⟨0, 1, true, up, up, (elapse_zero _).symm, ?_⟩, ⟨0, 1, false, up, up, (elapse_zero _).symm, ?_⟩,
    ⟨0, 1, true, up, up, 0, (elapse_zero _).symm, ?_⟩⟩
  all_goals and_intros
  all_goals first | decide +kernel | (unfold Served; decide +kernel) | exact rfl

def inBringUpStages1 : State := moment 20000 { up with rst := { powered := true, stage := .hold } }

def inBringUpStages2 : State := { up with rst := { powered := true, stage := .clocks } }

def inBringUpStages3 : State := moment 20000000 { up with
  rst := { powered := true, stage := .clocks, refs := ⟨true, false, true⟩ } }

def inBringUpStages4 : State := { up with rst := { powered := true, stage := .options } }

def inBringUpStages5 : State := { up with
  rst := { powered := true, stage := .pll, refs := ⟨true, true, false⟩, pllAt := some 0 } }

def inBringUpStages6 : State := { up with
  rst := { powered := true, stage := .boot, dram := true, refs := Tri.all true, plls := Tri.all true }
  lane := up.lane.map (fun _ r => { r with fwCopy := true, stable := true, pllLock := true }) }

def inBringUpStages7 : State := { up with rst := { powered := true, stage := .boot } }

def inBringUpStages8 : State := { up with rst := { powered := true, stage := .selftest } }

def inBringUpStages9 : State := { up with rst := { powered := true, stage := .load }, glb := {} }

def inBringUpStages10 : State := { up with
  rst := { powered := true, stage := .load, refs := Tri.all true, plls := Tri.all true }
  lane := up.lane.map (fun _ r => { r with stable := true, pllLock := true })
  bank := Tri.all { bank0 := some {} } }

theorem hyp_BringUpStages :
    (∃ (t : Nat) (s u : State), u = elapse t s ∧ u.rst.stage = .hold ∧ u.rst.powered = true ∧ u.rst.nrst = false ∧ u.rst.stageAt
    + 20000 ≤ u.clk.now) ∧ (∃ (t : Nat) (refs : Tri Bool) (s u : State), u = elapse t s ∧ u.rst.stage = .clocks ∧ u.rst.ovr =
    false ∧ u.keep.attempts < 8 ∧ refsSuffice { u with rst := { u.rst with refs := ⟨true, true, true⟩ } } = true) ∧ (∃ (t : Nat)
    (refs : Tri Bool) (s u : State), u = elapse t s ∧ u.rst.stage = .clocks ∧ u.rst.ovr = false ∧ u.keep.attempts < 8 ∧
    refsSuffice { u with rst := { u.rst with refs := ⟨true, false, false⟩ } } = false) ∧ (∃ (t : Nat) (s u : State), u = elapse
    t s ∧ u.rst.stage = .clocks ∧ 2 ≤ countLanes (fun l => !clockLate u l && !u.rst.off.at l) ∧ lanes.any (clockLate u) = true)
    ∧ (∃ (t : Nat) (s u : State), u = elapse t s ∧ u.rst.stage = .options ∧ goodOptions u 0 = none ∧ goodOptions u 1 = none) ∧
    (∃ (t : Nat) (plls : Tri Bool) (s u : State), u = elapse t s ∧ u.rst.stage = .pll ∧ u.rst.pllAt.isSome = true ∧ u.rst.ovr =
    false ∧ 2 ≤ countLanes (fun l => u.rst.refs.at l && (u.rst.plls.at l || plls.at l) && !u.rst.off.at l)) ∧ (∃ (t : Nat) (acc
    : Tri Bool) (s u : State), u = elapse t s ∧ u.rst.stage = .boot ∧ u.rst.recovery = false ∧ u.rst.dram = true ∧ 2 ≤
    countLanes (fun l => boots u l && acc.at l && (u.lane.at l).fwCopy)) ∧ (∃ (t : Nat) (acc : Tri Bool) (s u : State), u =
    elapse t s ∧ u.rst.stage = .boot ∧ u.rst.recovery = false ∧ u.rst.dram = false ∧ fwHeader u = none) ∧ (∃ (t : Nat) (es :
    List (W32 × W32)) (s u : State), u = elapse t s ∧ u.rst.stage = .selftest) ∧ (∃ (t : Nat) (s u : State), u = elapse t s ∧
    u.rst.stage = .load ∧ u.glb.valid = false ∧ goodCopy u 0 = none ∧ goodCopy u 1 = none) ∧ (∃ (t : Nat) (loaded : Tri Bool)
    (kats : Tri (BitVec 2)) (s u : State), u = elapse t s ∧ u.rst.stage = .load ∧ u.glb.valid = true ∧ u.rst.chosen = none ∧ 2 ≤
    countLanes (fun l => boots u l && loaded.at l && kats.at l == 3 && !u.test.katWrong.at l && (activeProg u l).isSome)) := by
  refine ⟨⟨0, inBringUpStages1, inBringUpStages1, (elapse_zero _).symm, ?_⟩, ⟨0, ⟨true, true, true⟩, inBringUpStages2,
    inBringUpStages2, (elapse_zero _).symm, ?_⟩, ⟨0, ⟨true, false, false⟩, inBringUpStages2, inBringUpStages2,
    (elapse_zero _).symm, ?_⟩, ⟨0, inBringUpStages3, inBringUpStages3, (elapse_zero _).symm, ?_⟩, ⟨0, inBringUpStages4,
    inBringUpStages4, (elapse_zero _).symm, ?_⟩, ⟨0, ⟨true, true, true⟩, inBringUpStages5, inBringUpStages5,
    (elapse_zero _).symm, ?_⟩, ⟨0, ⟨true, true, false⟩, inBringUpStages6, inBringUpStages6, (elapse_zero _).symm, ?_⟩, ⟨0,
    ⟨true, true, true⟩, inBringUpStages7, inBringUpStages7, (elapse_zero _).symm, ?_⟩, ⟨0, List.replicate 11 (0, 0),
    inBringUpStages8, inBringUpStages8, (elapse_zero _).symm, ?_⟩, ⟨0, inBringUpStages9, inBringUpStages9, (elapse_zero _).symm,
    ?_⟩, ⟨0, ⟨true, true, false⟩, ⟨3, 3, 1⟩, inBringUpStages10, inBringUpStages10, (elapse_zero _).symm, ?_⟩⟩
  all_goals and_intros
  all_goals first | decide +kernel | exact rfl

def inUpdateSession1 : State := { up with eth := { up.eth with upd := true } }

def inUpdateSession2 : State := { up with
  eth := { up.eth with upd := true }
  rst := { powered := true, stage := .boot, recovery := true }
  opt := { up.opt with flags := 0x02 } }

def inUpdateSession3 : State := { up with
  eth := { up.eth with upd := true }
  upd := { up.upd with lock := some .eth, phase := .receiving, length := 4, bytes := [1, 2] } }

def inUpdateSession4 : State := moment 10000000000 { up with
  eth := { up.eth with upd := true }
  upd := { up.upd with lock := some .eth, phase := .receiving, length := 4, bytes := [1, 2] } }

def inUpdateSession5 : State := { up with
  eth := { up.eth with upd := true }
  upd := { up.upd with lock := some .eth, phase := .checking, length := 4, bytes := [1, 2] } }

def inUpdateSession6 : State := { up with
  eth := { up.eth with upd := true }
  upd := { up.upd with lock := some .eth, phase := .writing, length := 4, bytes := List.replicate 128 1, item := 4 } }

def inUpdateSession7 : State := { up with
  eth := { up.eth with upd := true }
  upd := { up.upd with lock := some .eth, phase := .writing, length := 4, bytes := [1, 2] } }

theorem hyp_UpdateSession :
    (∃ (t : Nat) (src : UpdSrc) (item : Byte) (s u : State), u = elapse t s ∧ heardFrom src u = true ∧ u.test.scanEn = false) ∧
    (∃ (t : Nat) (src : UpdSrc) (item : Byte) (len ver chk op : W32) (sig : List Byte) (s u : State), u = elapse t s ∧ heardFrom
    src u = true ∧ u.rst.recovery = true ∧ u.test.scanEn = false ∧ 1 ≤ item.toNat ∧ item.toNat ≤ 4 ∧ openStatus src item.toNat u
    = 0) ∧ (∃ (t : Nat) (src : UpdSrc) (s u : State) (off : W32) (b : List Byte), u = elapse t s ∧ receiving src u = true ∧
    off.toNat = u.upd.bytes.length ∧ u.upd.bytes.length + b.length ≤ u.upd.length) ∧ (∃ (t : Nat) (src : UpdSrc) (s u : State)
    (off : W32) (b : List Byte), u = elapse t s ∧ receiving src u = true ∧ off.toNat ≠ u.upd.bytes.length) ∧ (∃ (t : Nat) (src :
    UpdSrc) (s u : State), u = elapse t s ∧ receiving src u = true ∧ u.upd.msgAt + 10000000000 ≤ u.clk.now) ∧ (∃ (t : Nat) (src
    : UpdSrc) (equal : Bool) (s u : State), u = elapse t s ∧ u.upd.phase = .checking ∧ u.upd.lock = some src ∧ itemStatus true u
    ≠ 0) ∧ (∃ (t : Nat) (src : UpdSrc) (equal : Bool) (s u : State), u = elapse t s ∧ u.upd.phase = .checking ∧ u.upd.lock =
    some src) ∧ (∃ (t : Nat) (src : UpdSrc) (s u : State), u = elapse t s ∧ u.upd.phase = .writing ∧ u.upd.lock = some src ∧
    u.rst.recovery = false ∧ u.upd.item = 4 ∧ u.upd.bytes.length = 128) ∧ (∃ (t : Nat) (src : UpdSrc) (s u : State), u = elapse
    t s ∧ u.upd.phase = .writing ∧ u.upd.lock = some src) := by
  refine ⟨⟨0, .eth, 3, inUpdateSession1, inUpdateSession1, (elapse_zero _).symm, ?_⟩, ⟨0, .eth, 1, 5, 6, 7, 8, List.replicate 64
    0, inUpdateSession2, inUpdateSession2, (elapse_zero _).symm, ?_⟩, ⟨0, .eth, inUpdateSession3, inUpdateSession3, 2, [3, 4],
    (elapse_zero _).symm, ?_⟩, ⟨0, .eth, inUpdateSession3, inUpdateSession3, 3, [3, 4], (elapse_zero _).symm, ?_⟩, ⟨0, .eth,
    inUpdateSession4, inUpdateSession4, (elapse_zero _).symm, ?_⟩, ⟨0, .eth, true, inUpdateSession5, inUpdateSession5,
    (elapse_zero _).symm, ?_⟩, ⟨0, .eth, false, inUpdateSession5, inUpdateSession5, (elapse_zero _).symm, ?_⟩, ⟨0, .eth,
    inUpdateSession6, inUpdateSession6, (elapse_zero _).symm, ?_⟩, ⟨0, .eth, inUpdateSession7, inUpdateSession7,
    (elapse_zero _).symm, ?_⟩⟩
  all_goals and_intros
  all_goals first | decide +kernel | exact rfl

def inUpdateControlAndPartner1 : State := moment 100000000 { up with
  rst := { powered := true, stage := .boot, recovery := true }
  upd := { up.upd with reqAt := some 0 } }

def inUpdateControlAndPartner2 : State := moment 1000000000 { up with upd := { up.upd with pairAt := some 0 } }

theorem hyp_UpdateControlAndPartner :
    (∃ (t : Nat) (h : HostId) (src : UpdSrc) (s u : State), u = elapse t s ∧ Served 0x110020 u ∧ u.upd.lock = some src) ∧ (∃ (t
    : Nat) (h : HostId) (s u : State), u = elapse t s ∧ Served 0x110020 u ∧ takesOrHolds u = false ∧ u.test.due = none ∧
    u.test.running = false) ∧ (∃ (t : Nat) (h : HostId) (s u : State), u = elapse t s ∧ Served 0x110020 u ∧ takesOrHolds u =
    false ∧ u.rst.stage = .ready) ∧ (∃ (t : Nat) (s u : State), u = elapse t s ∧ u.rst.recovery = true ∧ passed u.upd.reqAt
    100000000 u = true ∧ u.pl.sync0 = true) ∧ (∃ (t : Nat) (x : Rcv) (item reason : Byte) (ver : W32) (s u : State), u = elapse
    t s ∧ Sound x u ∧ u.rst.stage = .ready ∧ u.upd.reqSeen = false) ∧ (∃ (t : Nat) (s u : State), u = elapse t s ∧ u.rst.stage =
    .ready ∧ passed u.upd.pairAt 1000000000 u = true ∧ u.pl.sync0 = true) ∧ (∃ (t : Nat) (x : Rcv) (ver : W32) (level least :
    W16) (s u : State), u = elapse t s ∧ Sound x u ∧ u.rst.stage = .ready) := by
  refine ⟨⟨0, 1, .eth, inUpdateSession3, inUpdateSession3, (elapse_zero _).symm, ?_⟩, ⟨0, 1, up, up, (elapse_zero _).symm, ?_⟩,
    ⟨0, 1, up, up, (elapse_zero _).symm, ?_⟩, ⟨0, inUpdateControlAndPartner1, inUpdateControlAndPartner1, (elapse_zero _).symm,
    ?_⟩, ⟨0, ⟨9, true⟩, 1, 1, 0, up, up, (elapse_zero _).symm, ?_⟩, ⟨0, inUpdateControlAndPartner2, inUpdateControlAndPartner2,
    (elapse_zero _).symm, ?_⟩, ⟨0, ⟨9, true⟩, 1, 2, 3, up, up, (elapse_zero _).symm, ?_⟩⟩
  all_goals and_intros
  all_goals first | decide +kernel | (unfold Served; decide +kernel) | (unfold Sound; decide +kernel) | exact rfl

def inShutDownSelfTest1 : State := { up with test := { up.test with due := some 0 } }

def inShutDownSelfTest2 : State := { up with
  test := { up.test with state := .running, running := true, step := 3, andThen := false } }

def inShutDownSelfTest3 : State := { up with
  test := { up.test with state := .running, running := true, step := 5, andThen := false } }

def inShutDownSelfTest4 : State := { up with
  test := { up.test with state := .running, running := true, step := 6, andThen := false } }

def inShutDownSelfTest5 : State := { up with
  test := { up.test with state := .running, running := true, step := 6, andThen := true } }

def inShutDownSelfTest6 : State := moment 80000000 { up with
  test := { up.test with state := .running, running := true, step := 2, andThen := true } }

def inShutDownSelfTest7 : State := moment 10000000 { up with test := { up.test with loopAt := some 0 } }

theorem hyp_ShutDownSelfTest :
    (∃ (t : Nat) (h : HostId) (b : Bool) (s u : State), u = elapse t s ∧ Served 0x120004 u ∧ takesOrHolds u = false ∧
    u.test.running = false ∧ u.test.due = none) ∧ (∃ (t : Nat) (s u : State), u = elapse t s ∧ testMayStart u = true) ∧ (∃ (t :
    Nat) (es : List (W32 × W32)) (s u : State), u = elapse t s ∧ u.test.state = .running ∧ u.test.step < 6 ∧ u.test.step = 3) ∧
    (∃ (t : Nat) (es : List (W32 × W32)) (s u : State), u = elapse t s ∧ u.test.state = .running ∧ u.test.step < 6 ∧ u.test.step
    ≠ 3) ∧ (∃ (t : Nat) (es : List (W32 × W32)) (s u : State), u = elapse t s ∧ u.test.state = .running ∧ 6 ≤ u.test.step ∧
    u.test.andThen = false) ∧ (∃ (t : Nat) (es : List (W32 × W32)) (s u : State), u = elapse t s ∧ u.test.state = .running ∧ 6 ≤
    u.test.step ∧ u.test.andThen = true ∧ u.rst.stage = .ready) ∧ (∃ (t : Nat) (es : List (W32 × W32)) (s u : State), u = elapse
    t s ∧ u.test.state = .running ∧ u.rst.stage = .ready ∧ u.test.frameAt + 2 * leaseNs u ≤ u.clk.now) ∧ (∃ (t x : Nat) (s u :
    State), u = elapse t s ∧ u.test.loopAt = some x ∧ x + 10000000 ≤ u.clk.now) := by
  refine ⟨⟨0, 1, true, up, up, (elapse_zero _).symm, ?_⟩, ⟨0, inShutDownSelfTest1, inShutDownSelfTest1, (elapse_zero _).symm,
    ?_⟩, ⟨0, [(1, 2)], inShutDownSelfTest2, inShutDownSelfTest2, (elapse_zero _).symm, ?_⟩, ⟨0, [], inShutDownSelfTest3,
    inShutDownSelfTest3, (elapse_zero _).symm, ?_⟩, ⟨0, [], inShutDownSelfTest4, inShutDownSelfTest4, (elapse_zero _).symm, ?_⟩,
    ⟨0, [], inShutDownSelfTest5, inShutDownSelfTest5, (elapse_zero _).symm, ?_⟩, ⟨0, [], inShutDownSelfTest6,
    inShutDownSelfTest6, (elapse_zero _).symm, ?_⟩, ⟨0, 0, inShutDownSelfTest7, inShutDownSelfTest7, (elapse_zero _).symm, ?_⟩⟩
  all_goals and_intros
  all_goals first | decide +kernel | (unfold Served; decide +kernel) | exact rfl

def inAuthorisedTests1 : State := { up with test := { up.test with state := .stopped } }

def inAuthorisedTests2 : State := { up with test := { up.test with scanEn := true } }

def inAuthorisedTests3 : State := moment 5000000 { up with
  test := { up.test with session := some (5000, 8), injSel := 0x20301 } }

def inAuthorisedTests4 : State := moment 500 { up with test := { up.test with inj := some ⟨0x0301, 0, 0, 500⟩ } }

def inAuthorisedTests5 : State := { up with
  test := { up.test with state := .stopped, auth := true }
  opt := { up.opt with flags := 0x08 } }

theorem hyp_AuthorisedTests :
    (∃ (t : Nat) (h : HostId) (pu : BitVec 2) (s u : State), u = elapse t s ∧ Served 0x120040 u ∧ u.test.scanEn = false ∧ pu ≠
    0) ∧ (∃ (t : Nat) (h : HostId) (pu : BitVec 2) (s u : State) (cleared : Bool), u = elapse t s ∧ Served 0x120040 u ∧
    u.test.scanEn = false ∧ goForbidden { u with test := { u.test with purpose := pu } } = false) ∧ (∃ (t : Nat) (h : HostId)
    (pu : BitVec 2) (s u : State) (cleared : Bool), u = elapse t s ∧ Served 0x120040 u ∧ u.test.scanEn = false ∧ goForbidden
    { u with test := { u.test with purpose := pu } } = false) ∧ (∃ (t : Nat) (h : HostId) (pu : BitVec 2) (s u : State) (cleared
    : Bool), u = elapse t s ∧ Served 0x120040 u ∧ u.test.scanEn = false ∧ goForbidden
    { u with test := { u.test with purpose := pu } } = false) ∧ (∃ (t : Nat) (x : Jtag) (s u : State), u = elapse t s ∧ (offered
    x || u.test.scanEn) = true) ∧ (∃ (t : Nat) (x : Jtag) (s u : State), u = elapse t s ∧ (offered x || u.test.scanEn) = true) ∧
    (∃ (t : Nat) (h : HostId) (n : Byte) (a : Nat × W32) (l : Lane) (s u : State), u = elapse t s ∧ Served 0x120104 u ∧
    u.test.session = some a ∧ u.test.inj = none ∧ u.test.state ≠ .running ∧ bits u.test.injSel 15 0 = 0x0301 ∧ bits
    u.test.injSel 17 16 = l.num ∧ u.vote.mode ≠ .halted ∧ (u.lane.at l).state = .voting ∧ u.vote.rejoin = none) ∧ (∃ (t : Nat)
    (h : HostId) (n : Byte) (a : Nat × W32) (l : Lane) (s u : State), u = elapse t s ∧ Served 0x120104 u ∧ u.test.session = some
    a) ∧ (∃ (t : Nat) (h : HostId) (n : Byte) (a : Nat × W32) (l : Lane) (s u : State), u = elapse t s ∧ Served 0x120104 u ∧
    u.test.session = some a ∧ a.1 ≤ u.clk.lifeUs) ∧ (∃ (t : Nat) (i : Inject) (s u : State), u = elapse t s ∧ u.test.inj = some
    i ∧ i.ends ≤ u.clk.now ∧ i.point ≠ 0x0702) ∧ (∃ (t : Nat) (h : HostId) (s u : State), u = elapse t s ∧ Served 0x120110 u ∧
    u.test.state = .stopped ∧ u.test.auth = true ∧ u.opt.flags.getLsbD 3 = true) ∧ (∃ (t : Nat) (h : HostId) (x y : Byte) (s u :
    State), u = elapse t s ∧ Served 0x120120 u ∧ takesOrHolds u = false ∧ u.test.state ≠ .running ∧ x.toNat ≤ 0x13 ∧ y.toNat ≤
    0x13) := by
  refine ⟨⟨0, 1, 3, up, up, (elapse_zero _).symm, ?_⟩, ⟨0, 1, 1, inAuthorisedTests1, inAuthorisedTests1, true,
    (elapse_zero _).symm, ?_⟩, ⟨0, 1, 2, inAuthorisedTests1, inAuthorisedTests1, true, (elapse_zero _).symm, ?_⟩, ⟨0, 1, 3,
    inAuthorisedTests1, inAuthorisedTests1, true, (elapse_zero _).symm, ?_⟩, ⟨0, .idcode, up, up, (elapse_zero _).symm, ?_⟩, ⟨0,
    .scan, inAuthorisedTests2, inAuthorisedTests2, (elapse_zero _).symm, ?_⟩, ⟨0, 1, 7, (5000, 8), .c, inAuthorisedTests3,
    inAuthorisedTests3, (elapse_zero _).symm, ?_⟩, ⟨0, 1, 7, (5000, 8), .c, inAuthorisedTests3, inAuthorisedTests3,
    (elapse_zero _).symm, ?_⟩, ⟨0, 1, 7, (5000, 8), .c, inAuthorisedTests3, inAuthorisedTests3, (elapse_zero _).symm, ?_⟩, ⟨0,
    ⟨0x0301, 0, 0, 500⟩, inAuthorisedTests4, inAuthorisedTests4, (elapse_zero _).symm, ?_⟩, ⟨0, 1, inAuthorisedTests5,
    inAuthorisedTests5, (elapse_zero _).symm, ?_⟩, ⟨0, 1, 0x13, 0, up, up, (elapse_zero _).symm, ?_⟩⟩
  all_goals and_intros
  all_goals first | decide +kernel | (unfold Served; decide +kernel) | exact rfl

def inWorkersAndSupplies1 : State := { up with ret := up.ret.put .b { slot0 := some ⟨1, 0, true, 0, 0, [], [], 5, false⟩ } }

def inWorkersAndSupplies2 : State := { up with wk := { up.wk with sums := ⟨(9, 3), (0, 0), (4, 2)⟩ } }

def argWorkersAndSupplies1 : Measured := {
  core := ⟨800, 800, 800⟩
  temp := ⟨130, 60, 60⟩
  dev := ⟨0, 0, 0⟩
  mainMv := 24000
  backMv := 24000
  power := 100
  holdUs := ⟨2500, 2500, 2500⟩
  holdCommon := 2500 }

def argWorkersAndSupplies2 : Measured := {
  core := ⟨800, 800, 800⟩
  temp := ⟨60, 60, 60⟩
  dev := ⟨0, 0, 0⟩
  mainMv := 24000
  backMv := 24000
  power := 100
  holdUs := ⟨2500, 2500, 2500⟩
  holdCommon := 2500 }

def argWorkersAndSupplies3 : Measured := {
  core := ⟨800, 800, 800⟩
  temp := ⟨60, 60, 60⟩
  dev := ⟨10000, -10001, -10000⟩
  mainMv := 24000
  backMv := 24000
  power := 100
  holdUs := ⟨2500, 2500, 2500⟩
  holdCommon := 2500 }

def inWorkersAndSupplies3 : State := moment 10000000000 { up with pwr := { up.pwr with hotAt := some 0 } }

def inWorkersAndSupplies4 : State := { up with pwr := { up.pwr with main := .usable } }

theorem hyp_WorkersAndSupplies :
    (∃ (t : Nat) (s u : State) (n : Nat) (l : Lane), u = elapse t s ∧ clusterFree u = true ∧ storesFree u l = true) ∧ (∃ (t :
    Nat) (s u : State) (l : Lane) (slot : Bool), u = elapse t s ∧ clusterFree u = true) ∧ (∃ (t : Nat) (s u : State) (ps : Tri
    Nat), u = elapse t s ∧ clusterFree u = true) ∧ (∃ (t : Nat) (s u : State), u = elapse t s ∧ clusterFree u = true ∧
    u.wk.telemAt = none) ∧ (∃ (t : Nat) (s u : State) (a : Ageing), u = elapse t s ∧ clusterFree u = true ∧ (u.wk.sums.at .a).2
    ≠ 0) ∧ (∃ (t : Nat) (s u : State) (f : Tri Bool), u = elapse t s ∧ clusterFree u = true ∧ (f.a || f.b || f.c) = true ∧
    u.keep.plan.refresh = false) ∧ (∃ (t : Nat) (m : Measured) (s u : State), u = elapse t s ∧ u.rst.powered = true ∧
    u.rst.recovery = false ∧ u.test.running = false ∧ u.cyc.phase ≠ .voting ∧ u.cyc.phase ≠ .voted ∧ u.vote.mode ≠ .halted ∧ (∀
    l, (m.dev.at l).toInt.natAbs ≤ 10000) ∧ u.fuse.caseMax < lidTemp (⟨130, 60, 60⟩ : Tri Int)) ∧ (∃ (t : Nat) (m : Measured) (s
    u : State), u = elapse t s ∧ u.rst.powered = true ∧ u.rst.recovery = false ∧ u.test.running = false ∧ u.cyc.phase ≠ .voting
    ∧ u.cyc.phase ≠ .voted ∧ u.vote.mode ≠ .halted ∧ (∀ l, (m.dev.at l).toInt.natAbs ≤ 10000) ∧ (¬ u.fuse.caseMax < lidTemp
    (⟨60, 60, 60⟩ : Tri Int))) ∧ (∃ (t : Nat) (m : Measured) (l : Lane) (s u : State), u = elapse t s ∧ u.rst.powered = true ∧
    u.rst.recovery = false ∧ u.rst.stage = .ready ∧ u.test.running = false ∧ u.cyc.phase = .idle ∧ u.vote.mode ≠ .halted ∧
    u.vote.rejoin = none ∧ 10000 < (m.dev.at l).toInt.natAbs ∧ (∀ k, k ≠ l → (m.dev.at k).toInt.natAbs ≤ 10000) ∧ (u.lane.at
    l).clockIn = true ∧ (u.lane.at l).state ≠ .off) ∧ (∃ (t x : Nat) (s u : State), u = elapse t s ∧ u.pwr.hotAt = some x ∧ x +
    10000000000 ≤ u.clk.now ∧ u.pwr.hotTold = false) ∧ (∃ (t : Nat) (a : Inputs) (is : Tri Inputs) (s u : State), u = elapse t
    s) ∧ (∃ (t : Nat) (is : Tri Bool) (s u : State), u = elapse t s ∧ u.rst.powered = true ∧ u.pwr.holdup = false ∧ 2 ≤
    countLanes is.at) ∧ (∃ (t mv : Nat) (s u : State), u = elapse t s ∧ inputUsable u = true) ∧ (∃ (t mv : Nat) (s u : State), u
    = elapse t s ∧ inputUsable u = true) := by
  refine ⟨⟨0, up, up, 5, .b, (elapse_zero _).symm, ?_⟩, ⟨0, inWorkersAndSupplies1, inWorkersAndSupplies1, .b, false,
    (elapse_zero _).symm, ?_⟩, ⟨0, up, up, ⟨1, 2, 3⟩, (elapse_zero _).symm, ?_⟩, ⟨0, up, up, (elapse_zero _).symm, ?_⟩, ⟨0,
    inWorkersAndSupplies2, inWorkersAndSupplies2, ⟨[249, 900, 900, 900, 900, 900, 900], ⟨1, 1, 1⟩, ⟨0, 0, 0⟩, []⟩,
    (elapse_zero _).symm, ?_⟩, ⟨0, up, up, ⟨false, true, false⟩, (elapse_zero _).symm, ?_⟩, ⟨0, argWorkersAndSupplies1, up, up,
    (elapse_zero _).symm, ?_⟩, ⟨0, argWorkersAndSupplies2, up, up, (elapse_zero _).symm, ?_⟩, ⟨0, argWorkersAndSupplies3, .b,
    up, up, (elapse_zero _).symm, ?_⟩, ⟨0, 0, inWorkersAndSupplies3, inWorkersAndSupplies3, (elapse_zero _).symm, ?_⟩, ⟨0,
    ⟨.settled, .low⟩, ⟨⟨.settled, .low⟩, ⟨.low, .usable⟩, ⟨.above, .above⟩⟩, up, up, (elapse_zero _).symm⟩, ⟨0, ⟨true, true,
    false⟩, held, held, (elapse_zero _).symm, ?_⟩, ⟨0, 2599, inWorkersAndSupplies4, inWorkersAndSupplies4, (elapse_zero _).symm,
    ?_⟩, ⟨0, 2600, inWorkersAndSupplies4, inWorkersAndSupplies4, (elapse_zero _).symm, ?_⟩⟩
  all_goals and_intros
  all_goals first | decide +kernel | (intro l; cases l <;> decide +kernel) | exact rfl

def inClocksAndCounters1 : State := { up with
  rst := { up.rst with powered := false }
  eth := { up.eth with ptpLock := true } }

def inClocksAndCounters2 : State := { up with tk := { up.tk with setLo := 1000, setNs := 999999999 } }

def inClocksAndCounters3 : State := { up with eth := { up.eth with link := true, ptpOn := true } }

def inClocksAndCounters4 : State := { up with
  eth := { up.eth with link := true, ptpOn := true, ptpSeen := true, ptpUtc := 37 } }

def inClocksAndCounters5 : State := moment 3000000000 { up with
  eth := { up.eth with ptpStep := some (-5, 3000000000) }
  clk := { up.clk with calNs := 3000000000 } }

theorem hyp_ClocksAndCounters :
    (∃ (t : Nat) (s u : State) (ppb : Int), u = elapse t s ∧ u.rst.powered = true) ∧ (∃ (t : Nat) (s u : State), u = elapse t s
    ∧ u.rst.powered = false ∧ inputUsable u = false ∧ crowned u = false ∧ u.vote.mode ≠ .degraded ∧ u.eth.ptpLock = true) ∧ (∃
    (t : Nat) (h : HostId) (s u : State), u = elapse t s ∧ Served 0x140020 u ∧ u.tk.setNs.toNat ≤ 999999999 ∧ setForbidden u =
    false) ∧ (∃ (t : Nat) (off utc : Int) (s u : State), u = elapse t s ∧ ethRuns u = true ∧ u.eth.ptpOn = true ∧ (u.eth.ptpSeen
    = true → u.eth.ptpUtc = utc)) ∧ (∃ (t : Nat) (off utc : Int) (s u : State), u = elapse t s ∧ ethRuns u = true ∧ u.eth.ptpOn
    = true ∧ (u.eth.ptpSeen = true → u.eth.ptpUtc = utc)) ∧ (∃ (t due : Nat) (d : Int) (s u : State), u = elapse t s ∧
    u.eth.ptpStep = some (d, due) ∧ due ≤ u.clk.calNs ∧ setTaken true u = false) ∧ (∃ (t : Nat) (h : HostId) (b : Bool) (s u :
    State), u = elapse t s ∧ Served (if b then 0x140008 else 0x140000) u) ∧ (∃ (t : Nat) (h : HostId) (b : Bool) (s u : State),
    u = elapse t s ∧ Served (if b then 0x140008 else 0x140000) u) ∧ (∃ (t : Nat) (h : HostId) (b : Bool) (s u : State), u =
    elapse t s ∧ Served (if b then 0x020110 else 0x020108) u) ∧ (∃ (t : Nat) (h : HostId) (b : Bool) (s u : State), u = elapse t
    s ∧ Served (if b then 0x020110 else 0x020108) u) := by
  refine ⟨⟨0, up, up, 300000, (elapse_zero _).symm, ?_⟩, ⟨0, inClocksAndCounters1, inClocksAndCounters1, (elapse_zero _).symm,
    ?_⟩, ⟨0, 1, inClocksAndCounters2, inClocksAndCounters2, (elapse_zero _).symm, ?_⟩, ⟨0, 1000000, 37, inClocksAndCounters3,
    inClocksAndCounters3, (elapse_zero _).symm, ?_⟩, ⟨0, -1000001, 37, inClocksAndCounters4, inClocksAndCounters4,
    (elapse_zero _).symm, ?_⟩, ⟨0, 3000000000, -5, inClocksAndCounters5, inClocksAndCounters5, (elapse_zero _).symm, ?_⟩, ⟨0, 1,
    true, up, up, (elapse_zero _).symm, ?_⟩, ⟨0, 1, false, up, up, (elapse_zero _).symm, ?_⟩, ⟨0, 1, true, up, up,
    (elapse_zero _).symm, ?_⟩, ⟨0, 1, false, up, up, (elapse_zero _).symm, ?_⟩⟩
  all_goals and_intros
  all_goals first | decide +kernel | (unfold Served; decide +kernel) | exact rfl

/-! ### Well-formed terms: for each check an ill-formed term that it refuses, beside a good one -/

theorem wf_verb_word : (Instr.verbLd .a (wordOf 0x02 0 0 0 0)).wf = false ∧ (Instr.verbLd .a (wordOf 0x01 0 0 0 0)).wf = true
    ∧ (Instr.verbLd .a (wordOf 0x0B 0 0 0 0)).wf = true := by decide
theorem wf_verb_fault : (Instr.verbFault .c (wordOf 0x38 0 0 0 0)).wf = false
    ∧ (Instr.verbFault .c (wordOf 0x3D 0 0 0 7)).wf = true := by decide
theorem wf_reflex : (Instr.reflexFire 0 0x04 .a 0).wf = false ∧ (Instr.reflexFire 0 0x1A .a 0).wf = true := by decide
theorem wf_sync_lost : (Instr.linkSyncLost 0 1 .fwd 3).wf = false ∧ (Instr.linkSyncLost 0 1 .fwd 4).wf = true := by decide
theorem wf_frame_received : (Instr.ringFrameReceive 0 1 .fwd { outFrame with secs := [] } 0 0 false 0).wf = false
    ∧ (Instr.ringFrameReceive 0 1 .fwd foreignFrame 0 0 false 0).wf = true := by decide +kernel
theorem wf_frame_returned : (Instr.ringFrameReturn 0 1 .fwd { outFrame with claim := some ⟨0, 2, 0, 0⟩ } 0).wf = false
    ∧ (Instr.ringFrameReturn 0 1 .fwd backFrame 0).wf = true := by decide +kernel
theorem wf_claim : (Instr.claimFrameReceive 0 1 .fwd outFrame).wf = false
    ∧ (Instr.claimFrameReceive 0 1 .fwd { foreignClaim with claim := none }).wf = false
    ∧ (Instr.claimFrameReceive 0 1 .fwd foreignClaim).wf = true := by decide +kernel
theorem wf_quiet_unit : (Instr.quietIntervalComplete 0 512).wf = false ∧ (Instr.quietIntervalComplete 0 511).wf = true := by decide
theorem wf_degraded_unit : (Instr.doorDegTimeExpiry 0 512).wf = false ∧ (Instr.doorDegTimeExpiry 0 0).wf = true := by decide
theorem wf_command_slot : (Instr.commandRecord 0 ⟨9, true⟩ { slot := 512, tseq := 0, value := 0, src := 0, accepted := 0 }).wf = false
    ∧ (Instr.commandRecord 0 ⟨9, true⟩ { slot := 511, tseq := 0, value := 0, src := 0, accepted := 0 }).wf = true := by decide
theorem wf_guard_units :
    (Instr.guardRecord 0 ⟨9, true⟩ [⟨512, 3, 2, true, false, 7, 5, true, 1, 2, 3, 4, 1, 2, 9, true⟩]).wf = false
    ∧ (Instr.guardRecord 0 ⟨9, true⟩ [⟨511, 4, 2, true, false, 7, 5, true, 1, 2, 3, 4, 1, 2, 9, true⟩]).wf = false
    ∧ (Instr.guardRecord 0 ⟨9, true⟩ [⟨511, 3, 3, true, false, 7, 5, true, 1, 2, 3, 4, 1, 2, 9, true⟩]).wf = false
    ∧ (Instr.guardRecord 0 ⟨9, true⟩ [⟨511, 3, 2, true, false, 7, 5, true, 1, 2, 3, 4, 1, 2, 9, true⟩]).wf = true := by decide
theorem wf_event_length : (Instr.eventRecord 0 ⟨9, true⟩ (List.replicate 236 0)).wf = false
    ∧ (Instr.eventRecord 0 ⟨9, true⟩ (List.replicate 235 0)).wf = true := by decide +kernel
theorem wf_stream : (Instr.combStreamRequest 0 0 3 0 1).wf = false ∧ (Instr.combStreamRequest 0 0 2 0 (2 ^ 64)).wf = false
    ∧ (Instr.combStreamRequest 0 0 2 (2 ^ 64) 1).wf = false ∧ (Instr.combStreamRequest 0 0 2 0 1).wf = true := by decide +kernel
theorem wf_scan : (Instr.scanRequest 0 .a { aScan with len := 0 }).wf = false
    ∧ (Instr.scanRequest 0 .a { aScan with len := 2 ^ 24 + 1 }).wf = false
    ∧ (Instr.scanRequest 0 .a { aScan with len := 2 ^ 24 }).wf = true := by decide +kernel
theorem wf_check_place : (Instr.storedCheckFail 0 3 6 0 (Tri.all none) false).wf = false
    ∧ (Instr.storedCheckFail 0 3 5 0 (Tri.all none) false).wf = true := by decide
theorem wf_telegram_length : (Instr.hpCommand 0 1 0x4B 5 [1, 2] 0).wf = false
    ∧ (Instr.hpCommand 0 1 0x4B 5 (List.replicate 24 0) 0).wf = true := by decide
theorem wf_port : (Instr.ethConnectionAttempt 0 65536).wf = false ∧ (Instr.ethConnectionAttempt 0 65535).wf = true := by decide
theorem wf_source : (Instr.eventSourceFire 0 0).wf = false ∧ (Instr.eventSourceFire 0 192).wf = false
    ∧ (Instr.eventSourceFire 0 191).wf = true := by decide
theorem wf_moderation : (Instr.moderationTimeout 0 0).wf = false ∧ (Instr.moderationTimeout 0 192).wf = false
    ∧ (Instr.moderationTimeout 0 1).wf = true := by decide
theorem wf_startup_entries : (Instr.startupSelftestDone 0 (List.replicate 10 (0, 0))).wf = false
    ∧ (Instr.startupSelftestDone 0 (List.replicate 11 (0, 0))).wf = true := by decide
theorem wf_step_entries : (Instr.selftestStepDone 0 (List.replicate 4 (0, 0))).wf = false
    ∧ (Instr.selftestStepDone 0 (List.replicate 3 (0, 0))).wf = true := by decide
theorem wf_signature : (Instr.updOpen 0 .eth 1 2 3 4 5 (List.replicate 63 0)).wf = false
    ∧ (Instr.updOpen 0 .eth 1 2 3 4 5 (List.replicate 64 0)).wf = true := by decide +kernel
theorem wf_data_length : (Instr.updData 0 .eth 0 (List.replicate 1025 0)).wf = false
    ∧ (Instr.updData 0 .eth 0 (List.replicate 1024 0)).wf = true := by decide +kernel
theorem wf_eyes : (Instr.ageingDaily 0 ⟨[1], ⟨1, 1, 1⟩, ⟨0, 0, 0⟩, []⟩).wf = false
    ∧ (Instr.ageingDaily 0 ⟨[1, 2, 3, 4, 5, 6, 7], ⟨1, 1, 1⟩, ⟨0, 0, 0⟩, []⟩).wf = true := by decide

/-! ### Instruction words that execute -/

/-- Words that meet `Fetched` for their verb codes in a state. -/
def allFetched (s : State) (xs : List (Nat × W64)) : Bool :=
  xs.all (fun x => decide ((vword x.2).verb.toNat = x.1) && decide ((s.eng.at .b).run = .running)
    && !(s.st.at .b).bad.contains (.insn (s.bank.at .b).active (s.eng.at .b).pc.toNat))

theorem allFetched_fetched (s : State) (xs : List (Nat × W64)) (h : allFetched s xs = true) :
    ∀ x ∈ xs, Fetched x.1 .b x.2 s := by
  simp only [allFetched, List.all_eq_true, Bool.and_eq_true, decide_eq_true_eq, Bool.not_eq_true'] at h
  exact fun x m => ⟨(h x m).1.1, (h x m).1.2, (h x m).2⟩

/-- An LDK with bit 1 of OP2 set; stores into SPACE 0b01 and 0b11 at the ends of their ranges; edge verbs outside the edge
half. -/
theorem hyp_trapping_words : (∀ x ∈ [(0x0A, wordOf 0x0A 0 0 0 2), (0x10, wordOf 0x10 0 1 0x48FFF 0), (0x13, wordOf 0x13 1 3 (2 ^ 22 + 0x3FFFF) 0),
      (0x11, wordOf 0x11 0 3 0xFFFF 0), (0x1D, wordOf 0x1D 0 3 (2 ^ 22 - 1) 0), (0x1E, wordOf 0x1E 1 2 (2 ^ 22) 0),
      (0x21, wordOf 0x21 1 1 0x123F 0), (0x21, wordOf 0x21 1 3 65472 0)], Fetched x.1 .b x.2 runs)
    ∧ inRange (vword (wordOf 0x21 1 1 0x123F 0)) = true ∧ inRange (vword (wordOf 0x21 1 3 65472 0)) = true
    ∧ (vword (wordOf 0x0A 0 0 0 2)).op2 >>> 1 ≠ 0 ∧ inRange (vword (wordOf 0x10 0 1 0x48FFF 0)) = true
    ∧ inRange (vword (wordOf 0x13 1 3 (2 ^ 22 + 0x3FFFF) 0)) = true ∧ inRange (vword (wordOf 0x11 0 3 0xFFFF 0)) = true
    ∧ (vword (wordOf 0x1D 0 3 (2 ^ 22 - 1) 0)).addr.getLsbD 22 = false ∧ (vword (wordOf 0x1E 1 2 (2 ^ 22) 0)).space ≠ 3 :=
  ⟨allFetched_fetched _ _ (by decide +kernel), by decide +kernel, by decide +kernel, by decide +kernel, by decide +kernel,
    by decide +kernel, by decide +kernel, by decide +kernel, by decide +kernel⟩


/-- Words that meet `Executes` for their verb codes in a state. -/
def allExecute (s : State) (xs : List (Nat × W64)) : Bool :=
  xs.all (fun x => decide ((vword x.2).verb.toNat = x.1) && decide ((s.eng.at .b).run = .running)
    && decide (trapOf ((activeProg s .b).getD {}) (s.bank.at .b).active (workOf s .b) (vword x.2) = none))

theorem allExecute_executes (s : State) (xs : List (Nat × W64)) (h : allExecute s xs = true) :
    ∀ x ∈ xs, Executes x.1 .b x.2 s := by
  intro x hx
  have := List.all_eq_true.mp h x hx
  simp only [Bool.and_eq_true, decide_eq_true_eq] at this
  exact ⟨this.1.1, this.1.2, this.2⟩

theorem hyp_LogicVerbs : ∀ x ∈ ([1, 2, 3, 4, 5, 6, 7, 8].flatMap (fun c =>
    [(c, wordOf c 0 0 0x7FFFFF 0), (c, wordOf c 1 1 0x123F 0), (c, wordOf c 0 3 65535 0), (c, wordOf c 1 3 65472 0)])
    ++ [(9, wordOf 9 0 0 0 0), (9, wordOf 9 1 0 0 0), (10, wordOf 10 0 0 0 1), (10, wordOf 10 1 0 0 0)]),
    Executes x.1 .b x.2 runs := allExecute_executes _ _ (by decide +kernel)
theorem hyp_BitStoreVerbs : ∀ x ∈ [0x10, 0x11, 0x12, 0x13].flatMap (fun c =>
    [(c, wordOf c 0 0 0x7FFFFF 0), (c, wordOf c 1 2 0xFFF 0), (c, wordOf c 0 2 0x3FFFF 0), (c, wordOf c 1 0 0x3FFFF 0)]),
    Executes x.1 .b x.2 runs := allExecute_executes _ _ (by decide +kernel)
theorem hyp_ClauseVerbs : ∀ x ∈ [(0x14, wordOf 0x14 0 0 0 0), (0x15, wordOf 0x15 1 1 0 0), (0x16, wordOf 0x16 0 0 0 0),
    (0x16, wordOf 0x16 1 0 0 0), (0x17, wordOf 0x17 0 0 0 0), (0x17, wordOf 0x17 1 0 0 0)],
    Executes x.1 .b x.2 runsSet := allExecute_executes _ _ (by decide +kernel)
theorem hyp_TimerVerbs : ∀ x ∈ [(0x18, wordOf 0x18 0 3 65535 0x3FFFFFF), (0x18, wordOf 0x18 1 3 0 1),
    (0x19, wordOf 0x19 0 3 0 0), (0x19, wordOf 0x19 1 3 64 7), (0x1A, wordOf 0x1A 0 3 9 9), (0x1A, wordOf 0x1A 1 3 65472 0),
    (0x1B, wordOf 0x1B 0 3 1 0), (0x1B, wordOf 0x1B 1 3 0 0), (0x1C, wordOf 0x1C 0 3 65535 0)],
    Executes x.1 .b x.2 runs := allExecute_executes _ _ (by decide +kernel)
theorem hyp_EdgeVerbs : ∀ x ∈ [0x1D, 0x1E].flatMap (fun c =>
    [(c, wordOf c 0 3 (2 ^ 22) 0), (c, wordOf c 1 3 (2 ^ 22 + 5) 0)]), Executes x.1 .b x.2 runsSet :=
  allExecute_executes _ _ (by decide +kernel)
theorem hyp_wordReads : ∀ x ∈ [0x20, 0x23, 0x24, 0x26, 0x27].flatMap (fun c =>
    [(c, wordOf c 1 0 0x3FFFF 0), (c, wordOf c 1 1 0x123F 0), (c, wordOf c 1 2 0xFFF 0)])
    ++ [(0x22, wordOf 0x22 1 0 0 0xFFFFFFFF), (0x25, wordOf 0x25 1 0 0 1), (0x2C, wordOf 0x2C 0 0 0 0),
      (0x2E, wordOf 0x2E 1 0 0 0)], Executes x.1 .b x.2 runs := allExecute_executes _ _ (by decide +kernel)
theorem hyp_CompareVerbs : ∀ x ∈ [(0x28, wordOf 0x28 1 0 0 0), (0x29, wordOf 0x29 1 2 0 0), (0x2A, wordOf 0x2A 1 0 0 5),
    (0x2B, wordOf 0x2B 1 0 0 0x80000000), (0x2D, wordOf 0x2D 1 0 0 0)], Executes x.1 .b x.2 runs :=
  allExecute_executes _ _ (by decide +kernel)
theorem hyp_jumpsAndCalls : ∀ x ∈ [(0x30, wordOf 0x30 0 0 0 1), (0x30, wordOf 0x30 0 0 0 99), (0x33, wordOf 0x33 0 0 0 40)],
    Executes x.1 .b x.2 runs := allExecute_executes _ _ (by decide +kernel)
theorem hyp_entry : Executes 0x35 .b (wordOf 0x35 0 0 0 0) runsIn := by unfold Executes; decide +kernel
theorem hyp_MaskAndFaultVerbs : ∀ x ∈ [(0x39, wordOf 0x39 0 0 0 0), (0x3A, wordOf 0x3A 0 0 0 0), (0x3B, wordOf 0x3B 0 0 0 0),
    (0x3C, wordOf 0x3C 1 0 0 0), (0x3D, wordOf 0x3D 0 0 0 0x80000007), (0x3D, wordOf 0x3D 0 0 0 0)],
    Executes x.1 .b x.2 runs := allExecute_executes _ _ (by decide +kernel)

/-! ### What single commands do: figures from the spec's tables and worked examples -/

/-- What a command answers, where it answers a next state. -/
def next (o : Host.Outcome State Fault Refusal) : State :=
  match o with
  | .next s => s
  | _ => State.reset

/-- R60: the words of the worked example of spec/02_clause_instruction_set.md, group 3, and its LD of point 130. -/
theorem words_of_flank_protection :
    vword 0x0410008200000000 = ⟨0x01, false, 0, 0x100082, 0⟩
    ∧ [vwordEncode ⟨0x3C, true, 0, 0x4018, 0⟩, vwordEncode ⟨0x01, true, 0, 0x4003, 0⟩, vwordEncode ⟨0x14, true, 0, 0x4007, 0⟩,
        vwordEncode ⟨0x03, true, 1, 0x0203, 0⟩, vwordEncode ⟨0x17, true, 0, 0, 0⟩, vwordEncode ⟨0x16, true, 0, 0, 0⟩,
        vwordEncode ⟨0x04, true, 0, 0x4013, 0⟩, vwordEncode ⟨0x10, true, 0, 0x4017, 0⟩, vwordEncode ⟨0x3A, false, 0, 0, 0⟩]
      = [0xF200401800000000, 0x0600400300000000, 0x5200400700000000, 0x0E80020300000000, 0x5E00000000000000,
        0x5A00000000000000, 0x1200401300000000, 0x4200401700000000, 0xE800000000000000] := by decide

/-- R385: the check value of the nine ASCII bytes. -/
theorem crc_known_answer : crc32c [0x31, 0x32, 0x33, 0x34, 0x35, 0x36, 0x37, 0x38, 0x39] = 0xE3069283 := by decide +kernel

/-- R98, with the budgets of spec/03_program_cycle.md and spec/17_workers_ageing_time.md: 381,744 at 400 MHz, 358,839 at
376. -/
theorem budget_at_400 : budget up = 381744 := by decide +kernel
theorem budget_at_376 : budget { up with lane := Tri.all { voter with step := 1 } } = 358839 := by decide +kernel

/-- Lane B with some engine registers. -/
def withEng (f : Engine → Engine) : State := { runs with eng := runs.eng.upd .b f }

/-- R76: WADDI saturates at the largest signed value. -/
theorem waddi_saturates : ((next (exec (.verbWaddi .b (wordOf 0x25 1 0 0 1))
    (withEng (fun e => { e with w := 0x7FFFFFFFFFFFFFFF })))).eng.at .b).w = 0x7FFFFFFFFFFFFFFF := by decide +kernel
/-- R76: WLDI sign-extends its immediate. -/
theorem wldi_extends : ((next (exec (.verbWldi .b (wordOf 0x22 1 0 0 0x80000000)) runs)).eng.at .b).w = 0xFFFFFFFF80000000 := by
  decide +kernel
/-- R50, R65: ST under a mask of 20 columns leaves bits 20 to 63 of the word. -/
theorem st_masked : tabGet 0 ((next (exec (.verbSt .b (wordOf 0x10 1 0 0x4017 0)) { withEng (fun e =>
    { e with acc := 0x12345, cmask := 0xFFFFF }) with st := Tri.all { noun := [(0x4017, 0xFFFFFFFFFFFFFFFF)] } })).st.b.noun)
    0x4017 = 0xFFFFFFFFFFF12345 := by decide +kernel
/-- R75: EDGR of a rise stores A in the noun and leaves 1 in ACC. -/
theorem edgr_rise : let t := next (exec (.verbEdgr .b (wordOf 0x1D 0 3 (2 ^ 22) 0)) (withEng (fun e => { e with acc := 1 })))
    (t.eng.at .b).acc = 1 ∧ tabGet 0 t.st.b.noun 0 = 1 := by decide +kernel
/-- R86, R87: CLOSE.AND on an empty stack traps with CLAUSE_UNDERFLOW, and the engine's ACC stands. -/
theorem close_underflow : let t := next (exec (.verbCloseAnd .b (wordOf 0x16 0 0 0 0)) (withEng (fun e => { e with acc := 5 })))
    (t.eng.at .b).run = .stopped ∧ (t.eng.at .b).acc = 5 ∧ (t.lane.at .b).trap = 0x80000011 := by decide +kernel

/-- Source 51 of the worked example of spec/13_host_connections.md. -/
def snapSource : State := putSource up 51 { mask := 2, tier := 6, order := 0x10, modCount := 4, modTime := 50000 }
/-- R424, R425: its first fire is not deliverable; the idle host's assertion makes it so. -/
theorem snap_waits : irq (next (exec (.eventSourceFire 0 51) snapSource)).evr 1 = false := by decide +kernel
theorem snap_delivered : irq (next (exec (.hostIdleAssert 12000000 1) (fire 51 snapSource))).evr 1 = true := by decide +kernel
/-- R423: a completion by a target that is not the claimer changes nothing and is counted. -/
theorem foreign_completion : let s := putSource up 51 { state := .active, claimer := 1 }
    let t := next (exec (.evrComplete 0 1 0 51) s)
    (sourceOf t 51).state = .active ∧ t.evr.ignored = 1 := by decide +kernel

/-- R232: the silence of spec/06_ring_time_guard_startup.md, 3 times 27.072 µs from the claim's return at +27.072 µs. -/
def waitsOut (x : Nat) : State := { moment (1000000 + x) standing with
  crown := { standing.crown with state := .candidate, epoch := 57 }, keep := { standing.keep with epochKept := 57 }
  ring := standing.ring.upd 1 (fun p => { p with claim := { state := .claiming, next := 1, sent := [(1000000, 1000000, 0)]
                                                            first := some 1000000, foreign := some 1017584
                                                            ownBack := some 1027072, rt := 27072 } }) }
theorem silence_not_yet : ((next (exec (.claimSilenceWin 1108287 1) (waitsOut 108000))).ring.at 1).claim.state = .claiming := by
  decide +kernel
theorem silence_won : ((next (exec (.claimSilenceWin 1108288 1) (waitsOut 108000))).ring.at 1).claim.state = .won := by
  decide +kernel

/-- R302, R305: in spec/09_crown_pair.md, with L = 8 ms, the view expires at +7,793 µs and the crown is taken at +9,793 µs.
-/
def viewRuns : State := { moment 100000000 standing with
  set := { block := some { someSettings with leaseMs := 8 } }
  crown := { standing.crown with epoch := 57, followed := 57, view := some 107793000 }
  keep := { standing.keep with epochKept := 57 } }
theorem crown_not_yet : (next (exec (.crownTake 109792999) viewRuns)).crown.state = .inStep := by decide +kernel
theorem crown_taken : let t := next (exec (.crownTake 109793000) viewRuns)
    t.crown.state = .candidate ∧ t.keep.epochKept = 58 := by decide +kernel

/-- R446: after eight interrupted loads the next takes the safe defaults without reading, and ATTEMPTS is 0 again. -/
def loadsAgain (n : Nat) : State := { State.reset with
  rst := { powered := true, stage := .clocks }, keep := { State.reset.keep with attempts := n } }
theorem eighth_load : let t := next (exec (.clocksStable 0 ⟨true, true, true⟩) (loadsAgain 7))
    t.rst.stage = .options ∧ t.keep.attempts = 8 ∧ t.opt.fail = false := by decide +kernel
theorem ninth_load : let t := next (exec (.clocksStable 0 ⟨true, true, true⟩) (loadsAgain 8))
    t.rst.stage = .pll ∧ t.keep.attempts = 0 ∧ t.opt.fail = true ∧ t.opt.why = 1 := by decide +kernel
/-- R439: a low period of fewer than 40 oscillator periods resets nothing and is counted. -/
theorem short_pulse : let t := next (exec (.nrstPulse 0 39) up)
    t.rst.stage = .ready ∧ t.rst.rejected = 1 := by decide +kernel

/-- R121, R142: in the worked example of spec/03_program_cycle.md a fourth skip in a row is the lane fault SKIP4. -/
def fourthSkip : State := { moment 1960000 held with
  cyc := { on := true, n := 4013, b := 1000000, phase := .voting, atEnd := ⟨true, true, false⟩, skipping := ⟨false, false, true⟩ }
  eng := ⟨{ run := .ended, cycle := 4013 }, { run := .ended, cycle := 4013 }, { run := .running, cycle := 4013 }⟩
  lane := ⟨voter, voter, { voter with skipConsec := 3 }⟩ }
theorem fourth_skip : let t := next (exec (.commitDeadline 1968000) { fourthSkip with cyc := { fourthSkip.cyc with
      phase := .logic, skipping := Tri.all false, atEnd := Tri.all false } })
    (t.lane.at .c).skipConsec = 4 ∧ (t.lane.at .c).fault.getLsbD 3 = true := by
  decide +kernel

/-- Two agreed copies of a release (R296) reach a standby. -/
theorem release_agreed : Agreed (⟨9, some (), some (), 500⟩ : Twin Unit) () follows := ⟨rfl, rfl, by decide, by decide⟩
/-- One copy missing is counted as a failed check and as an unequal pair. -/
theorem release_single : let t := next (exec (.releaseRecord 0 ⟨9, some (), none, 500⟩) follows)
    t.pl.errCheck = 1 ∧ t.pl.errDup = 1 ∧ t.crown.released = false := by decide +kernel

end Sys2Proof.Tests
end

/-! The step and the queue of the commands that wait (log entry 2). -/
namespace Sys2Proof.Machine

/-- With a command waiting, a step is that command's meaning on the state without it in the queue. -/
theorem step_of_pending_cons {s : State} {c : Instr} {rest : List Instr} (h : s.pending = c :: rest) :
    step s = exec c { s with pending := rest } := by
  simp only [step, h]

/-- With no command waiting, a step answers the state as it is. -/
theorem step_of_pending_nil {s : State} (h : s.pending = []) : step s = .next s := by
  simp only [step, h]

/-- Settles O2: one equation of `step` for each shape of the queue. -/
theorem stepPerformsTheFrontCommand : Obligations.StepPerformsTheFrontCommand :=
  ⟨fun _ _ _ hfront => step_of_pending_cons hfront, fun _ hempty => step_of_pending_nil hempty⟩

end Sys2Proof.Machine

/-! The service role (R24 to R26): what a move marks. -/
namespace Sys2Proof.Machine

@[simp] theorem leaveCell_setAt (w : InProg) (cap : W32) (s : State) : (leaveCell w cap s).setAt = s.setAt := rfl

@[simp] theorem abandonCell_setAt (s : State) : (abandonCell s).setAt = s.setAt := by
  unfold abandonCell
  dsimp only
  split <;> simp

/-- The instants at which flags were set, with those that a move sets now: FORCED when it is forced, MOVED when it closes
the host's test context (R16, R26, R399). -/
def moveMarks (forced : Bool) (s : State) : List (Nat × Nat) :=
  (markIf forced (flagKey 0x000010 2) (markIf s.chk.test.isSome (flagKey 0x0F0040 1) s)).setAt

theorem moveService_setAt (forced : Bool) (m : Lane) (s : State) : (moveService forced m s).setAt = moveMarks forced s := by
  unfold moveService moveMarks
  cases forced <;> simp

/-- With the lane in service out of service, the role moves to the next lane in service (R24), forced when the clock of the
lane that held it is out of range (R26). -/
theorem exec_serviceRoleMove {t : Nat} {m : Lane} {s u : State} (hu : u = elapse t s)
    (hout : inService u u.glb.svc = false) (hnext : nextService u u.glb.svc = some m) :
    exec (.serviceRoleMove t) s = .next (moveService (!(laneOf u u.glb.svc).clockIn) m u) := by
  subst hu
  simp only [exec, execServiceRoleMove, hout, hnext, Bool.false_and, Bool.false_eq_true, if_false]

/-- Lane A holds the service role but is off, lane B votes, and the host's test context is open. -/
def contextOpen : State :=
  { State.reset with lane := ⟨{}, { state := .voting }, {}⟩, chk := { test := some [] } }

/-- Refutes O21: the statement allows a move to change the global registers, the check unit, the router and the comb alone.
At `contextOpen` the move to lane B also closes the host's test context, and hardware that sets MOVED is noted with its
instant in `setAt` (R16). -/
theorem not_serviceRoleMoves : ¬ Obligations.ServiceRoleMoves := by
  unfold Obligations.ServiceRoleMoves
  intro hmoves
  have hnow : contextOpen = elapse 0 contextOpen := rfl
  have hout : inService contextOpen contextOpen.glb.svc = false := by decide
  have hnext : nextService contextOpen contextOpen.glb.svc = some .b := by decide
  obtain ⟨g, k, e, c, hexec, -⟩ := hmoves 0 .b contextOpen contextOpen hnow hout hnext
  rw [exec_serviceRoleMove hnow hout hnext] at hexec
  have hstate := Host.Outcome.next.inj hexec
  have hsetAt : moveMarks (!(laneOf contextOpen contextOpen.glb.svc).clockIn) contextOpen = contextOpen.setAt := by
    rw [← moveService_setAt _ .b, hstate]
  exact absurd hsetAt (by decide)

end Sys2Proof.Machine

/-! The commit of a module that holds the crown (R33, R94, R118, R124): a view of the state and what each stage does to it. -/
namespace Sys2Proof.Machine

/-- The part of the state that a commit is about: the cycle, the image and the write phase it puts in place, the stores and
the code store it leaves, and the crown with its handover, on which its records turn. -/
structure CommitView where
  lastCommit : Option W32
  commitCycle : W32
  voteCycle : W32
  phase : Phase
  img : Tab W64
  wpImg : Tab W64
  wpCycle : W32
  wpHeld : Bool
  st : Tri Stores
  store : Tab Byte
  crown : CrownState
  ho : Option Handover

def commitView (s : State) : CommitView where
  lastCommit := s.keep.lastCommit
  commitCycle := s.glb.commitCycle
  voteCycle := s.vote.cycle
  phase := s.cyc.phase
  img := s.cyc.img
  wpImg := s.wp.img
  wpCycle := s.wp.cycle
  wpHeld := s.wp.held
  st := s.st
  store := s.store
  crown := s.crown.state
  ho := s.crown.ho

theorem crowned_eq_commitView (s : State) : crowned s = ((commitView s).crown == .crowned) := rfl

/-- Steps that each keep the view keep it together. -/
theorem commitView_foldl {α : Type} {f : State → α → State} (hf : ∀ s x, commitView (f s x) = commitView s) (l : List α)
    (s : State) : commitView (l.foldl f s) = commitView s := by
  induction l generalizing s with
  | nil => rfl
  | cons x l ih => rw [List.foldl_cons, ih, hf]

/-! ### What is heard -/

@[simp] theorem commitView_fire (n : Nat) (s : State) : commitView (fire n s) = commitView s := by simp [commitView]
@[simp] theorem commitView_fireIf (b : Bool) (n : Nat) (s : State) : commitView (fireIf b n s) = commitView s := by
  simp [commitView]
@[simp] theorem commitView_record (i : Nat) (n : Note) (vals : List Nat) (s : State) :
    commitView (record i n vals s) = commitView s := by simp [commitView]
@[simp] theorem commitView_recordIf (b : Bool) (i : Nat) (n : Note) (vals : List Nat) (s : State) :
    commitView (recordIf b i n vals s) = commitView s := by simp [commitView]
@[simp] theorem commitView_recordOwn (i typ : Nat) (b : List Byte) (s : State) :
    commitView (recordOwn i typ b s) = commitView s := by simp [commitView]
@[simp] theorem commitView_send (r : PlOut) (s : State) : commitView (send r s) = commitView s := by simp [commitView]
@[simp] theorem commitView_setLState (l : Lane) (x : LState) (s : State) : commitView (setLState l x s) = commitView s := by
  simp [commitView]
@[simp] theorem commitView_excludeLane (l : Lane) (s : State) : commitView (excludeLane l s) = commitView s := by
  simp [commitView]

/-! ### Lane states and the mode -/

@[simp] theorem commitView_failRejoin (s : State) : commitView (failRejoin s) = commitView s := by
  unfold failRejoin
  split
  · rfl
  · dsimp only
    rw [commitView_record, commitView_setLState]
    rfl

@[simp] theorem commitView_dropPermits (s : State) : commitView (dropPermits s) = commitView s := rfl
@[simp] theorem commitView_setPermits (s : State) : commitView (setPermits s) = commitView s := rfl
@[simp] theorem commitView_noteSrc (code : Nat) (s : State) : commitView (noteSrc code s) = commitView s := rfl
@[simp] theorem commitView_halt (code : Nat) (s : State) : commitView (halt code s) = commitView s := rfl
@[simp] theorem commitView_noteFirst (code : Nat) (s : State) : commitView (noteFirst code s) = commitView s := by
  unfold noteFirst
  split <;> rfl

@[simp] theorem commitView_moduleReflex (code : Nat) (s : State) : commitView (moduleReflex code s) = commitView s := by
  unfold moduleReflex
  dsimp only
  have hnoted (u : State) : commitView (record 0 .reflexFired [code] (fire 8 (dropPermits (noteFirst code (noteSrc code u))))) =
      commitView u := by
    rw [commitView_record, commitView_fire, commitView_dropPermits, commitView_noteFirst, commitView_noteSrc]
  split <;> exact hnoted _

@[simp] theorem commitView_commitFault (fw : W64) (s : State) : commitView (commitFault fw s) = commitView s := by
  unfold commitFault
  dsimp only
  have htold (u : State) : commitView (fireIf (faultClass fw) 1 (recordIf (fw != 0) 0 .appFault [fw.toNat] u)) =
      commitView u := by
    rw [commitView_fireIf, commitView_recordIf]
  split
  · split
    · exact htold s
    · exact (commitView_moduleReflex 0x18 _).trans (htold s)
  · exact htold s

@[simp] theorem commitView_skipCell (whole : Bool) (s : State) : commitView (skipCell whole s) = commitView s := by
  rw [skipCell, commitView_recordIf]

@[simp] theorem commitView_noteDisagree (n : W32) (r : VoteRes) (s : State) :
    commitView (noteDisagree n r s) = commitView s := by
  unfold noteDisagree
  split
  · rfl
  · exact commitView_record ..

@[simp] theorem commitView_engineCheck (n : W32) (s : State) : commitView (engineCheck n s) = commitView s := by
  unfold engineCheck
  split
  · rfl
  · exact commitView_recordIf ..

@[simp] theorem commitView_enterVoting (l : Lane) (s : State) : commitView (enterVoting l s) = commitView s :=
  commitView_setLState l .voting _

@[simp] theorem commitView_promoteLane (s : State) (l : Lane) : commitView (promoteLane s l) = commitView s := by
  unfold promoteLane
  split
  · exact commitView_enterVoting l s
  · rfl

@[simp] theorem commitView_promoteAll (s : State) : commitView (promoteAll s) = commitView s := by
  unfold promoteAll
  split
  · exact commitView_foldl commitView_promoteLane lanes s
  · rfl

@[simp] theorem commitView_excludeOne (r : VoteRes) (s : State) (l : Lane) :
    commitView (excludeOne r s l) = commitView s := by
  unfold excludeOne
  dsimp only
  split
  · rfl
  · split
    · exact commitView_excludeLane l _
    · split
      · exact commitView_excludeLane l s
      · rfl

@[simp] theorem commitView_commitRejoin (n : W32) (res : VoteRes) (s : State) :
    commitView (commitRejoin n res s) = commitView s := by
  unfold commitRejoin
  split
  · rfl
  · dsimp only
    split
    · exact commitView_failRejoin s
    · split
      · split
        · rfl
        · split
          · exact commitView_failRejoin s
          · split
            · exact commitView_enterVoting _ _
            · rfl
      · rfl

/-- With no handover under way, none is withdrawn with the degraded clock. -/
theorem commitView_stopDegraded {s : State} (hho : (commitView s).ho = none) :
    commitView (stopDegraded s) = commitView s := by
  have hnone : s.crown.ho = none := hho
  simp only [stopDegraded, commitView, hnone]

theorem commitView_settleMode {s : State} (hho : (commitView s).ho = none) :
    commitView (settleMode s) = commitView s := by
  unfold settleMode
  split
  · rfl
  · split
    · split
      · rfl
      · exact commitView_stopDegraded (s := { s with vote := { s.vote with mode := .full } }) hho
    · split <;> rfl
    · split
      · rfl
      · exact commitView_moduleReflex _ s

theorem commitView_commitLanes (n : W32) (r : VoteRes) {s : State} (hho : (commitView s).ho = none) :
    commitView (commitLanes n r s) = commitView s := by
  have hlanes (u : State) : commitView (commitRejoin n r (lanes.foldl (excludeOne r) u)) = commitView u := by
    rw [commitView_commitRejoin, commitView_foldl (commitView_excludeOne r)]
  unfold commitLanes
  dsimp only
  rw [commitView_settleMode, hlanes]
  · split
    · rfl
    · exact commitView_promoteAll s
  · rw [hlanes]
    split
    · exact hho
    · rw [commitView_promoteAll]; exact hho

/-! ### The exchange and the records -/

@[simp] theorem commitView_setPx (x : PxState) (reason : Nat) (s : State) :
    commitView (setPx x reason s) = commitView s :=
  (commitView_fire 36 _).trans (commitView_record ..)

@[simp] theorem commitView_cancelPx (reason : Nat) (s : State) : commitView (cancelPx reason s) = commitView s := by
  unfold cancelPx
  split
  · exact commitView_setPx .staged reason s
  · rfl

@[simp] theorem setPx_vote_cycle (x : PxState) (reason : Nat) (s : State) : (setPx x reason s).vote.cycle = s.vote.cycle :=
  congrArg CommitView.voteCycle (commitView_setPx x reason s)

@[simp] theorem commitView_switchBanks (s : State) : commitView (switchBanks s) = commitView s := by
  simp [switchBanks, commitView, activateBank, bumpCounter]

@[simp] theorem commitView_commitExchange (n : W32) (go : Nat) (s : State) :
    commitView (commitExchange n go s) = commitView s := by
  unfold commitExchange
  split
  · split
    · split
      · exact commitView_setPx .agreed 0 s
      · split
        · rfl
        · exact commitView_cancelPx 8 s
    · rfl
  · split
    · split
      · exact commitView_switchBanks s
      · exact commitView_cancelPx go s
    · rfl
  · split
    · exact commitView_setPx .idle 0 s
    · rfl
  · rfl

@[simp] theorem commitView_acknowledge (ts : Nat) (solo : Bool) (s : State) :
    commitView (acknowledge ts solo s) = commitView s := by
  unfold acknowledge
  split <;> rfl

@[simp] theorem commitView_sentRenewal (ts : Nat) (s : State) : commitView (sentRenewal ts s) = commitView s := by
  unfold sentRenewal
  dsimp only
  split
  · rw [commitView_acknowledge]; rfl
  · rfl

@[simp] theorem commitView_holderRecords (b : CommitBody) (s : State) : commitView (holderRecords b s) = commitView s := by
  have hcommit : commitView (if s.cyc.latchSent then send (.commit b) s else s) = commitView s := by
    split
    · exact commitView_send _ s
    · rfl
  have hlease (x : LeaseBody) (u : State) :
      commitView (if x.renew then sentRenewal x.ts (send (.lease x) u) else send (.lease x) u) = commitView u := by
    split
    · rw [commitView_sentRenewal, commitView_send]
    · exact commitView_send _ u
  exact (hlease _ _).trans hcommit

/-- A holder with no handover under way may offer one and does nothing else. -/
theorem commitView_offerHandover (why : OfferWhy) (s : State) :
    commitView (offerHandover why s) = { commitView s with ho := (offerHandover why s).crown.ho } := by
  unfold offerHandover
  split
  · rfl
  · split
    · rfl
    · simp [commitView]

theorem commitView_holderHandover (n : W32) (kind : CommitKind) (digest : W32) {s : State} (hho : (commitView s).ho = none) :
    commitView (holderHandover n kind digest s) =
      { commitView s with ho := (holderHandover n kind digest s).crown.ho } := by
  have hnone : s.crown.ho = none := hho
  simp only [holderHandover, hnone]
  split
  · exact commitView_offerHandover .degraded s
  · rfl

/-! ### What follows the records -/

@[simp] theorem commitView_writeCapture (b : Brood) (s : State) : commitView (writeCapture b s) = commitView s :=
  commitView_foldl (fun _ _ => commitView_recordOwn ..) _ s

@[simp] theorem commitView_putBrood (b : Brood) (cells : Nat) (s : State) : commitView (putBrood b cells s) = commitView s := rfl

@[simp] theorem commitView_missSnap (l : Nat) (n : W32) (s : State) : commitView (missSnap l n s) = commitView s := rfl

@[simp] theorem commitView_continueSnap (b : Brood) (s : State) : commitView (continueSnap b s) = commitView s := by
  unfold continueSnap
  dsimp only
  rw [commitView_fireIf]
  exact commitView_writeCapture b s

@[simp] theorem commitView_beginSnap (x : Nat × SnapList) (kind : Nat) (b : Brood) (s : State) :
    commitView (beginSnap x kind b s) = commitView s := by
  have hcells (bs : List Brood) (u : State) :
      commitView (writeCapture b (bs.foldl (fun v y => writeCapture y v) u)) = commitView u := by
    rw [commitView_writeCapture, commitView_foldl (fun v y => commitView_writeCapture y v)]
  unfold beginSnap
  dsimp only
  split
  · rw [commitView_fire, hcells, commitView_recordOwn]
  · exact (hcells _ _).trans (commitView_recordOwn ..)

@[simp] theorem commitView_missCells (s : State) : commitView (missCells s) = commitView s :=
  commitView_foldl (fun _ _ => commitView_recordOwn ..) _ _

@[simp] theorem commitView_snapList1 (n : W32) (skipped fault : Bool) (s : State) (x : Nat × SnapList) :
    commitView (snapList1 n skipped fault s x) = commitView s := by
  unfold snapList1
  dsimp only
  split
  · rw [commitView_continueSnap]
    split <;> rfl
  · split
    · rw [commitView_beginSnap]; rfl
    · rfl

@[simp] theorem commitView_snapCommit (n : W32) (skipped fault : Bool) (s : State) :
    commitView (snapCommit n skipped fault s) = commitView s :=
  (commitView_foldl (commitView_snapList1 n skipped fault) _ _).trans (commitView_missCells s)

@[simp] theorem commitView_holdOut (s : State) (l : Lane) : commitView (holdOut s l) = commitView s := by
  unfold holdOut
  split
  · exact commitView_setLState l .heldOut s
  · rfl

@[simp] theorem commitView_enterRejoin (l : Lane) (s : State) : commitView (enterRejoin l s) = commitView s :=
  commitView_setLState l .rejoining _

@[simp] theorem commitView_tryRejoin (s : State) : commitView (tryRejoin s) = commitView s := by
  have hheld : commitView (lanes.foldl holdOut s) = commitView s := commitView_foldl commitView_holdOut lanes s
  unfold tryRejoin
  dsimp only
  split
  · exact hheld
  · split
    · rw [commitView_enterRejoin, hheld]
    · exact hheld

@[simp] theorem commitView_suspendWorkers (b : Bool) (s : State) : commitView (suspendWorkers b s) = commitView s := rfl

@[simp] theorem commitView_rankTime (s : State) : commitView (rankTime s) = commitView s := by
  unfold rankTime
  split <;> rfl

@[simp] theorem commitView_noteLoads (s : State) : commitView (noteLoads s) = commitView s := rfl

/-! ### The commit -/

theorem commitView_noteSkip (n : W32) (whole : Bool) (s : State) :
    commitView (noteSkip n whole s) =
      if whole then { commitView s with wpCycle := n, wpHeld := true } else commitView s := by
  cases whole with
  | false => rfl
  | true => exact commitView_fire 2 _

@[simp] theorem commitView_noteCommit (n : W32) (s : State) :
    commitView (noteCommit n s) =
      { commitView s with lastCommit := some n, commitCycle := n, voteCycle := n, phase := .idle } := rfl

/-! ### The stages of a commit -/

/-- Cycle n is the latest commit from here on (R36, R38). -/
def numbered (n : W32) (s : State) : State := { s with keep := { s.keep with lastCommit := some n } }

/-- The state the committed fault word leaves (R84). -/
def faulted (n : W32) (r : VoteRes) (s : State) : State := commitFault (committedFault r) (numbered n s)

/-- The image goes in, unless the cycle is skipped as a whole (R94, R118). -/
def placeImage (n : W32) (whole : Bool) (fw : W64) (img : Tab W64) (s : State) : State :=
  let s := skipCell whole (noteSkip n whole s)
  if whole then s else { s with cyc := { s.cyc with img := img, imgFault := fw, imgCycle := n } }

/-- The write phase begins, unless the cycle is skipped as a whole (R94, R118). -/
def startWriting (n : W32) (whole : Bool) (img : Tab W64) (before : Tri Bool) (s : State) : State :=
  if whole then s else openWrite n img before s

/-- A commit up to the records it sends. -/
def commitDone (n : W32) (r : VoteRes) (s : State) : State :=
  let u := faulted n r s
  let img := commitImage u r
  let judged := commitLanes n r (engineCheck n (noteDisagree n r (placeImage n (skippedWhole s r) (committedFault r) img u)))
  let written := startWriting n (skippedWhole s r) img ⟨takesPart s .a, takesPart s .b, takesPart s .c⟩ judged
  commitExchange n (goReason n s) (fire 10 (noteCommit n written))

/-- The records of a commit: a holder's, or what a standby does (R308 to R313). -/
def sendCommit (n : W32) (whole : Bool) (kind : CommitKind) (fw : W64) (s : State) : State :=
  let b := commitBody n kind fw s
  if crowned s then holderHandover n kind b.digest (holderRecords b s) else standbyCommit n whole b.digest s

/-- What follows the records (R145, R211, R371, R399). -/
def afterCommit (n : W32) (whole : Bool) (fw : W64) (s : State) : State :=
  noteLoads (rankTime (setPermits (snapCommit n whole (faultClass fw) (tryRejoin (suspendWorkers false s)))))

theorem commitWith_eq_stages (n : W32) (r : VoteRes) (s : State) :
    commitWith n r s =
      afterCommit n (skippedWhole s r) (committedFault r)
        (sendCommit n (skippedWhole s r) (commitKind (faulted n r s) r) (committedFault r) (commitDone n r s)) := rfl

@[simp] theorem commitView_numbered (n : W32) (s : State) :
    commitView (numbered n s) = { commitView s with lastCommit := some n } := rfl

theorem commitView_placeImage (n : W32) (whole : Bool) (fw : W64) (img : Tab W64) (s : State) :
    commitView (placeImage n whole fw img s) =
      if whole then { commitView s with wpCycle := n, wpHeld := true } else { commitView s with img := img } := by
  have hskip : commitView (skipCell whole (noteSkip n whole s)) =
      if whole then { commitView s with wpCycle := n, wpHeld := true } else commitView s := by
    rw [commitView_skipCell, commitView_noteSkip]
  cases whole with
  | false => exact congrArg (fun v => { v with img := img }) hskip
  | true => exact hskip

theorem commitView_startWriting (n : W32) (whole : Bool) (img : Tab W64) (before : Tri Bool) (s : State) :
    commitView (startWriting n whole img before s) =
      if whole then commitView s else { commitView s with wpImg := img, wpCycle := n, wpHeld := false } := by
  cases whole <;> rfl

@[simp] theorem commitView_afterCommit (n : W32) (whole : Bool) (fw : W64) (s : State) :
    commitView (afterCommit n whole fw s) = commitView s := by
  rw [afterCommit, commitView_noteLoads, commitView_rankTime, commitView_setPermits, commitView_snapCommit,
    commitView_tryRejoin, commitView_suspendWorkers]

/-- A holder with no handover under way may offer one with its records; nothing else of the view changes. -/
theorem commitView_sendCommit (n : W32) (whole : Bool) (kind : CommitKind) (fw : W64) {s : State}
    (hcrown : crowned s = true) (hho : (commitView s).ho = none) :
    ∃ ho, commitView (sendCommit n whole kind fw s) = { commitView s with ho := ho } := by
  have hrec : (commitView (holderRecords (commitBody n kind fw s) s)).ho = none := by rw [commitView_holderRecords, hho]
  unfold sendCommit
  dsimp only
  rw [if_pos hcrown, commitView_holderHandover n kind _ hrec, commitView_holderRecords]
  exact ⟨_, rfl⟩

/-- The view after a commit up to its records. -/
def committedView (n : W32) (r : VoteRes) (s : State) : CommitView :=
  let img := commitImage (faulted n r s) r
  { commitView s with
    lastCommit := some n, commitCycle := n, voteCycle := n, phase := .idle
    img := if skippedWhole s r then s.cyc.img else img
    wpImg := if skippedWhole s r then s.wp.img else img
    wpCycle := n, wpHeld := skippedWhole s r }

theorem commitView_commitDone (n : W32) (r : VoteRes) {s : State} (hho : (commitView s).ho = none) :
    commitView (commitDone n r s) = committedView n r s := by
  have hfault : commitView (faulted n r s) = { commitView s with lastCommit := some n } := by
    rw [faulted, commitView_commitFault, commitView_numbered]
  unfold commitDone
  dsimp only
  rw [commitView_commitExchange, commitView_fire, commitView_noteCommit, commitView_startWriting, commitView_commitLanes,
    commitView_engineCheck, commitView_noteDisagree, commitView_placeImage, hfault]
  · unfold committedView
    cases skippedWhole s r <;> rfl
  · rw [commitView_engineCheck, commitView_noteDisagree, commitView_placeImage, hfault]
    split <;> exact hho

/-- The view after the commit of cycle n by a module that holds the crown; it may have offered a handover. -/
theorem commitView_commitWith (n : W32) (r : VoteRes) {s : State} (hcrown : crowned s = true) (hho : s.crown.ho = none) :
    ∃ ho, commitView (commitWith n r s) = { committedView n r s with ho := ho } := by
  have hdone := commitView_commitDone n r (s := s) hho
  have hholds : crowned (commitDone n r s) = true := by
    rw [crowned_eq_commitView, hdone]; exact hcrown
  have hnone : (commitView (commitDone n r s)).ho = none := by rw [hdone]; exact hho
  rw [commitWith_eq_stages, commitView_afterCommit, ← hdone]
  exact commitView_sendCommit n _ _ _ hholds hnone

/-- A committed fault word that asks for no SAFE_STOP is told and nothing else (R84). -/
theorem commitFault_of_no_stop {fw : W64} (hfw : fw.getLsbD 63 = false) (s : State) :
    commitFault fw s = fireIf (faultClass fw) 1 (recordIf (fw != 0) 0 .appFault [fw.toNat] s) := by
  simp only [commitFault, hfw, Bool.false_eq_true, if_false]

/-- Without a SAFE_STOP and outside HALTED, a cycle that was not skipped commits the voted image. -/
theorem commitImage_faulted (n : W32) {r : VoteRes} {s : State} (hskip : r.skipped = false) (hmode : s.vote.mode ≠ .halted)
    (hsafe : s.cyc.safeStop = false) (hfw : r.faultWord.getLsbD 63 = false) :
    commitImage (faulted n r s) r = r.image := by
  have hstop : (committedFault r).getLsbD 63 = false := by
    rw [committedFault, hskip]
    exact hfw
  rw [faulted, commitFault_of_no_stop hstop]
  simp [commitImage, numbered, hmode, hsafe]

/-- A module that holds the crown makes no crown-loss restart (R159). -/
theorem settleHalt_of_crowned {s : State} (hcrown : crowned s = true) : settleHalt s = s := by
  simp [settleHalt, hcrown]

theorem exec_commit {t : Nat} {r : VoteRes} {s u : State} (hu : u = elapse t s) (hdue : commitDue u = true)
    (hres : u.cyc.res = some r) (hcrown : crowned u = true) (hho : u.crown.ho = none) :
    exec (.commit t) s = .next (commitWith u.cyc.n r u) := by
  subst hu
  obtain ⟨ho, hview⟩ := commitView_commitWith (elapse t s).cyc.n r hcrown hho
  have hholds : crowned (commitWith (elapse t s).cyc.n r (elapse t s)) = true := by
    rw [crowned_eq_commitView, hview]; exact hcrown
  simp only [exec, execCommit, commitCycle, hdue, hres, Bool.not_true, Bool.false_eq_true, if_false, settleHalt_of_crowned hholds]

/-! ### The retentive copy (R125, R386) -/

/-- A key that the filter keeps has its entry as before. -/
theorem kvGet_tabFilter_of_pos {α : Type} {p : Nat → Bool} {k : Nat} (t : Tab α) (hk : p k = true) :
    kvGet (tabFilter p t) k = kvGet t k := by
  induction t with
  | nil => rfl
  | cons e t ih =>
    obtain ⟨i, x⟩ := e
    simp only [tabFilter] at ih
    simp only [tabFilter, List.filter_cons]
    split
    · simp only [kvGet, ih]
    · next hi =>
      have hne : k ≠ i := fun h => hi (h ▸ hk)
      simp only [kvGet, if_neg hne, ih]

/-- A program's retentive noun words are taken as the stores have them. -/
theorem tabGet_retNouns {p : Program} {k : Nat} (st : Stores) (hlo : p.retStart ≤ k) (hhi : k < p.retStart + p.retLen) :
    tabGet 0 (retNouns p st) k = tabGet 0 st.noun k := by
  unfold tabGet retNouns
  rw [kvGet_tabFilter_of_pos st.noun (by simp [hlo, hhi])]

/-- A copy just made verifies: its check covers everything but the check itself. -/
theorem copyVerifies_copyOf (p : Program) (cycle : W32) (l : Lane) (slot : Bool) (st : Stores) :
    copyVerifies l slot (copyOf p cycle l slot st) = true := by
  simp [copyVerifies, copyOf, retCheck, retBytes]

@[simp] theorem RetSlots.at_put_self (x : RetSlots) (slot : Bool) (c : Option RetCopy) : (x.put slot c).at slot = c := by
  cases slot <;> rfl

@[simp] theorem RetSlots.at_put_not (x : RetSlots) (slot : Bool) (c : Option RetCopy) :
    (x.put slot c).at (!slot) = x.at (!slot) := by
  cases slot <;> rfl

/-- A copy put into a slot stands there, and the other slot keeps its own. -/
theorem RetSlots.put_slots (x : RetSlots) (slot : Bool) (c : RetCopy) :
    if slot then (x.put slot (some c)).slot1 = some c ∧ (x.put slot (some c)).slot0 = x.slot0
    else (x.put slot (some c)).slot0 = some c ∧ (x.put slot (some c)).slot1 = x.slot1 := by
  cases slot <;> exact ⟨rfl, rfl⟩

/-- A copy that is due is written under the program whose state it holds, as the copy of the image's cycle. -/
theorem exec_retentiveCopy {t : Nat} {l : Lane} {s u : State} (whole : Bool) (hu : u = elapse t s)
    (hdue : copyDue u l = true) :
    exec (.retentiveCopy t l whole) s = .next (writeCopy (copyProgram u l) u.cyc.imgCycle whole l u) := by
  subst hu
  simp only [exec, execRetentiveCopy, hdue, if_true]

/-- Settles O20: the commit by its view, the copies by the slots they leave. -/
theorem commitTakesTheVote : Obligations.CommitTakesTheVote := by
  unfold Obligations.CommitTakesTheVote
  refine ⟨fun t r s u hu hdue hres hcrown hho => ?commit, fun t l s u hu hdue => ⟨?copy, ?cutOff⟩⟩
  case commit =>
    obtain ⟨ho, hview⟩ := commitView_commitWith u.cyc.n r hcrown hho
    simp only [commitView, committedView, CommitView.mk.injEq] at hview
    obtain ⟨hlast, hcycle, hvote, hphase, himg, hwpImg, hwpCycle, hheld, hst, hstore, -, -⟩ := hview
    refine ⟨_, exec_commit hu hdue hres hcrown hho, hlast, hcycle, hvote, hphase, ?voted, ?whole, hst, hstore⟩
    case voted =>
      intro hskip hmode hsafe hfw
      have hpart : skippedWhole u r = false := by rw [skippedWhole, hskip, Bool.false_and]
      simp [himg, hwpImg, hwpCycle, hheld, hpart, commitImage_faulted _ hskip hmode hsafe hfw]
    case whole =>
      intro hwhole
      simp [himg, hwpImg, hheld, hwhole]
  case copy =>
    refine ⟨_, _, copyOf (copyProgram u l) u.cyc.imgCycle l ((u.lane.at l).retValid && !(u.lane.at l).retSlot) (u.st.at l),
      exec_retentiveCopy true hu hdue, rfl, fun hvalid => ?other, RetSlots.put_slots .., rfl, rfl,
      copyVerifies_copyOf .., fun k => tabGet_retNouns (u.st.at l)⟩
    case other => simp [laneOf, hvalid]
  case cutOff =>
    refine ⟨_, exec_retentiveCopy false hu hdue, fun c hc => ?stamp, RetSlots.at_put_not ..⟩
    rw [laneOf, RetSlots.at_put_self, Option.map_eq_some_iff] at hc
    obtain ⟨_, _, rfl⟩ := hc
    rfl

end Sys2Proof.Machine

/-! The commit deadline (R114, R117, R120): the lanes are decided one by one, and deciding one leaves the others as they are. -/
namespace Sys2Proof.Machine

/-! ### Lane faults keep to their lane -/

@[simp] theorem setLState_lane (l : Lane) (x : LState) (s : State) :
    (setLState l x s).lane = s.lane.upd l (fun r => { r with state := x }) := by
  simp [setLState]

theorem excludeLane_lane (l : Lane) (s : State) :
    (excludeLane l s).lane =
      (s.lane.upd l (fun r => { r with resetDue := true, ready := false, faultNow := false })).upd l
        (fun r => { r with state := .excluded }) := by
  simp [excludeLane]

theorem failRejoin_lane {s : State} {r : Rejoin} (hr : s.vote.rejoin = some r) :
    (failRejoin s).lane =
      (s.lane.upd r.lane (fun x => { x with resetDue := true, ready := false, faultNow := false })).upd r.lane
        (fun x => { x with state := .excluded }) := by
  simp [failRejoin, hr]

/-- A lane fault changes the registers of its own lane alone, and not its count of skips. -/
theorem laneFault_keeps (l : Lane) (k : Nat) (s : State) :
    (∀ m, m ≠ l → (laneFault l k s).lane.at m = s.lane.at m)
      ∧ ((laneFault l k s).lane.at l).skipTotal = (s.lane.at l).skipTotal := by
  unfold laneFault
  dsimp only
  split
  · simp +contextual [excludeLane_lane]
  · split
    · next r hr =>
      split
      · next hl => subst hl; simp +contextual [failRejoin_lane hr]
      · simp +contextual
    · simp +contextual

/-! ### One lane at the deadline -/

/-- What the deadline reads of a lane and what it decides of it. -/
structure DeadlineView where
  regs : LaneRegs
  eng : Engine
  n : W32
  restartCommit : Bool
  atEnd : Bool
  skipping : Bool

def deadlineView (l : Lane) (s : State) : DeadlineView where
  regs := s.lane.at l
  eng := s.eng.at l
  n := s.cyc.n
  restartCommit := s.cyc.restartCommit
  atEnd := s.cyc.atEnd.at l
  skipping := s.cyc.skipping.at l

/-- A lane takes part by its own registers and whether a restart waits for its commit. -/
theorem takesPart_eq_deadlineView (s : State) (l : Lane) :
    takesPart s l = ((deadlineView l s).regs.state == .voting
      || ((deadlineView l s).restartCommit && (deadlineView l s).regs.state == .starting && (deadlineView l s).regs.ready)) := rfl

theorem deadlineView_skipLane_of_ne {l m : Lane} (h : m ≠ l) (s : State) :
    deadlineView m (skipLane l s) = deadlineView m s := by
  unfold skipLane
  dsimp only
  split
  · simp [deadlineView, h, (laneFault_keeps l _ _).1 m h]
  · simp [deadlineView, h]

/-- A lane that skips is noted, and its total counts the skip (R114, R120). -/
theorem skipLane_counts (l : Lane) (s : State) :
    (skipLane l s).cyc.skipping.at l = true
      ∧ ((skipLane l s).lane.at l).skipTotal = satAdd (s.lane.at l).skipTotal 1 0xFFFF := by
  unfold skipLane
  dsimp only
  split
  · simp [(laneFault_keeps l _ _).2]
  · simp

theorem deadlineLane_of_running {s : State} {l : Lane} (hpart : takesPart s l = true) (hrun : (s.eng.at l).run = .running) :
    deadlineLane s l = skipLane l s := by
  simp [deadlineLane, hpart, hrun]

theorem deadlineLane_of_ended {s : State} {l : Lane} (hpart : takesPart s l = true) (hend : (s.eng.at l).run = .ended)
    (hcycle : (s.eng.at l).cycle = s.cyc.n) :
    deadlineLane s l = updLane l (fun r => { r with skipConsec := 0 })
      { s with cyc := { s.cyc with atEnd := s.cyc.atEnd.put l true } } := by
  simp [deadlineLane, hpart, hend, hcycle]

/-- Deciding a lane leaves what the deadline reads and decides of another. -/
theorem deadlineView_deadlineLane_of_ne {l m : Lane} (h : m ≠ l) (s : State) :
    deadlineView m (deadlineLane s l) = deadlineView m s := by
  unfold deadlineLane
  dsimp only
  split
  · rfl
  · split
    · exact deadlineView_skipLane_of_ne h s
    · split
      · simp [deadlineView, h]
      · rfl

/-- The blocks that no decision touches. -/
theorem deadlineLane_frame (s : State) (l : Lane) :
    (deadlineLane s l).eng = s.eng ∧ (deadlineLane s l).st = s.st ∧ (deadlineLane s l).keep = s.keep
      ∧ (deadlineLane s l).ring = s.ring ∧ (deadlineLane s l).clk = s.clk := by
  have hskip : (skipLane l s).eng = s.eng ∧ (skipLane l s).st = s.st ∧ (skipLane l s).keep = s.keep
      ∧ (skipLane l s).ring = s.ring ∧ (skipLane l s).clk = s.clk := by
    unfold skipLane
    dsimp only
    split <;> simp
  unfold deadlineLane
  dsimp only
  split
  · simp
  · split
    · exact hskip
    · split <;> simp

/-! ### All three lanes -/

/-- The lanes decided in the order A, B, C. -/
def decideLanes (s : State) : State := lanes.foldl deadlineLane s

/-- What the deadline decides of a lane is what that lane's decision gives where it stands as at the start. -/
theorem deadlineView_decideLanes (l : Lane) (s : State) :
    ∃ v, deadlineView l v = deadlineView l s
      ∧ deadlineView l (decideLanes s) = deadlineView l (deadlineLane v l) := by
  cases l with
  | a => exact ⟨s, rfl, by simp [decideLanes, lanes, deadlineView_deadlineLane_of_ne]⟩
  | b =>
    exact ⟨deadlineLane s .a, by simp [deadlineView_deadlineLane_of_ne],
      by simp [decideLanes, lanes, deadlineView_deadlineLane_of_ne]⟩
  | c => exact ⟨deadlineLane (deadlineLane s .a) .b, by simp [deadlineView_deadlineLane_of_ne], rfl⟩

/-- A lane whose phase of this cycle has ended takes part in the vote, and its run of skips ends (R117). -/
theorem decideLanes_of_ended {s : State} {l : Lane} (hpart : takesPart s l = true) (hend : (s.eng.at l).run = .ended)
    (hcycle : (s.eng.at l).cycle = s.cyc.n) :
    (decideLanes s).cyc.atEnd.at l = true ∧ ((decideLanes s).lane.at l).skipConsec = 0 := by
  obtain ⟨v, hsame, hdecided⟩ := deadlineView_decideLanes l s
  have hpartV : takesPart v l = true := by rw [takesPart_eq_deadlineView, hsame]; exact hpart
  have heng : v.eng.at l = s.eng.at l := congrArg DeadlineView.eng hsame
  have hn : v.cyc.n = s.cyc.n := congrArg DeadlineView.n hsame
  rw [← heng] at hend hcycle
  rw [deadlineLane_of_ended hpartV hend (hcycle.trans hn.symm)] at hdecided
  exact ⟨(congrArg DeadlineView.atEnd hdecided).trans (by simp [deadlineView]),
    (congrArg (fun x => x.regs.skipConsec) hdecided).trans (by simp [deadlineView])⟩

/-- A lane that still runs skips the cycle (R114). -/
theorem decideLanes_of_running {s : State} {l : Lane} (hpart : takesPart s l = true)
    (hrun : (s.eng.at l).run = .running) :
    (decideLanes s).cyc.skipping.at l = true
      ∧ ((decideLanes s).lane.at l).skipTotal = satAdd (s.lane.at l).skipTotal 1 0xFFFF := by
  obtain ⟨v, hsame, hdecided⟩ := deadlineView_decideLanes l s
  have hpartV : takesPart v l = true := by rw [takesPart_eq_deadlineView, hsame]; exact hpart
  have heng : v.eng.at l = s.eng.at l := congrArg DeadlineView.eng hsame
  have hregs : v.lane.at l = s.lane.at l := congrArg DeadlineView.regs hsame
  rw [← heng] at hrun
  rw [deadlineLane_of_running hpartV hrun] at hdecided
  obtain ⟨hskipping, htotal⟩ := skipLane_counts l v
  rw [hregs] at htotal
  exact ⟨(congrArg DeadlineView.skipping hdecided).trans hskipping,
    (congrArg (fun x => x.regs.skipTotal) hdecided).trans htotal⟩

theorem decideLanes_frame (s : State) :
    (decideLanes s).eng = s.eng ∧ (decideLanes s).st = s.st ∧ (decideLanes s).keep = s.keep
      ∧ (decideLanes s).ring = s.ring ∧ (decideLanes s).clk = s.clk := by
  simp [decideLanes, lanes, deadlineLane_frame]

/-! ### The vote starts -/

/-- The vote starts, and the scan engines serve nothing else (R102, R135). -/
def startVote (s : State) : State := suspendWorkers true { s with cyc := { s.cyc with phase := .voting } }

@[simp] theorem startVote_phase (s : State) : (startVote s).cyc.phase = .voting := rfl
@[simp] theorem startVote_atEnd (s : State) : (startVote s).cyc.atEnd = s.cyc.atEnd := rfl
@[simp] theorem startVote_skipping (s : State) : (startVote s).cyc.skipping = s.cyc.skipping := rfl
@[simp] theorem startVote_lane (s : State) : (startVote s).lane = s.lane := rfl
@[simp] theorem startVote_eng (s : State) : (startVote s).eng = s.eng := rfl
@[simp] theorem startVote_st (s : State) : (startVote s).st = s.st := rfl
@[simp] theorem startVote_keep (s : State) : (startVote s).keep = s.keep := rfl
@[simp] theorem startVote_ring (s : State) : (startVote s).ring = s.ring := rfl
@[simp] theorem startVote_clk (s : State) : (startVote s).clk = s.clk := rfl
@[simp] theorem startVote_susp (s : State) (l : Lane) : ((startVote s).port.at l).susp = true := by
  simp [startVote, suspendWorkers]

/-- At D(n) of a running cycle the lanes are decided and the vote starts (R114, R135). -/
theorem exec_commitDeadline {t : Nat} {s u : State} (hu : u = elapse t s) (hphase : u.cyc.phase = .logic)
    (hdue : u.cyc.b + tProg u ≤ ringNow u + 32000) :
    exec (.commitDeadline t) s = .next (startVote (decideLanes u)) := by
  subst hu
  simp only [exec, execCommitDeadline, commitDeadline, startVote, decideLanes, hphase, hdue, beq_self_eq_true, decide_true,
    Bool.and_self, if_true]

/-- Settles O18: each lane by its own decision, the rest by what no decision touches. -/
theorem commitDeadlineDecidesSkips : Obligations.CommitDeadlineDecidesSkips := by
  unfold Obligations.CommitDeadlineDecidesSkips
  intro t s u hu hphase hdue
  refine ⟨startVote (decideLanes u), exec_commitDeadline hu hphase hdue, startVote_phase _,
    fun l hpart hend hcycle => ?ended, fun l hpart hrun => ?skips, startVote_susp _, ?frame⟩
  case ended =>
    rw [startVote_atEnd, startVote_lane]
    exact decideLanes_of_ended hpart hend hcycle
  case skips =>
    rw [startVote_skipping, startVote_lane]
    exact decideLanes_of_running hpart hrun
  case frame =>
    rw [startVote_eng, startVote_st, startVote_keep, startVote_ring, startVote_clk]
    exact decideLanes_frame u

end Sys2Proof.Machine

/-! The partner's EVENT records (R382) at a comb that has failed. -/
namespace Sys2Proof.Machine

/-- With no fault injected at a point, none that acts once is spent there. -/
theorem spendOnce_of_not_injected {point : Nat} {s : State} (h : injected point s = none) : spendOnce point s = s := by
  have hnone : s.test.once.filter (fun i => i.point == point) = none := by
    unfold injected at h
    cases hpersisting : s.test.inj.filter (fun i => i.point == point) with
    | none => rwa [hpersisting, Option.orElse_none] at h
    | some i => rw [hpersisting, Option.orElse_some] at h; nomatch h
  simp only [spendOnce, hnone, Option.isSome_none, Bool.false_eq_true, if_false]

/-- A sound record is taken, and its sender's rank is kept (R295). -/
theorem takeRcv_of_sound {x : Rcv} {s : State} (h : Sound x s) (f : State → State) : takeRcv x f s = f (heard x.rank s) := by
  obtain ⟨hsound, hinj⟩ := h
  simp [takeRcv, spendOnce_of_not_injected hinj, hsound, hinj, heard]

theorem exec_eventRecord_of_sound {t : Nat} {x : Rcv} {s u : State} (payload : List Byte) (hu : u = elapse t s)
    (h : Sound x u) :
    exec (.eventRecord t x payload) s = .next (enqueue (heard x.rank u) 0 0x10
      (.bytes (Config.cellType .partnerEvent).toNat (leBytes 4 x.rank.toNat ++ payload))) := by
  subst hu
  simp only [exec, execEventRecord, takeRcv_of_sound h]

/-- A comb 0 cell of a comb that has failed is queued for the last-words store (R382). -/
theorem enqueue_queue_of_failed {s : State} (hfail : s.comb.failed = true) (hlw : s.comb.lwFull = false)
    (hmode : s.comb.lw.mode ≠ .full) (hroom : s.comb.queue.length < 1024) (source : Nat) (p : Payload) :
    (enqueue s 0 source p).comb.queue = s.comb.queue ++ [(4, newCell s source p)] := by
  simp [enqueue, Comb.arr, hfail, hlw, hmode, Nat.not_le.mpr hroom]

/-- A module after a reset that its failed comb has survived (R381): the comb is scanned again, and FAILED is kept. -/
def failedBefore : State := { State.reset with comb := combReset { state := .failed, failed := true } }

/-- Refutes O40 by its fourth clause, which bars STATE = FAILED but not the kept FAILED. At `failedBefore` STATE is SCANNING
(R360) while FAILED is kept over the reset (R381), and the cell of the partner's event is queued for the last-words store
(R382), not for comb 0. -/
theorem not_followingRecordsAreTaken : ¬ Obligations.FollowingRecordsAreTaken := by
  unfold Obligations.FollowingRecordsAreTaken
  rintro ⟨-, -, -, hevent, -⟩
  have hnow : failedBefore = elapse 0 failedBefore := rfl
  have hsound : Sound ⟨9, true⟩ failedBefore := ⟨rfl, rfl⟩
  obtain ⟨k, c, hexec, hqueue, -⟩ :=
    hevent 0 ⟨9, true⟩ [] failedBefore failedBefore hnow hsound (by decide) (by decide) (by decide)
  rw [exec_eventRecord_of_sound [] hnow hsound] at hexec
  have hcomb := congrArg (fun s : State => s.comb.queue) (Host.Outcome.next.inj hexec)
  dsimp only at hcomb
  rw [enqueue_queue_of_failed rfl rfl (by decide) (by decide), hqueue] at hcomb
  simp [heard, failedBefore, combReset] at hcomb

end Sys2Proof.Machine

/-! A claim's end (R232, R233, R311): what winning and abandoning a ring leave, and how the candidate settles. -/
namespace Sys2Proof.Machine

/-! ### The crown unit's states -/

theorem setCrown_crown (x : CrownState) (s : State) : (setCrown x s).crown = { s.crown with state := x } := by
  unfold setCrown
  dsimp only
  split
  · next h => rw [← h]
  · simp

/-! ### Starting the program and the door guard -/

theorem restartLane_keeps (warm : Option W32) (l : Lane) (s : State) :
    (restartLane warm l s).ring = s.ring ∧ (restartLane warm l s).crown = s.crown := by
  unfold restartLane
  dsimp only
  split
  · exact ⟨rfl, rfl⟩
  · split
    · exact ⟨rfl, rfl⟩
    · simp

theorem startProgram_keeps (firstAt : Nat) (s : State) :
    (startProgram firstAt s).ring = s.ring ∧ (startProgram firstAt s).crown = s.crown := by
  have hlanes (warm : Option W32) (ls : List Lane) :
      (ls.foldl (fun v l => restartLane warm l v) s).ring = s.ring
        ∧ (ls.foldl (fun v l => restartLane warm l v) s).crown = s.crown :=
    List.foldlRecOn (motive := fun v => v.ring = s.ring ∧ v.crown = s.crown) ls _ ⟨rfl, rfl⟩
      (fun v hv l _ => ⟨(restartLane_keeps warm l v).1.trans hv.1, (restartLane_keeps warm l v).2.trans hv.2⟩)
  simp [startProgram, hlanes]

theorem startProgram_on (firstAt : Nat) (s : State) : (startProgram firstAt s).cyc.on = true := by simp [startProgram]

@[simp] theorem doorStart_ring (s : State) : (doorStart s).ring = s.ring := rfl
@[simp] theorem doorStart_crown (s : State) : (doorStart s).crown = s.crown := rfl

/-! ### Entering CROWNED (R311) -/

theorem enterCrowned_ring (s : State) : (enterCrowned s).ring = s.ring := by
  unfold enterCrowned
  dsimp only
  split <;> simp [startProgram_keeps]

/-- The lease runs from now, and the take is counted. -/
theorem enterCrowned_crown (s : State) : (enterCrowned s).crown = { s.crown with
    state := .crowned, tAck := ringNow s, lease := leaseNs s, closed := false, solo := false
    takes := satAdd s.crown.takes 1 0xFFF, heldFrom := s.clk.lifeUs, claimAt := none, ho := none, view := none
    partnerLocked := false, changeCycle := s.keep.lastCommit.getD 0 + 1 } := by
  unfold enterCrowned
  dsimp only
  split <;> simp [startProgram_keeps, setCrown_crown]

theorem enterCrowned_on (s : State) : (enterCrowned s).cyc.on = true := by
  unfold enterCrowned
  dsimp only
  split
  · exact startProgram_on ..
  · rfl

theorem enterOut_crown_state (s : State) : (enterOut s).crown.state = .out := by
  simp [enterOut, setCrown_crown]

/-! ### The candidate settles (R311) -/

/-- The ports a candidate looks over are those in use. -/
theorem mem_ringsInUse {s : State} {q : Ring} : q ∈ rings.filter (inUse s) ↔ inUse s q = true := by
  have hrings : ∀ q : Ring, q ∈ rings := by decide
  simp [hrings q]

/-- A candidate that has won a ring and withdrawn on none enters CROWNED. -/
theorem settleCandidate_of_won {s : State} {r : Ring} (hcand : s.crown.state = .candidate) (huse : inUse s r = true)
    (hwon : (s.ring.at r).claim.state = .won)
    (hstand : ∀ q, inUse s q = true → (s.ring.at q).claim.state ≠ .withdrawn ∧ (s.ring.at q).claim.state ≠ .clone) :
    settleCandidate s = enterCrowned s := by
  have hany : (rings.filter (inUse s)).any (fun q => (s.ring.at q).claim.state == .won) = true :=
    List.any_eq_true.mpr ⟨r, mem_ringsInUse.mpr huse, by simp [hwon]⟩
  have hall : (rings.filter (inUse s)).all
      (fun q => (s.ring.at q).claim.state != .withdrawn && (s.ring.at q).claim.state != .clone) = true :=
    List.all_eq_true.mpr (fun q hq => by simp [hstand q (mem_ringsInUse.mp hq)])
  simp only [settleCandidate, hcand, hany, hall, ne_eq, not_true_eq_false, if_false, Bool.and_self, if_true]

/-- A candidate that has won no ring goes OUT once it has abandoned every ring in use. -/
theorem settleCandidate_of_none_won {s : State} {r : Ring} (hcand : s.crown.state = .candidate) (huse : inUse s r = true)
    (hnone : ∀ q, inUse s q = true → (s.ring.at q).claim.state ≠ .won) :
    settleCandidate s =
      if ∀ q, inUse s q = true → (s.ring.at q).claim.state = .abandoned then enterOut s else s := by
  have hany : (rings.filter (inUse s)).any (fun q => (s.ring.at q).claim.state == .won) = false :=
    List.any_eq_false.mpr (fun q hq => by simp [hnone q (mem_ringsInUse.mp hq)])
  have hsome : (rings.filter (inUse s)).isEmpty = false := by
    simpa using List.ne_nil_of_mem (mem_ringsInUse.mpr huse)
  have hall : (rings.filter (inUse s)).all (fun q => (s.ring.at q).claim.state == .abandoned) = true
      ↔ ∀ q, inUse s q = true → (s.ring.at q).claim.state = .abandoned := by
    simp only [List.all_eq_true, mem_ringsInUse, beq_iff_eq]
  simp only [settleCandidate, hcand, hany, hsome, hall, ne_eq, not_true_eq_false, if_false, Bool.false_and,
    Bool.false_eq_true, Bool.not_false, Bool.true_and]

/-! ### Winning a ring (R202, R232) -/

theorem endClaim_ring (r : Ring) (x : ClaimState) (s : State) :
    (endClaim r x s).ring = s.ring.upd r (fun p => { p with claim := { p.claim with state := x } }) := by
  simp [endClaim]

/-- What of a port tells whether its ring is in use. -/
theorem inUse_congr {s v : State} {q : Ring} (htable : (v.ring.at q).table = (s.ring.at q).table)
    (hreleased : (v.ring.at q).released = (s.ring.at q).released) : inUse v q = inUse s q := by
  simp only [inUse, htable, hreleased]

/-- A ring is won and transmits on both pairs, before the candidate settles. -/
def wonRing (r : Ring) (s : State) : State :=
  enterDual r (updRing r (fun p => { p with toWin := false, sent := none }) (endClaim r .won s))

theorem winRing_eq_settle (r : Ring) (s : State) : winRing r s = settleCandidate (wonRing r s) := rfl

theorem wonRing_ring (r : Ring) (s : State) :
    ((wonRing r s).ring.at r).claim.state = .won ∧ ((wonRing r s).ring.at r).dual = true
      ∧ ((wonRing r s).ring.at r).toWin = false ∧ ∀ q, q ≠ r → (wonRing r s).ring.at q = s.ring.at q := by
  simp +contextual [wonRing, enterDual, noteWrap, endClaim_ring]

theorem inUse_wonRing (r q : Ring) (s : State) : inUse (wonRing r s) q = inUse s q := by
  apply inUse_congr <;> by_cases hq : q = r <;> simp [wonRing, enterDual, noteWrap, endClaim_ring, hq]

theorem wonRing_frame (r : Ring) (s : State) :
    (wonRing r s).crown = s.crown ∧ (wonRing r s).clk = s.clk ∧ (wonRing r s).glb = s.glb ∧ (wonRing r s).set = s.set := by
  simp [wonRing, enterDual, noteWrap]

/-- The candidate that wins a ring, having withdrawn on none, enters CROWNED. -/
theorem winRing_of_candidate {r : Ring} {s : State} (hcand : s.crown.state = .candidate) (huse : inUse s r = true)
    (hstand : ∀ q, inUse s q = true → (s.ring.at q).claim.state ≠ .withdrawn ∧ (s.ring.at q).claim.state ≠ .clone) :
    winRing r s = enterCrowned (wonRing r s) := by
  obtain ⟨hwon, -, -, hother⟩ := wonRing_ring r s
  rw [winRing_eq_settle]
  refine settleCandidate_of_won (r := r) (by rw [(wonRing_frame r s).1, hcand]) (by rw [inUse_wonRing, huse]) hwon
    (fun q hq => ?_)
  by_cases hqr : q = r
  · rw [hqr, hwon]; decide
  · rw [hother q hqr]; exact hstand q (by rwa [inUse_wonRing] at hq)

theorem exec_claimSilenceWin {t : Nat} {r : Ring} {s u : State} (hu : u = elapse t s)
    (hclaim : (u.ring.at r).claim.state = .claiming) (hsilent : silenceWon u r = true) :
    exec (.claimSilenceWin t r) s = .next (winRing r u) := by
  subst hu
  simp only [exec, execClaimSilenceWin, hclaim, hsilent, and_self, if_true]

/-! ### Abandoning a ring (R233) -/

/-- A ring is abandoned, before the candidate settles. -/
def abandonedRing (r : Ring) (s : State) : State := endClaim r .abandoned (record 0 .claimTimeout [r.val] s)

theorem abandonRing_eq_settle (r : Ring) (s : State) : abandonRing r s = settleCandidate (abandonedRing r s) := rfl

theorem abandonedRing_ring (r : Ring) (s : State) :
    ((abandonedRing r s).ring.at r).claim.state = .abandoned ∧ ∀ q, q ≠ r → (abandonedRing r s).ring.at q = s.ring.at q := by
  simp +contextual [abandonedRing, endClaim_ring]

theorem inUse_abandonedRing (r q : Ring) (s : State) : inUse (abandonedRing r s) q = inUse s q := by
  apply inUse_congr <;> by_cases hq : q = r <;> simp [abandonedRing, endClaim_ring, hq]

theorem abandonedRing_frame (r : Ring) (s : State) :
    (abandonedRing r s).crown = s.crown ∧ (abandonedRing r s).eng = s.eng ∧ (abandonedRing r s).st = s.st
      ∧ (abandonedRing r s).lane = s.lane ∧ (abandonedRing r s).cyc = s.cyc := by
  simp [abandonedRing]

/-- Every ring in use is abandoned once this one is exactly when every other one was. -/
theorem abandonedRing_all (r : Ring) (s : State) :
    (∀ q, inUse (abandonedRing r s) q = true → ((abandonedRing r s).ring.at q).claim.state = .abandoned)
      ↔ ∀ q, inUse s q = true → q ≠ r → (s.ring.at q).claim.state = .abandoned := by
  obtain ⟨habandoned, hother⟩ := abandonedRing_ring r s
  refine forall_congr' fun q => ?_
  rw [inUse_abandonedRing]
  by_cases hq : q = r
  · simp [hq, habandoned]
  · simp [hq, hother q hq]

/-- The candidate that abandons a ring and has won none goes OUT when it has abandoned every other ring in use. -/
theorem abandonRing_of_none_won {r : Ring} {s : State} (hcand : s.crown.state = .candidate) (huse : inUse s r = true)
    (hnone : ∀ q, inUse s q = true → (s.ring.at q).claim.state ≠ .won) :
    abandonRing r s =
      if ∀ q, inUse s q = true → q ≠ r → (s.ring.at q).claim.state = .abandoned then enterOut (abandonedRing r s)
      else abandonedRing r s := by
  obtain ⟨habandoned, hother⟩ := abandonedRing_ring r s
  have hnoneLeft : ∀ q, inUse (abandonedRing r s) q = true → ((abandonedRing r s).ring.at q).claim.state ≠ .won := by
    intro q hq
    by_cases hqr : q = r
    · rw [hqr, habandoned]; decide
    · rw [hother q hqr]; exact hnone q (by rwa [inUse_abandonedRing] at hq)
  rw [abandonRing_eq_settle, settleCandidate_of_none_won (r := r) (by rw [(abandonedRing_frame r s).1, hcand])
    (by rw [inUse_abandonedRing, huse]) hnoneLeft]
  simp only [abandonedRing_all]

theorem exec_claimAbandon {t t0 : Nat} {r : Ring} {s u : State} (hu : u = elapse t s)
    (hclaim : (u.ring.at r).claim.state = .claiming) (hfirst : (u.ring.at r).claim.first = some t0)
    (hlate : t0 + 64 * tRing u ≤ u.clk.now) : exec (.claimAbandon t r) s = .next (abandonRing r u) := by
  subst hu
  simp only [exec, execClaimAbandon, hclaim, hfirst, hlate, if_true]

/-- Settles O32: both ends of a claim by the state in which the candidate settles. -/
theorem claimsAreWonOrAbandoned : Obligations.ClaimsAreWonOrAbandoned := by
  unfold Obligations.ClaimsAreWonOrAbandoned
  refine ⟨fun t r s u hu hcand huse hclaim hsilent hstand => ?won,
    fun t t0 r s u hu hcand huse hclaim hfirst hlate hnone => ?abandoned⟩
  case won =>
    obtain ⟨hwon, hdual, htoWin, -⟩ := wonRing_ring r u
    obtain ⟨hcrown, hclk, hglb, hset⟩ := wonRing_frame r u
    have hring : (enterCrowned (wonRing r u)).ring = (wonRing r u).ring := enterCrowned_ring _
    refine ⟨enterCrowned (wonRing r u), ?_, by rw [hring, hwon], by rw [hring, hdual], by rw [hring, htoWin], ?_⟩
    · rw [exec_claimSilenceWin hu hclaim hsilent, winRing_of_candidate hcand huse hstand]
    · simp [enterCrowned_crown, enterCrowned_on, ringNow, ringTime, leaseNs, hcrown, hclk, hglb, hset]
  case abandoned =>
    refine ⟨abandonRing r u, exec_claimAbandon hu hclaim hfirst hlate, ?_⟩
    rw [abandonRing_of_none_won hcand huse hnone]
    have hring := (abandonedRing_ring r u).1
    obtain ⟨hcrown, hframe⟩ := abandonedRing_frame r u
    split
    · simpa [enterOut_crown_state] using ⟨hring, hframe⟩
    · exact ⟨hring, by rw [hcrown, hcand], hframe⟩

end Sys2Proof.Machine

/-! Time between the modules (R214, R236, R312): what a TIME exchange and a read of TB_TIME_LO do. -/
namespace Sys2Proof.Machine

/-! ### The TIME exchange (R214) -/

/-- An offset beyond 500 ns ends the time lock. -/
theorem lockTime_of_far {off : Int} (b : Tb) (hfar : 500 < off.natAbs) : (lockTime off b).locked = false := by
  simp [lockTime, hfar]

/-- An offset within 200 ns counts, up to 8. -/
theorem lockTime_lockRun_of_near {off : Int} (b : Tb) (hnear : off.natAbs ≤ 200) :
    (lockTime off b).lockRun = min 8 (b.lockRun + 1) := by
  simp [lockTime, hnear]

/-- The eighth offset in a row within 200 ns gains the time lock. -/
theorem lockTime_of_eighth {off : Int} {b : Tb} (hnear : off.natAbs ≤ 200) (hrun : 7 ≤ b.lockRun) :
    (lockTime off b).locked = true := by
  have hfar : ¬ 500 < off.natAbs := by omega
  have hfull : 8 ≤ min 8 (b.lockRun + 1) := by omega
  simp only [lockTime, hnear, hfar, hfull, if_true, if_false, decide_true, Bool.or_true]

/-- The clocks once the time-master lane slews by an offset against the holder (R214). -/
def slewedClocks (off : Int) (s : State) : Clocks :=
  { s.clk with ring := s.clk.ring.upd (s.tb.tm.getD .a) (fun c => { c with slewPpb := clampI 200000 (Config.slewPpb 3 off) }) }

/-- A slew steps no lane's ring time. -/
theorem slewedClocks_ns (off : Int) (s : State) (l : Lane) :
    ((slewedClocks off s).ring.at l).ns = (s.clk.ring.at l).ns := by
  rw [slewedClocks, Tri.at_upd]
  split
  · next hl => rw [hl]
  · rfl

/-- A module with ring time of its own slews (R214). -/
theorem followTime_of_established (off : Int) {s : State} (hest : s.tb.established = true) :
    followTime off s = { s with clk := slewedClocks off s } := by
  simp only [followTime, hest, if_true, slewedClocks]

/-- Following an offset writes the time base, the clocks and the vital inputs' scale alone; ring time then stands
established. -/
theorem followTime_eq (off : Int) (s : State) :
    ∃ (c : Clocks) (i : Vin), followTime off s = { s with tb := { s.tb with established := true }, clk := c, vin := i }
      ∧ i = { s.vin with scaleFrom := i.scaleFrom, doneAt := i.doneAt }
      ∧ (s.tb.established = true → ∀ l, (c.ring.at l).ns = (s.clk.ring.at l).ns)
      ∧ c.now = s.clk.now ∧ c.lifeUs = s.clk.lifeUs ∧ c.calNs = s.clk.calNs := by
  by_cases hest : s.tb.established = true
  · have htb : { s.tb with established := true } = s.tb := by rw [← hest]
    exact ⟨slewedClocks off s, s.vin, by rw [followTime_of_established off hest, htb], rfl,
      fun _ => slewedClocks_ns off s, rfl, rfl, rfl⟩
  · exact ⟨_, _, if_neg hest, rfl, fun h => absurd h hest, rfl, rfl, rfl⟩

/-- The standby's state as a TIME exchange finds it: when the record came is noted, and the time lock follows the offset. -/
def timed (off : Int) (s : State) : State :=
  { s with tb := lockTime off { s.tb with lastTime := s.clk.now } }

theorem exec_timeRecord {t t1 t2 t3 t4 : Nat} {x : Rcv} {s u : State} (hu : u = elapse t s) (hsound : Sound x u)
    (hcrown : crowned u = false) (hoff : u.crown.state ≠ .off) (hcand : u.crown.state ≠ .candidate)
    (hholder : u.crown.partner = 8 ∨ u.crown.renewed = true) :
    exec (.timeRecord t x t1 t2 t3 t4) s
      = .next (followTime (timeOffset t1 t2 t3 t4) (timed (timeOffset t1 t2 t3 t4) (heard x.rank u))) := by
  subst hu
  have hfollows : ¬ (crowned (elapse t s) = true ∨ (elapse t s).crown.state = .off ∨ (elapse t s).crown.state = .candidate
      ∨ ((elapse t s).crown.partner ≠ 8 ∧ (elapse t s).crown.renewed = false)) := by
    rintro (h | h | h | ⟨hpartner, hrenewed⟩)
    · exact absurd (h.symm.trans hcrown) (by decide)
    · exact hoff h
    · exact hcand h
    · exact hholder.elim hpartner (fun h => absurd (h.symm.trans hrenewed) (by decide))
  simp only [exec, execTimeRecord, takeRcv_of_sound hsound]
  exact congrArg Host.Outcome.next (if_neg hfollows)

theorem exec_timeRecordTimeout {t : Nat} {s u : State} (hu : u = elapse t s) (hlate : u.tb.lastTime + 1000000 ≤ u.clk.now) :
    exec (.timeRecordTimeout t) s = .next { u with
      tb := { u.tb with locked := false, lockRun := 0 }, crown := { u.crown with partnerLocked := false } } := by
  subst hu
  simp only [exec, execTimeRecordTimeout, hlate, if_true]

/-! ### A served read (R401, R402) -/

theorem hostRead_of_served {addr : Nat} {s : State} (h : HostId) (f : State → State × W32) (hserved : Served addr s) :
    hostRead h addr f s = answerRead h addr (f s).2 (f s).1 := by
  obtain ⟨hopen, hgate⟩ := hserved
  simp only [hostRead, hopen, hgate, Bool.not_true, Bool.false_eq_true, if_false]

/-- An answered read drives the word and changes nothing but the host port. -/
theorem answerRead_answers (h : HostId) (addr : Nat) (w : W32) (s : State) :
    ∃ p, answerRead h addr w s = { s with hp := p } ∧ Answers h 0 (leBytes 4 w.toNat) p :=
  ⟨_, rfl, _, rfl, rfl, rfl, rfl⟩

/-- Settles O35: the exchange by what the time lock and the following of the offset do, the read by the latch it leaves. -/
theorem timeRecordsAndReads : Obligations.TimeRecordsAndReads := by
  unfold Obligations.TimeRecordsAndReads
  refine ⟨fun t t1 t2 t3 t4 x s u hu hsound hcrown hoff hcand hholder => ?record, fun t s u hu hlate =>
    exec_timeRecordTimeout hu hlate, fun t h s u hu hserved => ?read⟩
  case record =>
    obtain ⟨c, i, hstate, hscale, hsteady, hclocks⟩ :=
      followTime_eq (timeOffset t1 t2 t3 t4) (timed (timeOffset t1 t2 t3 t4) (heard x.rank u))
    refine ⟨_, c, i, (exec_timeRecord hu hsound hcrown hoff hcand hholder).trans (congrArg _ hstate), hscale, rfl, rfl, rfl,
      lockTime_of_far _, fun hnear => ⟨lockTime_lockRun_of_near _ hnear, lockTime_of_eighth hnear⟩, hsteady, hclocks⟩
  case read =>
    obtain ⟨p, hstate, hanswers⟩ := answerRead_answers h 0x0C0000 (tbTimeLo u).2 (tbTimeLo u).1
    refine ⟨p, ?_, by simpa [tbTimeLo] using hanswers⟩
    subst hu
    simp only [exec, execTbTimeLoRead, hostRead_of_served h _ hserved, hstate]
    rfl

end Sys2Proof.Machine

/-! The door guard's units (R265, R279 to R292): what a change of a unit's state leaves, and the rule of each command that
makes one. -/
namespace Sys2Proof.Machine

/-! ### Both channels of a unit -/

/-- Each channel reads its new state of the unit, and every other unit as before. -/
theorem chanOf_putBoth (n m j : Nat) (x y : DoorChan) (d : Door) :
    chanOf (putChan 1 n y (putChan 0 n x d)) j m = if m = n then (if j = 0 then x else y) else chanOf d j m := by
  by_cases hj : j = 0 <;> by_cases hm : m = n <;> simp [chanOf, chanUnits, putChan, kvGet_kvPut, hj, hm]

/-! ### What follows a change of state (R276, R286, R288) -/

/-- A channel enters a state. -/
def enters (st : DoorState) (x0 y0 x1 y1 : DoorChan) : Bool :=
  (x1.state == st && x0.state != st) || (y1.state == st && y0.state != st)

/-- A step taken only under a condition. -/
def stepIf (p : Prop) [Decidable p] (f : State → State) (s : State) : State := if p then f s else s

/-- A trip is counted and recorded, one by GUARD with its flag. -/
def noteTrip (g : Nat) (causes : List Nat) (s : State) : State :=
  record 0 .doorTrip (g :: causes) (markIf (causes.contains 9) (flagKey 0x100004 8) { s with
    door := { s.door with trips := satAdd s.door.trips 1 0xFFFF, gfault := s.door.gfault || causes.contains 9 } })

/-- A unit that leaves TRIPPED is counted. -/
def noteCleared (s : State) : State := { s with door := { s.door with cleared := satAdd s.door.cleared 1 0xFFFF } }

/-- A degradation is recorded and raises its source. -/
def noteDegraded (g : Nat) (s : State) : State := fire 40 (record 0 .doorDegraded [g] s)

/-- The keep domain holds a unit as isolated. -/
def keepIsolated (g : Nat) (s : State) : State :=
  { s with keep := { s.keep with isolated := s.keep.isolated.insert g } }

/-- An isolation is kept, recorded and raises its source. -/
def noteIsolated (g cause : Nat) (s : State) : State := fire 41 (record 0 .doorIsolated [g, cause] (keepIsolated g s))

/-- The keep domain holds the degraded time a unit has used. -/
def keepUsed (g used : Nat) (s : State) : State :=
  { s with keep := { s.keep with degUsed := tabSet 0 s.keep.degUsed g used } }

/-- The events of a change of state are five steps, each under its own condition. -/
theorem doorEvents_eq_steps (g : Nat) (causes : List Nat) (x0 y0 x1 y1 : DoorChan) (s : State) :
    doorEvents g causes x0 y0 x1 y1 s
      = stepIf (x1.used ≠ x0.used) (keepUsed g x1.used)
          (stepIf (enters .isolated x0 y0 x1 y1) (noteIsolated g x1.cause)
            (stepIf (enters .degraded x0 y0 x1 y1) (noteDegraded g)
              (stepIf (x0.state == .tripped && x1.state != .tripped) noteCleared
                (stepIf (enters .tripped x0 y0 x1 y1) (noteTrip g causes) s)))) := rfl

/-- What no step changes is not changed when it is taken under a condition. -/
theorem stepIf_keeps {α : Type} (view : State → α) {p : Prop} [Decidable p] {f : State → State}
    (hf : ∀ s, view (f s) = view s) (s : State) : view (stepIf p f s) = view s := by
  unfold stepIf
  split
  · exact hf s
  · rfl

/-- The state but for what the events of a door unit advance: the counts of trips and clears, the keep domain's records of
the units, the comb and the router. -/
def doorEventRest (s : State) : State := { s with
  door := { s.door with trips := 0, cleared := 0, gfault := false }
  keep := { s.keep with isolated := [], degUsed := [] }
  comb := State.reset.comb
  evr := State.reset.evr }

@[simp] theorem doorEventRest_record (i : Nat) (n : Note) (vals : List Nat) (s : State) :
    doorEventRest (record i n vals s) = doorEventRest s := by simp [doorEventRest]

@[simp] theorem doorEventRest_fire (n : Nat) (s : State) : doorEventRest (fire n s) = doorEventRest s := by
  simp [doorEventRest]

/-- A trip by another cause than GUARD, which notes its flag besides. -/
theorem doorEventRest_noteTrip {causes : List Nat} (hguard : causes.contains 9 = false) (g : Nat) (s : State) :
    doorEventRest (noteTrip g causes s) = doorEventRest s := by
  simp only [noteTrip, doorEventRest_record, hguard, markIf, Bool.false_eq_true, if_false]
  rfl

@[simp] theorem doorEventRest_noteCleared (s : State) : doorEventRest (noteCleared s) = doorEventRest s := rfl

@[simp] theorem doorEventRest_noteDegraded (g : Nat) (s : State) : doorEventRest (noteDegraded g s) = doorEventRest s := by
  simp [noteDegraded]

@[simp] theorem doorEventRest_noteIsolated (g cause : Nat) (s : State) :
    doorEventRest (noteIsolated g cause s) = doorEventRest s := by
  simp only [noteIsolated, doorEventRest_fire, doorEventRest_record]
  rfl

@[simp] theorem doorEventRest_keepUsed (g used : Nat) (s : State) : doorEventRest (keepUsed g used s) = doorEventRest s := rfl

theorem doorEventRest_doorEvents {causes : List Nat} (hguard : causes.contains 9 = false) (g : Nat)
    (x0 y0 x1 y1 : DoorChan) (s : State) : doorEventRest (doorEvents g causes x0 y0 x1 y1 s) = doorEventRest s := by
  rw [doorEvents_eq_steps, stepIf_keeps doorEventRest (doorEventRest_keepUsed g x1.used),
    stepIf_keeps doorEventRest (doorEventRest_noteIsolated g x1.cause),
    stepIf_keeps doorEventRest (doorEventRest_noteDegraded g), stepIf_keeps doorEventRest doorEventRest_noteCleared,
    stepIf_keeps doorEventRest (doorEventRest_noteTrip hguard g)]

/-- States that agree in the rest differ in the door guard, the keep domain, the comb and the router alone. -/
theorem eq_of_doorEventRest_eq {v s : State} (h : doorEventRest v = doorEventRest s) :
    v = { s with door := v.door, keep := v.keep, comb := v.comb, evr := v.evr } := by
  simp only [doorEventRest, State.mk.injEq] at h
  cases v
  cases s
  simp_all only

theorem record_eq (i : Nat) (n : Note) (vals : List Nat) (s : State) :
    record i n vals s = { s with comb := (record i n vals s).comb } := by
  simpa using eq_of_doorEventRest_eq (doorEventRest_record i n vals s)

@[simp] theorem noteTrip_isolated (g : Nat) (causes : List Nat) (s : State) :
    (noteTrip g causes s).keep.isolated = s.keep.isolated := by simp [noteTrip]

@[simp] theorem noteCleared_isolated (s : State) : (noteCleared s).keep.isolated = s.keep.isolated := rfl

@[simp] theorem noteDegraded_isolated (g : Nat) (s : State) : (noteDegraded g s).keep.isolated = s.keep.isolated := by
  simp [noteDegraded]

@[simp] theorem noteIsolated_isolated (g cause : Nat) (s : State) :
    (noteIsolated g cause s).keep.isolated = s.keep.isolated.insert g := by simp [noteIsolated, keepIsolated]

@[simp] theorem keepUsed_isolated (g used : Nat) (s : State) : (keepUsed g used s).keep.isolated = s.keep.isolated := rfl

theorem stepIf_keeps_isolated {p : Prop} [Decidable p] {f : State → State}
    (hf : ∀ s, (f s).keep.isolated = s.keep.isolated) (s : State) : (stepIf p f s).keep.isolated = s.keep.isolated :=
  stepIf_keeps (fun v => v.keep.isolated) hf s

/-- The units the keep domain holds as isolated change at an isolation alone. -/
theorem doorEvents_isolated (g : Nat) (causes : List Nat) (x0 y0 x1 y1 : DoorChan) (s : State) :
    (doorEvents g causes x0 y0 x1 y1 s).keep.isolated
      = if enters .isolated x0 y0 x1 y1 then s.keep.isolated.insert g else s.keep.isolated := by
  have hbefore : (stepIf (enters .degraded x0 y0 x1 y1) (noteDegraded g)
      (stepIf (x0.state == .tripped && x1.state != .tripped) noteCleared
        (stepIf (enters .tripped x0 y0 x1 y1) (noteTrip g causes) s))).keep.isolated = s.keep.isolated := by
    rw [stepIf_keeps_isolated (noteDegraded_isolated g), stepIf_keeps_isolated noteCleared_isolated,
      stepIf_keeps_isolated (noteTrip_isolated g causes)]
  rw [doorEvents_eq_steps, stepIf_keeps_isolated (keepUsed_isolated g x1.used), ← hbefore]
  generalize stepIf (enters .degraded x0 y0 x1 y1) (noteDegraded g) _ = v
  unfold stepIf
  split
  · exact noteIsolated_isolated g x1.cause v
  · rfl

/-! ### A unit's new states -/

/-- What both channels' new states x and y of a unit n leave of the door guard and the keep domain: each channel reads its
own new state, the other units and the table are as they were, and n is held as isolated when a channel isolates it. -/
structure UnitChanged (n : Nat) (x y : DoorChan) (s : State) (d : Door) (k : Keep) : Prop where
  table : d.table = s.door.table
  chan : ∀ j m, chanOf d j m = if m = n then (if j = 0 then x else y) else chanOf s.door j m
  isolated : k.isolated
    = if enters .isolated (chanOf s.door 0 n) (chanOf s.door 1 n) x y then s.keep.isolated.insert n else s.keep.isolated

/-- Both channels take their new states, by causes other than GUARD. -/
theorem updUnit_changes {causes : List Nat} (hguard : causes.contains 9 = false) (n : Nat) (x y : DoorChan) (s : State) :
    ∃ (d : Door) (k : Keep) (c : Comb) (r : Evr),
      updUnit n causes x y s = { s with door := d, keep := k, comb := c, evr := r } ∧ UnitChanged n x y s d k := by
  have hrest := doorEventRest_doorEvents hguard n (chanOf s.door 0 n) (chanOf s.door 1 n) x y
    { s with door := putChan 1 n y (putChan 0 n x s.door) }
  have hstate := eq_of_doorEventRest_eq hrest
  have htable := congrArg (fun v : State => v.door.table) hrest
  have hchan := fun j m => congrArg (fun v : State => chanOf v.door j m) hrest
  exact ⟨_, _, _, _, hstate, htable, fun j m => (hchan j m).trans (chanOf_putBoth n m j x y s.door),
    doorEvents_isolated _ _ _ _ _ _ _⟩

theorem UnitChanged.chan_of_ne {n : Nat} {x y : DoorChan} {s : State} {d : Door} {k : Keep}
    (h : UnitChanged n x y s d k) (j : Nat) {m : Nat} (hm : m ≠ n) : chanOf d j m = chanOf s.door j m := by
  rw [h.chan, if_neg hm]

/-- Channel j's new state of the unit, where one rule g gives it in both channels. -/
theorem UnitChanged.chan_self {n j : Nat} {g : Nat → DoorChan} {s : State} {d : Door} {k : Keep}
    (h : UnitChanged n (g 0) (g 1) s d k) (hj : j < 2) : chanOf d j n = g j := by
  rw [h.chan, if_pos rfl]
  obtain rfl | rfl : j = 0 ∨ j = 1 := by omega
  · rfl
  · rfl

/-- A unit that a channel isolates is held as isolated (R286). -/
theorem UnitChanged.mem_isolated {n j : Nat} {x y : DoorChan} {s : State} {d : Door} {k : Keep}
    (h : UnitChanged n x y s d k) (hj : j < 2) (hbefore : (chanOf s.door j n).state ≠ .isolated)
    (hafter : (chanOf d j n).state = .isolated) : n ∈ k.isolated := by
  have henters : enters .isolated (chanOf s.door 0 n) (chanOf s.door 1 n) x y = true := by
    rw [h.chan, if_pos rfl] at hafter
    obtain rfl | rfl : j = 0 ∨ j = 1 := by omega
    · simp_all [enters]
    · simp_all [enters]
  rw [h.isolated, if_pos henters]
  exact List.mem_insert_self

/-- Without an isolation the units held as isolated stay. -/
theorem UnitChanged.isolated_of_not_isolated {n : Nat} {x y : DoorChan} {s : State} {d : Door} {k : Keep}
    (h : UnitChanged n x y s d k) (hx : x.state ≠ .isolated) (hy : y.state ≠ .isolated) :
    k.isolated = s.keep.isolated := by
  rw [h.isolated, if_neg (by simp [enters, hx, hy])]

/-! ### The quiet interval (R279, R280) -/

theorem exec_quietIntervalComplete {t n : Nat} {e : DoorEntry} {s u : State} (hu : u = elapse t s)
    (hentry : doorEntry u.door n = some e) (hcrown : crowned u = true) (hx : quietDone u (chanOf u.door 0 n) = true)
    (hy : quietDone u (chanOf u.door 1 n) = true) :
    exec (.quietIntervalComplete t n) s = .next (updUnit n [] (completeQuiet u e (chanOf u.door 0 n))
      (completeQuiet u (entryY u.door e) (chanOf u.door 1 n)) u) := by
  subst hu
  simp only [exec, execQuietIntervalComplete, hentry, hcrown, hx, hy, Bool.and_self, if_true]

section
variable {s : State} {e : DoorEntry} {x : DoorChan}

/-- A GUARD or PARAM trip waits for its own end. -/
theorem completeQuiet_of_guard_or_param (htrip : x.state = .tripped) (hcause : x.cause = 9 ∨ x.cause = 10) :
    completeQuiet s e x = x := by
  simp only [completeQuiet, htrip, if_pos hcause]

variable (htrip : x.state = .tripped) (hguard : x.cause ≠ 9) (hparam : x.cause ≠ 10)
include htrip hguard hparam

theorem completeQuiet_of_both (hboth : heldLong s x.both = true) : completeQuiet s e x = superviseUnit x := by
  simp [completeQuiet, htrip, hguard, hparam, hboth]

variable (hboth : heldLong s x.both = false) (hfail : x.failX ≠ x.failY)
include hboth hfail

/-- With one encoder failed and no way to run degraded, the unit is isolated. -/
theorem completeQuiet_of_spent (hspent : e.staff.isNone = true ∨ degSpent e x = true) :
    completeQuiet s e x = isolateUnit x.cause x := by
  have hend : (e.staff.isNone || degSpent e x) = true := Bool.or_eq_true _ _ ▸ hspent
  simp [completeQuiet, htrip, hguard, hparam, hboth, hfail, hend]

/-- With one encoder failed, the other sound throughout and a confirmation, the unit runs degraded. -/
theorem completeQuiet_of_confirmed (hstaff : e.staff.isNone = false) (hleft : degSpent e x = false)
    (hone : heldLong s x.one = true) (hconf : x.conf = true) : (completeQuiet s e x).state = .degraded := by
  simp [completeQuiet, htrip, hguard, hparam, hboth, hfail, hstaff, hleft, hone, hconf]

end

/-- Settles O36: channel by channel, by what a complete quiet interval does to one channel's unit under its own entry. -/
theorem quietIntervalCompletes : Obligations.QuietIntervalCompletes := by
  unfold Obligations.QuietIntervalCompletes
  intro t n e s u hu hentry hcrown hx hy
  obtain ⟨d, k, c, r, hstate, hunit⟩ := updUnit_changes (causes := []) rfl n (completeQuiet u e (chanOf u.door 0 n))
    (completeQuiet u (entryY u.door e) (chanOf u.door 1 n)) u
  refine ⟨d, k, c, r, (exec_quietIntervalComplete hu hentry hcrown hx hy).trans (congrArg _ hstate), hunit.table,
    fun j hj => ?_⟩
  have hchan : chanOf d j n = completeQuiet u (if j = 0 then e else entryY u.door e) (chanOf u.door j n) :=
    hunit.chan_self (g := fun j => completeQuiet u (if j = 0 then e else entryY u.door e) (chanOf u.door j n)) hj
  refine ⟨fun htrip hguard hparam hboth => ?supervised, fun htrip hcause => ?stays, fun htrip hguard hparam hboth hfail =>
    ⟨fun hspent => ?isolated, fun hstaff hleft hone hconf => ?degraded⟩, fun m hm => hunit.chan_of_ne j hm⟩
  case supervised =>
    rw [hchan, completeQuiet_of_both htrip hguard hparam hboth]
    exact ⟨rfl, rfl, rfl, rfl⟩
  case stays => rw [hchan, completeQuiet_of_guard_or_param htrip hcause]
  case isolated =>
    have hafter : (chanOf d j n).state = .isolated := by
      rw [hchan, completeQuiet_of_spent htrip hguard hparam hboth hfail hspent]
      rfl
    exact ⟨hafter, hunit.mem_isolated hj (by simp [htrip]) hafter⟩
  case degraded => rw [hchan, completeQuiet_of_confirmed htrip hguard hparam hboth hfail hstaff hleft hone hconf]

/-! ### The end of the degraded time (R286) -/

theorem exec_doorDegTimeExpiry {t n : Nat} {e : DoorEntry} {s u : State} (hu : u = elapse t s)
    (hentry : doorEntry u.door n = some e) (hcrown : crowned u = true) :
    exec (.doorDegTimeExpiry t n) s = .next (updUnit n [7] (spendDegraded (ringNow u) e (chanOf u.door 0 n))
      (spendDegraded (ringNow u) e (chanOf u.door 1 n)) u) := by
  subst hu
  simp only [exec, execDoorDegTimeExpiry, hentry, hcrown, if_true]

theorem spendDegraded_of_spent {now : Nat} {e : DoorEntry} {x : DoorChan} (hdeg : x.state = .degraded)
    (hspent : e.degMax * 60000000000 ≤ x.used + (now - x.degAt)) :
    spendDegraded now e x = isolateUnit 7 { x with used := x.used + (now - x.degAt), degAt := now } := by
  simp [spendDegraded, degSpent, hdeg, hspent]

/-! ### Host clears (R281, R286, R288) -/

theorem exec_doorClear (t : Nat) (h : HostId) (guard : Bool) (s : State) :
    exec (if guard then .dgClrGuard t h else .dgClrIsolate t h) s
      = .next (hostWrite h 0x100060 (clearUnit guard h) (elapse t s)) := by
  cases guard <;> rfl

/-- A clear that both channels allow supervises the unit again, and the keep domain no longer holds it as isolated. -/
theorem clearUnit_of_allowed {guard : Bool} {e : DoorEntry} {s : State} (h : HostId)
    (hentry : doorEntry s.door s.door.sel = some e) (hcrown : crowned s = true)
    (hx : clearAllowed s guard e (chanOf s.door 0 s.door.sel) = true)
    (hy : clearAllowed s guard e (chanOf s.door 1 s.door.sel) = true) :
    ∃ (d : Door) (k : Keep) (c : Comb) (r : Evr),
      clearUnit guard h s = done { s with door := d, keep := k, comb := c, evr := r }
      ∧ k.isolated = s.keep.isolated.erase s.door.sel
      ∧ (∀ j, j < 2 → chanOf d j s.door.sel = superviseUnit (chanOf s.door j s.door.sel))
      ∧ (∀ j m, m ≠ s.door.sel → chanOf d j m = chanOf s.door j m) := by
  obtain ⟨d, k, c, r, hstate, hunit⟩ := updUnit_changes (causes := []) rfl s.door.sel
    (superviseUnit (chanOf s.door 0 s.door.sel)) (superviseUnit (chanOf s.door 1 s.door.sel)) s
  have hkept : k.isolated = s.keep.isolated :=
    hunit.isolated_of_not_isolated (by simp [superviseUnit]) (by simp [superviseUnit])
  have hclear : clearUnit guard h s = done (record 0 .doorClear [s.door.sel, b2n guard] { s with
      door := d, keep := { k with isolated := k.isolated.erase s.door.sel }, comb := c, evr := r }) := by
    simp only [clearUnit, hentry, hcrown, hx, hy, Bool.and_self, if_true, hstate]
  exact ⟨d, _, _, r, hclear.trans (congrArg done (record_eq _ _ _ _)), congrArg (·.erase s.door.sel) hkept,
    fun j hj => hunit.chan_self (g := fun j => superviseUnit (chanOf s.door j s.door.sel)) hj,
    fun j m hm => hunit.chan_of_ne j hm⟩

/-- A served write that leaves the host port open is answered with its status, and the answer changes nothing else. -/
theorem hostWrite_of_served {addr : Nat} {s : State} (h : HostId) (f : State → State × Nat) (hserved : Served addr s)
    (hopen : hostOpen (f s).1 = true) :
    ∃ p, hostWrite h addr f s = { (f s).1 with hp := p } ∧ Answers h (f s).2 [] p := by
  obtain ⟨hopen0, hgate⟩ := hserved
  simp only [hostWrite, hopen0, hgate, answerWrite, hopen, Bool.not_true, Bool.false_eq_true, if_false, if_true]
  exact ⟨_, rfl, _, rfl, rfl, rfl, rfl⟩

/-! ### Mirroring (R265, R292) -/

theorem exec_guardRecord {t : Nat} {x : Rcv} {s u : State} (units : List GuardUnit) (hu : u = elapse t s)
    (hsound : Sound x u) (hcrown : crowned u = false) :
    exec (.guardRecord t x units) s = .next (units.foldl mirrorUnit (heard x.rank u)) := by
  subst hu
  have hheard : crowned (heard x.rank (elapse t s)) = false := hcrown
  simp only [exec, execGuardRecord, takeRcv_of_sound hsound, hheard, Bool.false_and, Bool.false_eq_true, if_false]

theorem chanOf_mirrorUnit (g : GuardUnit) (j m : Nat) (s : State) : chanOf (mirrorUnit s g).door j m
    = if m = g.unit then mirrorChan (ringNow s) g (chanOf s.door (if j = 0 then 0 else 1) m) else chanOf s.door j m := by
  by_cases hm : m = g.unit
  · subst hm
    simp only [mirrorUnit, chanOf_putBoth, if_true]
    split <;> rfl
  · simp [mirrorUnit, chanOf_putBoth, hm]

/-- A GUARD record changes the door guard and the keep domain alone. -/
theorem foldl_mirrorUnit_eq (units : List GuardUnit) (s : State) : units.foldl mirrorUnit s
    = { s with door := (units.foldl mirrorUnit s).door, keep := (units.foldl mirrorUnit s).keep } := by
  induction units generalizing s with
  | nil => rfl
  | cons g units ih => exact ih (mirrorUnit s g)

theorem chanOf_foldl_mirrorUnit_of_not_mem {units : List GuardUnit} {m : Nat} (j : Nat)
    (hm : m ∉ units.map (fun g => g.unit)) (s : State) :
    chanOf (units.foldl mirrorUnit s).door j m = chanOf s.door j m := by
  induction units generalizing s with
  | nil => rfl
  | cons g units ih =>
    rw [List.map_cons, List.mem_cons, not_or] at hm
    obtain ⟨hne, hm⟩ := hm
    rw [List.foldl_cons, ih hm, chanOf_mirrorUnit, if_neg hne]

/-- A unit that a record names once is mirrored as the record says. -/
theorem chanOf_foldl_mirrorUnit_of_mem {units : List GuardUnit} {g : GuardUnit} (j : Nat) (hg : g ∈ units)
    (hnodup : (units.map (fun g => g.unit)).Nodup) (s : State) :
    ∃ now x, chanOf (units.foldl mirrorUnit s).door j g.unit = mirrorChan now g x := by
  induction units generalizing s with
  | nil => nomatch hg
  | cons g' units ih =>
    rw [List.map_cons, List.nodup_cons] at hnodup
    obtain ⟨hnot, hnodup⟩ := hnodup
    rw [List.foldl_cons]
    obtain rfl | hg := List.mem_cons.mp hg
    · exact ⟨_, _, by rw [chanOf_foldl_mirrorUnit_of_not_mem j hnot, chanOf_mirrorUnit, if_pos rfl]⟩
    · exact ih hg hnodup (mirrorUnit s g')

/-- Settles O37: the end of the degraded time and the host clears by the change of a unit's states, the mirroring by
induction over the units of the record. -/
theorem doorUnitsAreClearedAndMirrored : Obligations.DoorUnitsAreClearedAndMirrored := by
  unfold Obligations.DoorUnitsAreClearedAndMirrored
  refine ⟨⟨fun t n e s u hu hentry hcrown => ?degraded, fun t h guard e s u hu hserved hentry hcrown hx hy => ?cleared⟩,
    fun t x units s u hu hsound hcrown hnodup => ?mirrored⟩
  case degraded =>
    obtain ⟨d, k, c, r, hstate, hunit⟩ := updUnit_changes (causes := [7]) rfl n
      (spendDegraded (ringNow u) e (chanOf u.door 0 n)) (spendDegraded (ringNow u) e (chanOf u.door 1 n)) u
    refine ⟨d, k, c, r, (exec_doorDegTimeExpiry hu hentry hcrown).trans (congrArg _ hstate), fun j hj hdeg hspent => ?_,
      fun j m _ hm => hunit.chan_of_ne j hm⟩
    have hchan := (hunit.chan_self (g := fun j => spendDegraded (ringNow u) e (chanOf u.door j n)) hj).trans
      (spendDegraded_of_spent hdeg hspent)
    have hafter : (chanOf d j n).state = .isolated := by rw [hchan]; rfl
    exact ⟨hafter, by rw [hchan]; rfl, hunit.mem_isolated hj (by simp [hdeg]) hafter⟩
  case cleared =>
    obtain ⟨d, k, c, r, hclear, hkept, hunit, hother⟩ := clearUnit_of_allowed h hentry hcrown hx hy
    obtain ⟨p, hwrite, hanswer⟩ := hostWrite_of_served h (clearUnit guard h) hserved (by rw [hclear]; exact hserved.1)
    rw [hclear] at hwrite hanswer
    refine ⟨d, k, c, r, p, ?_, hanswer, hkept, fun j hj => ?_, fun j m _ hm => hother j m hm⟩
    · subst hu
      exact (exec_doorClear t h guard s).trans (congrArg _ hwrite)
    · rw [hunit j hj]
      exact ⟨rfl, rfl, rfl, rfl⟩
  case mirrored =>
    refine ⟨_, _, (exec_guardRecord units hu hsound hcrown).trans (congrArg _ (foldl_mirrorUnit_eq units _)),
      fun g j hg _ => ?_, fun m j hm _ => chanOf_foldl_mirrorUnit_of_not_mem j hm _⟩
    obtain ⟨now, y, hchan⟩ := chanOf_foldl_mirrorUnit_of_mem j hg hnodup (heard x.rank u)
    rw [hchan]
    exact ⟨rfl, rfl, rfl, rfl, rfl, rfl⟩

end Sys2Proof.Machine

/-! The records of the partner link (R295, R296, R509): what is taken of a record sent once and of one sent twice. -/
namespace Sys2Proof.Machine

/-! ### A record sent once (R295) -/

/-- A record that fails its check is counted and not acted on (R295, R509). -/
theorem takeRcv_of_unsound {x : Rcv} {s : State} (h : x.sound = false ∨ injected 0x0901 s ≠ none) (f : State → State) :
    takeRcv x f s
      = { spendOnce 0x0901 s with pl := { s.pl with errCheck := satAdd s.pl.errCheck 1 0xFFFF } } := by
  have hbad : (x.sound && !(injected 0x0901 s).isSome) = false := by
    rcases h with hsound | hinj
    · simp [hsound]
    · simp [Option.isSome_iff_ne_none.mpr hinj]
  have hpl : (spendOnce 0x0901 s).pl = s.pl := by simp
  simp only [takeRcv, hbad, hpl, Bool.false_eq_true, if_false]

/-- What a taken record shows of the link: the partner's rank and the two error counters. -/
structure LinkView where
  rank : W32
  errCheck : Nat
  errDup : Nat

def linkView (s : State) : LinkView := ⟨s.crown.partnerRank, s.pl.errCheck, s.pl.errDup⟩

/-- A record sent once: counted and nothing else when it fails its check; else it completes, names the partner's rank and
moves neither counter. -/
def RcvChecked (c : Instr) (x : Rcv) (s u : State) : Prop :=
  (x.sound = false ∨ injected 0x0901 u ≠ none → exec c s = .next { spendOnce 0x0901 u with
      pl := { u.pl with errCheck := satAdd u.pl.errCheck 1 0xFFFF } })
    ∧ (Sound x u → ∃ v : State, exec c s = .next v ∧ v.crown.partnerRank = x.rank
        ∧ v.pl.errCheck = u.pl.errCheck ∧ v.pl.errDup = u.pl.errDup)

/-- A record is checked once its effect leaves the partner's rank and the counters as they are. -/
theorem rcvChecked_of_takeRcv {c : Instr} {x : Rcv} {s u : State} {f : State → State}
    (hexec : exec c s = .next (takeRcv x f u)) (hlink : ∀ v, linkView (f v) = linkView v) : RcvChecked c x s u := by
  refine ⟨fun hunsound => by rw [hexec, takeRcv_of_unsound hunsound], fun hsound => ⟨f (heard x.rank u), ?_, ?_⟩⟩
  · rw [hexec, takeRcv_of_sound hsound]
  · have hview := hlink (heard x.rank u)
    simp only [linkView, LinkView.mk.injEq] at hview
    exact hview

/-! ### What leaves the link's view as it is -/

theorem linkView_eq {s v : State} (hcrown : v.crown.partnerRank = s.crown.partnerRank) (hpl : v.pl = s.pl) :
    linkView v = linkView s := by
  simp only [linkView, hcrown, hpl]

@[simp] theorem linkView_send (r : PlOut) (s : State) : linkView (send r s) = linkView s := by
  unfold send
  split <;> rfl

@[simp] theorem linkView_updSend (src : UpdSrc) (m : List Byte) (s : State) : linkView (updSend src m s) = linkView s := by
  cases src with
  | eth => unfold updSend; dsimp only; split <;> rfl
  | partner => exact linkView_send ..

@[simp] theorem linkView_setCrown (x : CrownState) (s : State) : linkView (setCrown x s) = linkView s :=
  linkView_eq (by simp [setCrown_crown]) (by simp)

@[simp] theorem linkView_enterOut (s : State) : linkView (enterOut s) = linkView s := linkView_setCrown ..

@[simp] theorem linkView_enterSeeking (s : State) : linkView (enterSeeking s) = linkView s := linkView_setCrown ..

@[simp] theorem linkView_setPx (x : PxState) (reason : Nat) (s : State) : linkView (setPx x reason s) = linkView s :=
  linkView_eq (by simp) (by simp)

@[simp] theorem linkView_cancelled (reason : Nat) (s : State) : linkView (cancelled reason s) = linkView s :=
  linkView_eq (by simp) (by simp)

@[simp] theorem linkView_acknowledge (ts : Nat) (solo : Bool) (s : State) : linkView (acknowledge ts solo s) = linkView s := by
  unfold acknowledge
  split <;> rfl

@[simp] theorem linkView_followTime (off : Int) (s : State) : linkView (followTime off s) = linkView s := by
  obtain ⟨c, i, hstate, -⟩ := followTime_eq off s
  rw [hstate]
  rfl

/-- Steps that each keep the view keep it together. -/
theorem linkView_foldl {α : Type} {f : State → α → State} (hf : ∀ s x, linkView (f s x) = linkView s) (l : List α)
    (s : State) : linkView (l.foldl f s) = linkView s := by
  induction l generalizing s with
  | nil => rfl
  | cons x l ih => rw [List.foldl_cons, ih, hf]

/-! ### The copy of a resynchronisation (R310) -/

@[simp] theorem linkView_adoptBank (b : CopyBody) (s : State) : linkView (adoptBank b s) = linkView s := by
  unfold adoptBank
  split
  · exact linkView_setPx ..
  · rfl

@[simp] theorem linkView_beginProving (b : CopyBody) (s : State) : linkView (beginProving b s) = linkView s := by
  unfold beginProving
  dsimp only
  rw [linkView_foldl]
  · exact linkView_setCrown ..
  · exact fun _ _ => rfl

/-- The stores once a pass has been written into the lanes that copy. -/
def copiedStores (b : CopyBody) (s : State) : Tri Stores :=
  (copyLanes s).foldl (fun st l => st.upd l (applyPass (nounTop s) b.pass b.words)) s.st

/-- A good pass is taken, and the next one is due. -/
def passTaken (b : CopyBody) (s : State) : State :=
  { s with st := copiedStores b s, crown := { s.crown with pass := b.pass + 1, combSeq := some b.combSeq } }

/-- Writing one lane's stores after another changes the stores alone. -/
theorem foldl_updStores_eq (f : Stores → Stores) (ls : List Lane) (s : State) :
    ls.foldl (fun v l => { v with st := v.st.upd l f }) s = { s with st := ls.foldl (fun st l => st.upd l f) s.st } := by
  induction ls generalizing s with
  | nil => rfl
  | cons l ls ih => exact ih { s with st := s.st.upd l f }

/-- A pass out of turn or with a wrong check ends the resynchronisation. -/
theorem takePass_of_bad {b : CopyBody} {s : State}
    (hbad : b.pass ≠ s.crown.pass ∨ b.check ≠ copyCheck b.pass b.cycle b.words) : takePass b s = enterSeeking s :=
  if_pos hbad

/-- A good pass is the last one when it comes before the next cycle's latch is due; the 64th must be. -/
theorem takePass_of_good {b : CopyBody} {s : State} (hpass : b.pass = s.crown.pass)
    (hcheck : b.check = copyCheck b.pass b.cycle b.words) :
    takePass b s =
      if ringNow s < (b.snapAt / max 1 (tProg s) + 1) * tProg s + 4000 then beginProving b (passTaken b s)
      else if 64 ≤ b.pass + 1 then enterSeeking (passTaken b s) else passTaken b s := by
  have hgood : ¬ (b.pass ≠ s.crown.pass ∨ b.check ≠ copyCheck b.pass b.cycle b.words) :=
    not_or.mpr ⟨fun h => h hpass, fun h => h hcheck⟩
  unfold takePass
  rw [if_neg hgood]
  dsimp only
  rw [foldl_updStores_eq]
  rfl

@[simp] theorem linkView_takePass (b : CopyBody) (s : State) : linkView (takePass b s) = linkView s := by
  by_cases hbad : b.pass ≠ s.crown.pass ∨ b.check ≠ copyCheck b.pass b.cycle b.words
  · rw [takePass_of_bad hbad, linkView_enterSeeking]
  · obtain ⟨hpass, hcheck⟩ := not_or.mp hbad
    rw [takePass_of_good (Decidable.not_not.mp hpass) (Decidable.not_not.mp hcheck)]
    split
    · exact linkView_beginProving ..
    · split
      · exact linkView_enterSeeking ..
      · rfl

@[simp] theorem linkView_takeCopy (b : CopyBody) (s : State) : linkView (takeCopy b s) = linkView s := by
  unfold takeCopy
  split
  · dsimp only
    split
    · rw [linkView_takePass, linkView_setCrown]
      exact linkView_adoptBank b s
    · rfl
  · split
    · exact linkView_takePass b s
    · rfl

/-! ### STATUS and RECOVERY_REQ -/

@[simp] theorem linkView_takeStatus (b : StatusBody) (s : State) : linkView (takeStatus b s) = linkView s := by
  unfold takeStatus
  dsimp only
  split <;> split
  · exact linkView_cancelled ..
  · exact linkView_cancelled ..
  · rfl
  · rfl

@[simp] theorem linkView_returnItem (item version : Nat) (b : List Byte) (s : State) :
    linkView (returnItem item version b s) = linkView s :=
  linkView_foldl (fun _ _ => linkView_updSend ..) _ _

@[simp] theorem linkView_answerRecovery (item : Nat) (version : W32) (s : State) :
    linkView (answerRecovery item version s) = linkView s := by
  unfold answerRecovery
  split
  · split
    · rfl
    · dsimp only
      split
      · exact linkView_returnItem ..
      · rfl
  · split
    · exact linkView_returnItem ..
    · rfl

@[simp] theorem linkView_takeRecoveryReq (item : Nat) (version : W32) (reason : Nat) (s : State) :
    linkView (takeRecoveryReq item version reason s) = linkView s := by
  have hseen : linkView (fire 71 (record 0 .fwPartner [item, reason]
      { s with upd := { s.upd with reqSeen := true, returned := false } })) = linkView s :=
    linkView_eq (by simp) (by simp)
  unfold takeRecoveryReq
  split
  · rfl
  · dsimp only
    split <;> split
    · exact linkView_answerRecovery ..
    · rfl
    · exact (linkView_answerRecovery ..).trans hseen
    · exact hseen

/-! ### The records sent once -/

theorem leaseAckRecord_checked (t ts : Nat) (x : Rcv) (e : W32) (s : State) :
    RcvChecked (.leaseAckRecord t x ts e) x s (elapse t s) :=
  rcvChecked_of_takeRcv rfl fun v => by
    split
    · exact linkView_acknowledge ..
    · rfl

theorem timeRecord_checked (t t1 t2 t3 t4 : Nat) (x : Rcv) (s : State) :
    RcvChecked (.timeRecord t x t1 t2 t3 t4) x s (elapse t s) :=
  rcvChecked_of_takeRcv rfl fun v => by
    dsimp only
    split
    · rfl
    · exact linkView_followTime ..

theorem partRecord_checked (t : Nat) (x : Rcv) (b : PartBody) (s : State) :
    RcvChecked (.partRecord t x b) x s (elapse t s) :=
  rcvChecked_of_takeRcv rfl fun v => by split <;> rfl

theorem commandRecord_checked (t : Nat) (x : Rcv) (b : CommandBody) (s : State) :
    RcvChecked (.commandRecord t x b) x s (elapse t s) :=
  rcvChecked_of_takeRcv rfl fun v => by split <;> rfl

theorem latchRecord_checked (t : Nat) (x : Rcv) (b : LatchBody) (s : State) :
    RcvChecked (.latchRecord t x b) x s (elapse t s) :=
  rcvChecked_of_takeRcv rfl fun v => by
    split
    · exact linkView_enterOut v
    · split
      · dsimp only
        split <;> rfl
      · rfl

theorem guardRecord_checked (t : Nat) (x : Rcv) (units : List GuardUnit) (s : State) :
    RcvChecked (.guardRecord t x units) x s (elapse t s) :=
  rcvChecked_of_takeRcv rfl fun v => by
    split
    · rfl
    · rw [foldl_mirrorUnit_eq]; rfl

theorem copyRecord_checked (t : Nat) (x : Rcv) (b : CopyBody) (s : State) :
    RcvChecked (.copyRecord t x b) x s (elapse t s) :=
  rcvChecked_of_takeRcv rfl (linkView_takeCopy b)

theorem statusRecord_checked (t : Nat) (x : Rcv) (b : StatusBody) (s : State) :
    RcvChecked (.statusRecord t x b) x s (elapse t s) :=
  rcvChecked_of_takeRcv rfl (linkView_takeStatus b)

theorem eventRecord_checked (t : Nat) (x : Rcv) (payload : List Byte) (s : State) :
    RcvChecked (.eventRecord t x payload) x s (elapse t s) :=
  rcvChecked_of_takeRcv rfl fun v => linkView_eq (by simp) (by simp)

theorem recoveryReq_checked (t : Nat) (x : Rcv) (item : Byte) (version : W32) (reason : Byte) (s : State) :
    RcvChecked (.recoveryReq t x item version reason) x s (elapse t s) :=
  rcvChecked_of_takeRcv rfl (linkView_takeRecoveryReq item.toNat version reason.toNat)

theorem pairInfo_checked (t : Nat) (x : Rcv) (version : W32) (level least : W16) (s : State) :
    RcvChecked (.pairInfo t x version level least) x s (elapse t s) :=
  rcvChecked_of_takeRcv rfl fun v => by split <;> rfl

/-! ### A record sent twice (R296) -/

/-- The state once two agreed copies of a record have been taken. -/
def heardTwice (rank : W32) (s : State) : State :=
  { heard rank s with pl := { s.pl with errCheck := satAdd s.pl.errCheck 0 0xFFFF } }

@[simp] theorem heardTwice_frame (rank : W32) (s : State) :
    (heardTwice rank s).crown = { s.crown with partnerRank := rank } ∧ (heardTwice rank s).eng = s.eng
      ∧ (heardTwice rank s).st = s.st ∧ (heardTwice rank s).lane = s.lane ∧ (heardTwice rank s).cyc = s.cyc
      ∧ (heardTwice rank s).ring = s.ring ∧ (heardTwice rank s).keep = s.keep ∧ (heardTwice rank s).fuse = s.fuse :=
  ⟨rfl, rfl, rfl, rfl, rfl, rfl, rfl, rfl⟩

theorem takeTwin_of_agreed {α : Type} [DecidableEq α] {x : Twin α} {b : α} {s : State} (h : Agreed x b s)
    (f : α → State → State) : takeTwin x f s = f b (heardTwice x.rank s) := by
  obtain ⟨hc0, hc1, hgap, hinj⟩ := h
  simp [takeTwin, hinj, spendOnce_of_not_injected hinj, hc0, hc1, hgap, heardTwice, heard, b2n]

/-- Copies that are not two, equal and in time count and change nothing else; an injected fault takes the first one
(R509). -/
theorem takeTwin_of_not_agreed {α : Type} [DecidableEq α] {x : Twin α} {c0 : Option α} {s : State}
    (hc0 : c0 = if (injected 0x0901 s).isSome then none else x.c0)
    (hfail : (c0 = none ∨ x.c1 = none) ∨ c0 ≠ x.c1 ∨ 2000 < x.gap) (f : α → State → State) :
    takeTwin x f s = { spendOnce 0x0901 s with
      pl := { s.pl with
        errCheck := satAdd s.pl.errCheck (b2n c0.isNone + b2n x.c1.isNone) 0xFFFF
        errDup := if c0.isNone && x.c1.isNone then s.pl.errDup else satAdd s.pl.errDup 1 0xFFFF } } := by
  have hpl : (spendOnce 0x0901 s).pl = s.pl := by simp
  obtain ⟨rank, first, second, gap⟩ := x
  have hfirst : (if (injected 0x0901 s).isSome then { rank := rank, c0 := none, c1 := second, gap := gap }
      else ⟨rank, first, second, gap⟩ : Twin α) = ⟨rank, c0, second, gap⟩ := by
    rw [hc0]; split <;> rfl
  simp only [takeTwin, hfirst, hpl]
  dsimp only at hfail
  cases c0 with
  | none => cases second <;> rfl
  | some a =>
    cases second with
    | none => rfl
    | some b =>
      have hdiffer : ¬ (a = b ∧ gap ≤ 2000) := by
        rintro ⟨rfl, hgap⟩
        simp at hfail
        omega
      simp only [if_neg hdiffer]
      rfl

/-- A record sent twice is checked once what it does turns on its rank and on what its copies say alone. -/
theorem twinChecked_of_takeTwin {α : Type} [DecidableEq α] {f : Nat → Twin α → Instr} (g : W32 → α → State → State)
    (hexec : ∀ t x s, exec (f t x) s = .next (takeTwin x (g x.rank) (elapse t s))) : TwinChecked f := by
  rintro t x c0 s u rfl hc0
  refine ⟨fun hfail => by rw [hexec, takeTwin_of_not_agreed hc0 hfail], fun b hagreed => ?_⟩
  have hatOnce : Agreed { x with gap := 0 } b (elapse t s) :=
    ⟨hagreed.1, hagreed.2.1, Nat.zero_le _, hagreed.2.2.2⟩
  exact ⟨_, by rw [hexec, takeTwin_of_agreed hagreed], by rw [hexec, takeTwin_of_agreed hatOnce]⟩

/-- A CLAIM record of a partner of a rank (R304, R311). -/
def takeClaim (rank : W32) (b : ClaimRec) (s : State) : State :=
  if s.crown.state = .off then s
  else if s.crown.state = .candidate ∧ hasPriority b.epoch rank s.crown.epoch s.fuse.rank = true then
    withdraw rank (seeEpoch b.epoch s)
  else seeEpoch b.epoch s

theorem exec_claimRecord (t : Nat) (x : Twin ClaimRec) (s : State) :
    exec (.claimRecord t x) s = .next (takeTwin x (takeClaim x.rank) (elapse t s)) := rfl

/-- Settles O60: a record sent once by what its effect leaves of the link, one sent twice by how its copies are judged. -/
theorem partnerRecordsAreChecked : Obligations.PartnerRecordsAreChecked := by
  unfold Obligations.PartnerRecordsAreChecked
  refine ⟨?once, ?lease, ?commit, ?offer, ?accept, ?refuse, ?handover, ?cancel, ?release, ?claim⟩
  case once =>
    rintro t ts t1 t2 t3 t4 x e version pb cb lb us yb sb bytes item reason level least c s u rfl hc
    change RcvChecked c x s (elapse t s)
    simp only [List.mem_cons, List.not_mem_nil, or_false] at hc
    obtain rfl | rfl | rfl | rfl | rfl | rfl | rfl | rfl | rfl | rfl | rfl := hc
    · exact leaseAckRecord_checked t ts x e s
    · exact timeRecord_checked t t1 t2 t3 t4 x s
    · exact partRecord_checked t x pb s
    · exact commandRecord_checked t x cb s
    · exact latchRecord_checked t x lb s
    · exact guardRecord_checked t x us s
    · exact copyRecord_checked t x yb s
    · exact statusRecord_checked t x sb s
    · exact eventRecord_checked t x bytes s
    · exact recoveryReq_checked t x item version reason s
    · exact pairInfo_checked t x version level least s
  case lease => exact twinChecked_of_takeTwin (fun _ => takeLease) fun _ _ _ => rfl
  case commit => exact twinChecked_of_takeTwin (fun _ => _) fun _ _ _ => rfl
  case offer => exact twinChecked_of_takeTwin (fun _ => _) fun _ _ _ => rfl
  case accept => exact twinChecked_of_takeTwin (fun _ => _) fun _ _ _ => rfl
  case refuse => exact twinChecked_of_takeTwin (fun _ => _) fun _ _ _ => rfl
  case handover => exact twinChecked_of_takeTwin (fun _ => _) fun _ _ _ => rfl
  case cancel => exact twinChecked_of_takeTwin (fun _ => _) fun _ _ _ => rfl
  case release => exact twinChecked_of_takeTwin (fun _ => _) fun _ _ _ => rfl
  case claim => exact twinChecked_of_takeTwin takeClaim exec_claimRecord

end Sys2Proof.Machine

/-! The lease (R298 to R303): its renewal, its acknowledgement and its end. -/
namespace Sys2Proof.Machine

/-! ### What goes out (R297) -/

@[simp] theorem send_out (r : PlOut) (s : State) : (send r s).pl.out = sent r s := by
  unfold send sent
  split <;> rfl

/-- What of a state tells what a record sends: the link's sync, what it has sent, and the lanes that send copies. -/
theorem sent_congr (r : PlOut) {s v : State} (hpl : v.pl = s.pl) (hlane : v.lane = s.lane) : sent r v = sent r s := by
  have hvotes : votes v = votes s := funext fun l => by simp only [votes, lstate, hlane]
  simp only [sent, plCopies, copyLanesOf, hvotes, lstate, laneOf, hpl, hlane]

/-- What agreed copies leave of the link tells what goes out as before. -/
theorem sent_heardTwice (r : PlOut) (rank : W32) (s : State) : sent r (heardTwice rank s) = sent r s := rfl

/-! ### A renewal reaches a standby in step (R299, R300, R303) -/

/-- A standby in step takes a renewal of the epoch it follows. -/
theorem takeRenewal_of_followed {epoch : W32} {s : State} (ringT : Nat) (hstep : s.crown.state = .inStep)
    (hepoch : epoch = s.crown.followed) :
    takeRenewal epoch ringT s = seeEpoch epoch { s with
      crown := { s.crown with view := some (ringT + leaseNs s), renewed := true, waitFrom := s.clk.now } } := by
  subst hepoch
  simp [takeRenewal, crowned, hstep]

/-- A standby in step counts a renewal of a lower epoch. -/
theorem takeRenewal_of_lower {epoch : W32} {s : State} (ringT : Nat) (hstep : s.crown.state = .inStep)
    (hlower : epoch.toNat < s.crown.followed.toNat) :
    takeRenewal epoch ringT s = { s with crown := { s.crown with lowEpoch := satAdd s.crown.lowEpoch 1 0xFF } } := by
  simp [takeRenewal, crowned, hstep, hlower]

/-- A standby in step takes a renewal unless its epoch is lower than the one followed. -/
theorem takesRenewal_of_inStep (epoch : W32) {s : State} (hstep : s.crown.state = .inStep) :
    takesRenewal epoch s = !decide (epoch.toNat < s.crown.followed.toNat) := by
  simp [takesRenewal, crowned, hstep]

/-- A renewal that is taken is acknowledged. -/
theorem takeAcked_of_followed (ts : Nat) {epoch : W32} {s : State} (hstep : s.crown.state = .inStep)
    (hepoch : epoch = s.crown.followed) :
    takeAcked ts epoch s = send (.leaseAck ts epoch) (takeRenewal epoch (ringNow s) s) := by
  have htakes : takesRenewal epoch s = true := by rw [takesRenewal_of_inStep epoch hstep, hepoch]; simp
  have hafter : (takeRenewal epoch (ringNow s) s).crown.state = .inStep := by
    simp [takeRenewal_of_followed _ hstep hepoch, hstep]
  simp [takeAcked, htakes, hafter]

theorem takeAcked_of_lower (ts : Nat) {epoch : W32} {s : State} (hstep : s.crown.state = .inStep)
    (hlower : epoch.toNat < s.crown.followed.toNat) :
    takeAcked ts epoch s = takeRenewal epoch (ringNow s) s := by
  simp [takeAcked, takesRenewal_of_inStep epoch hstep, hlower]

/-- The state in which a LEASE record's renewal is judged: the settings are compared, and the partner holds the crown. -/
def leaseHeard (b : LeaseBody) (s : State) : State :=
  { s with crown := { s.crown with settingsDiff := !settingsAgree s b, partner := 8 } }

theorem exec_leaseRecord {t : Nat} {x : Twin LeaseBody} {b : LeaseBody} {s u : State} (hu : u = elapse t s)
    (hagreed : Agreed x b u) (hrenew : b.renew = true) :
    exec (.leaseRecord t x) s = .next (takeAcked b.ts b.epoch (leaseHeard b (heardTwice x.rank u))) := by
  subst hu
  simp only [exec, execLeaseRecord, takeTwin_of_agreed hagreed, takeLease, hrenew, if_true]
  rfl

/-! ### An acknowledgement reaches the holder (R301) -/

theorem exec_leaseAckRecord {t ts : Nat} {x : Rcv} {s u : State} (hu : u = elapse t s) (hsound : Sound x u)
    (hcrown : crowned u = true) (hsent : ts ≤ u.crown.lastTs) (hnew : u.crown.tAck < ts) :
    exec (.leaseAckRecord t x ts u.crown.epoch) s
      = .next { u with crown := { u.crown with partnerRank := x.rank, tAck := ts, solo := false } } := by
  subst hu
  have hheld : crowned (heard x.rank (elapse t s)) = true := hcrown
  simp only [exec, execLeaseAckRecord, takeRcv_of_sound hsound, hheld]
  simp only [heard, acknowledge, hsent, hnew, beq_self_eq_true, Bool.and_self, decide_true, if_true]

/-! ### The lease's end (R159, R301) -/

theorem noteFirst_keeps (code : Nat) (s : State) :
    (noteFirst code s).rst = s.rst ∧ (noteFirst code s).store = s.store ∧ (noteFirst code s).keep.cnt = s.keep.cnt
      ∧ (noteFirst code s).vote.modAct = s.vote.modAct := by
  unfold noteFirst
  split <;> exact ⟨rfl, rfl, rfl, rfl⟩

/-- A module-scope detector acts from now on and resets nothing by itself. -/
theorem moduleReflex_keeps (code : Nat) (s : State) :
    (moduleReflex code s).rst = s.rst ∧ (moduleReflex code s).store = s.store
      ∧ (moduleReflex code s).keep.cnt = s.keep.cnt
      ∧ (moduleReflex code s).vote.modAct
        = if s.vote.modAct.contains code then s.vote.modAct else s.vote.modAct ++ [code] := by
  have hdrop (v : State) : (dropPermits v).vote.modAct = v.vote.modAct := rfl
  unfold moduleReflex
  dsimp only
  split <;> simp [halt, hdrop, noteFirst_keeps, noteSrc]

theorem leaveDual_keeps (r : Ring) (s : State) :
    (leaveDual r s).rst = s.rst ∧ (leaveDual r s).store = s.store ∧ (leaveDual r s).keep = s.keep := by
  unfold leaveDual
  dsimp only
  split <;> simp

theorem leaveDualAll_keeps (s : State) :
    (leaveDualAll s).rst = s.rst ∧ (leaveDualAll s).store = s.store ∧ (leaveDualAll s).keep = s.keep := by
  simp [leaveDualAll, rings, leaveDual_keeps]

/-- What a crown-loss restart of a module in READY leaves: the reset of source 8, counted. -/
structure CrownLost (s v : State) : Prop where
  state : v.crown.state = .off
  cur : v.rst.cur = 8
  stage : v.rst.stage = .hold
  released : ∀ r, (v.ring.at r).released = false
  lane : ∀ l, v.eng.at l = {} ∧ v.vote.permit.at l = false
  cyc : v.cyc = {}
  cnt : v.keep.cnt = setNth s.keep.cnt 7 (satAdd (nthD 0 s.keep.cnt 7) 1 0xFFFF)
  store : v.store = s.store

theorem startBank_cnt (d : BankDir) (k : Keep) : (startBank d k).cnt = k.cnt := by
  unfold startBank
  split <;> rfl

theorem resetModule_crownLost {s : State} (hready : s.rst.stage = .ready) :
    CrownLost s (resetModule (countReset 8 s.keep) [8] s) := by
  have hfirst : inReset s = false := by simp [inReset, hready]
  refine ⟨rfl, ?_, rfl, fun r => ?_, fun l => ?_, rfl, startBank_cnt .., rfl⟩
  · simp only [resetModule, hfirst]
    rfl
  · simp only [resetModule, Quad.at_map]
    rfl
  · cases l <;> exact ⟨rfl, rfl⟩

/-- The loss is seen from an earlier state too when nothing on the way counted a reset or wrote the code store. -/
theorem CrownLost.of_kept {s w v : State} (h : CrownLost w v) (hcnt : w.keep.cnt = s.keep.cnt) (hstore : w.store = s.store) :
    CrownLost s v :=
  { h with cnt := hcnt ▸ h.cnt, store := h.store.trans hstore }

theorem crownLossRestart_crownLost {s : State} (hready : s.rst.stage = .ready) : CrownLost s (crownLossRestart s) := by
  obtain ⟨w, hrestart, hrst, hstore, hkeep⟩ : ∃ w : State, crownLossRestart s = resetModule (countReset 8 w.keep) [8] w
      ∧ w.rst = s.rst ∧ w.store = s.store ∧ w.keep = s.keep := by
    refine ⟨quitCrown (send .release (setCrown .off (leaveDualAll s))), ?_, ?_⟩
    · simp [crownLossRestart, releaseAndReset, moduleReset, quitCrown, leaveDualAll_keeps]
    · simp [quitCrown, leaveDualAll_keeps]
  rw [hrestart]
  exact (resetModule_crownLost (hrst ▸ hready)).of_kept (congrArg Keep.cnt hkeep) hstore

/-- Origination has closed at the lease's end, and CROWN_LOSS has fired when the permits toggle. -/
def leaseClosed (s : State) : State :=
  let s := { s with crown := { s.crown with closed := true } }
  if toggling s then moduleReflex 0x16 s else s

theorem leaseClosed_keeps (s : State) :
    (leaseClosed s).rst = s.rst ∧ (leaseClosed s).store = s.store ∧ (leaseClosed s).keep.cnt = s.keep.cnt
      ∧ (0x19 ∈ (leaseClosed s).vote.modAct ↔ 0x19 ∈ s.vote.modAct) := by
  unfold leaseClosed
  dsimp only
  split
  · obtain ⟨hrst, hstore, hcnt, hact⟩ := moduleReflex_keeps 0x16 { s with crown := { s.crown with closed := true } }
    refine ⟨hrst, hstore, hcnt, ?_⟩
    rw [hact]
    split <;> simp
  · exact ⟨rfl, rfl, rfl, Iff.rfl⟩

theorem expireLease_eq (s : State) : expireLease s =
    if (leaseClosed s).vote.modAct.contains 0x19 then leaseClosed s else crownLossRestart (leaseClosed s) := rfl

/-- The lease's end restarts the module, unless DEG_EXPIRED waits for a reset. -/
theorem expireLease_crownLost {s : State} (hready : s.rst.stage = .ready) (hdeg : ¬ 0x19 ∈ s.vote.modAct) :
    CrownLost s (expireLease s) := by
  obtain ⟨hrst, hstore, hcnt, hact⟩ := leaseClosed_keeps s
  rw [expireLease_eq, if_neg (by simpa [hact] using hdeg)]
  exact (crownLossRestart_crownLost (hrst ▸ hready)).of_kept hcnt hstore

theorem exec_leaseExpiry {t : Nat} {s u : State} (hu : u = elapse t s) (hcrown : crowned u = true)
    (hend : u.crown.tAck + u.crown.lease ≤ ringNow u) : exec (.leaseExpiry t) s = .next (expireLease u) := by
  subst hu
  simp only [exec, execLeaseExpiry, hcrown, hend, decide_true, Bool.and_self, if_true]

/-- Settles O38: a renewal by what an epoch followed and a lower one do to a standby in step, the lease's end by what a
crown-loss restart leaves. -/
theorem leaseIsRenewedAndExpires : Obligations.LeaseIsRenewedAndExpires := by
  unfold Obligations.LeaseIsRenewedAndExpires
  refine ⟨fun t x b s u hu hagreed hrenew hstep => ⟨fun hfollowed => ?followed, fun hlower => ?lower⟩,
    fun t ts x s u hu hsound hcrown hsent hnew => exec_leaseAckRecord hu hsound hcrown hsent hnew,
    fun t s u hu hcrown hready hend hdeg => ?expiry⟩
  case followed =>
    refine ⟨_, exec_leaseRecord hu hagreed hrenew, ?_⟩
    have hheard : (leaseHeard b (heardTwice x.rank u)).crown.state = .inStep := hstep
    rw [takeAcked_of_followed b.ts hheard hfollowed, takeRenewal_of_followed _ hheard hfollowed]
    rw [send_out, sent_congr (s := heardTwice x.rank u) _ (by simp [leaseHeard]) (by simp [leaseHeard]), sent_heardTwice]
    have hnow : ringNow (leaseHeard b (heardTwice x.rank u)) + leaseNs (leaseHeard b (heardTwice x.rank u))
        = ringNow u + leaseNs u := rfl
    have hagree : settingsAgree (heardTwice x.rank u) b = settingsAgree u b := rfl
    simp only [hnow]
    simp [leaseHeard, hagree, hstep]
  case lower =>
    refine ⟨_, exec_leaseRecord hu hagreed hrenew, ?_⟩
    have hheard : (leaseHeard b (heardTwice x.rank u)).crown.state = .inStep := hstep
    rw [takeAcked_of_lower b.ts hheard hlower, takeRenewal_of_lower _ hheard hlower]
    exact ⟨rfl, rfl, rfl, rfl, rfl, rfl⟩
  case expiry =>
    obtain ⟨hstate, hcur, hstage, hreleased, hlane, hcyc, hcnt, hstore⟩ := expireLease_crownLost hready hdeg
    exact ⟨_, exec_leaseExpiry hu hcrown hend, hstate, hcur, hstage, hreleased, hlane, hcyc, hcnt, hstore⟩

end Sys2Proof.Machine

/-! Taking the crown (R304, R305, R311, R318): a view of the state and what a candidacy and a stay in OUT do to it. -/
namespace Sys2Proof.Machine

/-! ### The view -/

/-- The part of the state that the crown unit's changes are about: the crown unit, the keep domain and the ring ports; and
what they leave to the program: the engines, the stores, the lanes, the program cycle. -/
structure CrownView where
  crown : Crown
  keep : Keep
  ring : Quad RingPort
  eng : Tri Engine
  st : Tri Stores
  lane : Tri LaneRegs
  cyc : Cyc

def crownView (s : State) : CrownView := ⟨s.crown, s.keep, s.ring, s.eng, s.st, s.lane, s.cyc⟩

@[simp] theorem crownView_record (i : Nat) (n : Note) (vals : List Nat) (s : State) :
    crownView (record i n vals s) = crownView s := by
  simp [crownView]

@[simp] theorem crownView_recordWcet (s : State) : crownView (recordWcet s) = crownView s := by simp [crownView]

@[simp] theorem crownView_send (r : PlOut) (s : State) : crownView (send r s) = crownView s := by simp [crownView]

@[simp] theorem crownView_cancelPx (reason : Nat) (s : State) : crownView (cancelPx reason s) = crownView s := by
  simp [crownView]

theorem crownView_setCrown (x : CrownState) (s : State) :
    crownView (setCrown x s) = { crownView s with crown := { (crownView s).crown with state := x } } := by
  simp [crownView, setCrown_crown]

/-! ### OUT and SEEKING (R305) -/

/-- What a crown unit in OUT has dropped, since an instant. -/
def Crown.out (c : Crown) (now : Nat) : Crown := { c with
  state := .out, outAt := now, ho := none, latch := none, parts := [], own := none, heard := none, claimAt := none }

/-- What a crown unit in SEEKING has dropped. -/
def Crown.seeking (c : Crown) : Crown := { c with
  state := .seeking, renewed := false, statusSent := false, ho := none, claimAt := none, latch := none, own := none
  heard := none, uncompared := 0 }

theorem crownView_enterOut (s : State) :
    crownView (enterOut s) = { crownView s with crown := s.crown.out s.clk.now } := by
  rw [enterOut, crownView_setCrown]
  rfl

theorem crownView_enterSeeking (s : State) :
    crownView (enterSeeking s) = { crownView s with crown := s.crown.seeking } := by
  rw [enterSeeking, crownView_setCrown]
  rfl

/-- SEEKING raises no source. A cell is written when the state left is one that is recorded (R321). -/
theorem setCrown_seeking {s : State} (hleaves : s.crown.state ≠ .seeking) (hheld : s.crown.state ≠ .crowned) :
    setCrown .seeking s =
      recordIf (recordedState s.crown.state) 0 .crownState [s.crown.state.code, 1]
        { s with crown := { s.crown with state := .seeking } } := by
  have hfire : (s.crown.state == .crowned) = false := beq_eq_false_iff_ne.mpr hheld
  have hunrecorded : recordedState .seeking = false := rfl
  unfold setCrown
  rw [if_neg hleaves]
  simp only [hfire, hunrecorded, Bool.or_false]
  rfl

/-- The state before the crown unit enters SEEKING, with what it drops dropped. -/
def seekingFrom (s : State) : State :=
  { s with tb := { s.tb with stepBeacon := false }, crown := { s.crown.seeking with state := s.crown.state } }

theorem enterSeeking_of_out {s : State} (hout : s.crown.state = .out) :
    ∃ k, enterSeeking s = { s with crown := s.crown.seeking, tb := { s.tb with stepBeacon := false }, comb := k } := by
  have hseek : enterSeeking s = setCrown .seeking (seekingFrom s) := rfl
  have hfrom : (seekingFrom s).crown.state = .out := hout
  rw [hseek, setCrown_seeking (by rw [hfrom]; decide) (by rw [hfrom]; decide), hfrom]
  exact ⟨_, record_eq ..⟩

/-- A module that copies enters SEEKING without a cell. -/
theorem enterSeeking_of_copying {s : State} (hcopying : s.crown.state = .copying) :
    enterSeeking s = { s with crown := s.crown.seeking, tb := { s.tb with stepBeacon := false } } := by
  have hseek : enterSeeking s = setCrown .seeking (seekingFrom s) := rfl
  have hfrom : (seekingFrom s).crown.state = .copying := hcopying
  rw [hseek, setCrown_seeking (by rw [hfrom]; decide) (by rw [hfrom]; decide), hfrom]
  rfl

/-! ### A candidacy begins (R304, R311, R318) -/

@[simp] theorem crownView_seqJump (s : State) : crownView (seqJump s) = crownView s := by
  unfold seqJump
  split
  · rfl
  · dsimp only
    split
    · rfl
    · simp [crownView]

@[simp] theorem crownView_onCandidate (s : State) : crownView (onCandidate s) = crownView s := by
  unfold onCandidate
  dsimp only
  split <;> simp [crownView]

@[simp] theorem crownView_newScale (s : State) : crownView (newScale s) = crownView s := rfl

/-- A module that becomes a candidate holds an epoch, kept first; one that starts holds no commands of a holder. -/
def epochTaken (e : W32) (byStart : Bool) (s : State) : State :=
  { s with
    keep := { s.keep with epochKept := e }
    cyc := { s.cyc with cmds := if byStart then [] else s.cyc.cmds }
    crown := { s.crown with epoch := e, byStart := byStart, claimSeq := 0, claimAt := none, closed := false, view := none } }

/-- Ring time of a candidate that is not time-locked to a holder starts on a new scale (R216). -/
def candidateTime (byStart : Bool) (s : State) : State := if s.tb.locked && !byStart then s else newScale s

/-- No ring is won yet. -/
def ringsToWin (s : State) : State :=
  { s with ring := s.ring.map (fun _ p => { p with toWin := true, claim := { p.claim with state := .idle } }) }

@[simp] theorem crownView_candidateTime (byStart : Bool) (s : State) : crownView (candidateTime byStart s) = crownView s := by
  unfold candidateTime
  split <;> simp

/-- The view of a module that has become a candidate. -/
def CrownView.candidate (byStart : Bool) (v : CrownView) : CrownView :=
  { v with
    keep := { v.keep with epochKept := v.keep.epochKept + 1 }
    cyc := { v.cyc with cmds := if byStart then [] else v.cyc.cmds }
    ring := v.ring.map (fun _ p => { p with toWin := true, claim := { p.claim with state := .idle } })
    crown := { v.crown with
      state := .candidate, epoch := v.keep.epochKept + 1, byStart := byStart, claimSeq := 0, claimAt := none
      closed := false, view := none } }

theorem becomeCandidate_eq_stages (byStart : Bool) (s : State) :
    becomeCandidate byStart s = ringsToWin (candidateTime byStart
      (cancelPx 0x09 (onCandidate (setCrown .candidate (epochTaken (s.keep.epochKept + 1) byStart (seqJump s)))))) := rfl

/-- A candidate holds the next epoch, kept first; no view runs, and no ring is won yet. -/
theorem crownView_becomeCandidate (byStart : Bool) (s : State) :
    crownView (becomeCandidate byStart s) = (crownView s).candidate byStart := by
  have hwin (v : State) : crownView (ringsToWin v) = { crownView v with
      ring := (crownView v).ring.map (fun _ p => { p with toWin := true, claim := { p.claim with state := .idle } }) } := rfl
  have hepoch (e : W32) (v : State) : crownView (epochTaken e byStart v) = { crownView v with
      keep := { (crownView v).keep with epochKept := e }
      cyc := { (crownView v).cyc with cmds := if byStart then [] else (crownView v).cyc.cmds }
      crown := { (crownView v).crown with
        epoch := e, byStart := byStart, claimSeq := 0, claimAt := none, closed := false, view := none } } := rfl
  rw [becomeCandidate_eq_stages, hwin, crownView_candidateTime, crownView_cancelPx, crownView_onCandidate,
    crownView_setCrown, hepoch, crownView_seqJump]
  rfl

/-- The rings of a candidate are all to be won. -/
theorem CrownView.candidate_ring (byStart : Bool) (v : CrownView) (r : Ring) :
    ((v.candidate byStart).ring.at r).toWin = true ∧ ((v.candidate byStart).ring.at r).claim.state = .idle := by
  simp [CrownView.candidate]

/-! ### The crown is taken or refused (R311) -/

theorem takeCrown_of_allowed {s : State} (hallowed : crownRefuse s = 0) : takeCrown s = becomeCandidate false s :=
  if_pos hallowed

theorem crownView_takeCrown_of_refused {s : State} (hrefused : crownRefuse s ≠ 0) :
    crownView (takeCrown s) = { crownView s with crown := s.crown.out s.clk.now } := by
  have hcrown : (recordWcet s).crown = s.crown := congrArg CrownView.crown (crownView_recordWcet s)
  have hclk : (recordWcet s).clk = s.clk := by simp
  rw [takeCrown, if_neg hrefused, crownView_enterOut, crownView_recordWcet, hcrown, hclk]

theorem exec_crownTake {t w : Nat} {s u : State} (hu : u = elapse t s) (hstep : u.crown.state = .inStep)
    (hview : u.crown.view = some w) (hexpired : w + guardNs u ≤ ringNow u) :
    exec (.crownTake t) s = .next (takeCrown u) := by
  have hfollows : following u = true := by simp [following, hstep]
  subst hu
  simp only [exec, execCrownTake, hview, hfollows, Nat.not_lt.mpr hexpired, if_true, if_false]

theorem exec_outTimeout {t : Nat} {s u : State} (hu : u = elapse t s) (hout : u.crown.state = .out)
    (hend : u.crown.outAt + 1000000000 ≤ u.clk.now) : exec (.outTimeout t) s = .next (enterSeeking u) := by
  subst hu
  simp only [exec, execOutTimeout, hout, hend, and_self, if_true]

theorem exec_startWaitExpiry {t : Nat} {s u : State} (hu : u = elapse t s) (hseeking : u.crown.state = .seeking)
    (hset : u.set.block.isSome = true) (hwait : u.crown.waitFrom + 2 * leaseNs u + guardNs u ≤ u.clk.now)
    (hallowed : refusalReasons u = 0) : exec (.startWaitExpiry t) s = .next (becomeCandidate true u) := by
  subst hu
  simp only [exec, execStartWaitExpiry, hseeking, hset, hwait, hallowed, and_self, if_true]

/-- Settles O39: each command by its condition, then by the view a candidacy or a stay in OUT leaves. -/
theorem crownIsTaken : Obligations.CrownIsTaken := by
  unfold Obligations.CrownIsTaken
  refine ⟨fun t w s u hu hstep hview hexpired => ⟨fun hallowed => ?taken, fun hrefused => ?refused⟩,
    fun t s u hu hout hend => ?out, fun t s u hu hseeking hset hwait hallowed => ?start⟩
  case taken =>
    have hafter := crownView_becomeCandidate false u
    have hring := CrownView.candidate_ring false (crownView u)
    rw [← hafter] at hring
    simp only [crownView, CrownView.candidate, CrownView.mk.injEq, Bool.false_eq_true, if_false] at hafter
    obtain ⟨hcrown, hkeep, -, heng, hst, hlane, hcyc⟩ := hafter
    refine ⟨becomeCandidate false u, ?_, ?_⟩
    · rw [exec_crownTake hu hstep hview hexpired, takeCrown_of_allowed hallowed]
    · exact ⟨by rw [hcrown], by rw [hcrown], by rw [hkeep], by rw [hcrown], by rw [hcrown], hring, heng, hst, hlane, hcyc⟩
  case refused =>
    have hafter := crownView_takeCrown_of_refused hrefused
    simp only [crownView, CrownView.mk.injEq] at hafter
    obtain ⟨hcrown, hkeep, hring, hframe⟩ := hafter
    exact ⟨_, exec_crownTake hu hstep hview hexpired, by rw [hcrown]; rfl, by rw [hcrown]; rfl, hkeep, hring, hframe⟩
  case out =>
    obtain ⟨k, hseek⟩ := enterSeeking_of_out hout
    exact ⟨_, k, _, (exec_outTimeout hu hout hend).trans (congrArg _ hseek), rfl, rfl, rfl⟩
  case start =>
    have hafter := crownView_becomeCandidate true u
    simp only [crownView, CrownView.candidate, CrownView.mk.injEq, if_true] at hafter
    obtain ⟨hcrown, hkeep, -, heng, hst, hlane, hcyc⟩ := hafter
    exact ⟨_, exec_startWaitExpiry hu hseeking hset hwait hallowed, by rw [hcrown], by rw [hcrown], by rw [hcrown],
      by rw [hkeep], heng, hst, hlane, hcyc⟩

end Sys2Proof.Machine

/-! What the partner's records tell (R302, R304, R308, R310, R311, R331): commits, copies, STATUS, claims and releases. -/
namespace Sys2Proof.Machine

/-! ### Commits are compared (R308) -/

/-- What a COMMIT record tells of the holder: its comb and its lanes that vote. -/
def commitNoted (b : CommitBody) (s : State) : State :=
  { s with crown := { s.crown with combSeq := some b.combSeq, partnerVoting := b.voting } }

/-- The holder's commit of a cycle is at hand, or no more. -/
def commitHeld (b : Option CommitBody) (s : State) : State := { s with crown := { s.crown with heard := b } }

/-- A COMMIT record (R308, R309, R335). -/
def takeCommit (b : CommitBody) (s : State) : State :=
  if crowned s ∨ s.crown.state = .off ∨ s.crown.finalLatch then s
  else if takesRecords (commitNoted b s) then
    followExchange b (compareCommits (commitHeld (some b) (missedCommit (commitNoted b s))))
  else commitNoted b s

theorem exec_commitRecord (t : Nat) (x : Twin CommitBody) (s : State) :
    exec (.commitRecord t x) s = .next (takeTwin x takeCommit (elapse t s)) := rfl

theorem missedCommit_of_none {s : State} (hheard : s.crown.heard = none) : missedCommit s = s := by
  simp only [missedCommit, hheard]

/-- A standby that proves or is in step takes a commit of the holder. -/
theorem takeCommit_of_compares (b : CommitBody) {s : State} (hstate : s.crown.state = .proving ∨ s.crown.state = .inStep)
    (hfinal : s.crown.finalLatch = false) (hheard : s.crown.heard = none) :
    takeCommit b s = followExchange b (compareCommits (commitHeld (some b) (commitNoted b s))) := by
  have hskip : ¬ (crowned s = true ∨ s.crown.state = .off ∨ s.crown.finalLatch = true) := by
    rcases hstate with h | h <;> simp [crowned, h, hfinal]
  have htakes : takesRecords (commitNoted b s) = true := by
    rcases hstate with h | h <;> simp [commitNoted, takesRecords, compares, following, h, hfinal]
  have hnone : (commitNoted b s).crown.heard = none := hheard
  rw [takeCommit, if_neg hskip, if_pos htakes, missedCommit_of_none hnone]

/-- The partner's exchange word is kept with its cycle (R331). -/
def exchangeNoted (b : CommitBody) (s : State) : State :=
  { s with px := { s.px with partner := b.xw, partnerCycle := b.cycle } }

/-- An exchange word that asks nothing is kept, and nothing follows. -/
theorem followExchange_of_none {b : CommitBody} (hnone : b.xw.state = .none) (s : State) :
    followExchange b s = exchangeNoted b s := by
  unfold followExchange
  dsimp only
  split
  · rfl
  · simp only [hnone]
    rfl

theorem compareCommits_of_own {b : CommitBody} {own : OwnCommit} {s : State} (hheard : s.crown.heard = some b)
    (hown : s.crown.own = some own) (hcompares : compares s = true) (hcycle : b.cycle = own.cycle)
    (hkind : b.kind = .normal) : compareCommits s = compareNormal b own (commitHeld none s) := by
  simp only [compareCommits, commitHeld, hheard, hown, hcompares, hcycle, hkind, beq_self_eq_true, Bool.and_self, if_true]

/-- A cycle that matches keeps a standby in step, or proves it. -/
theorem crownView_compareNormal_of_match {b : CommitBody} {own : OwnCommit} {s : State}
    (hstate : s.crown.state = .proving ∨ s.crown.state = .inStep) (hdigest : own.digest = some b.digest)
    (hlate : compareLate b.cycle s = false) :
    crownView (compareNormal b own s) = { crownView s with
      crown := { s.crown with state := .inStep, matched := b.cycle, uncompared := 0 } } := by
  simp only [compareNormal, hdigest, hlate, Bool.false_eq_true, if_false, if_true]
  rcases hstate with h | h
  · rw [if_pos h, crownView_setCrown]
    rfl
  · rw [if_neg (by rw [h]; decide), ← h]
    rfl

/-- A cycle that differs is a mismatch. -/
theorem compareNormal_of_mismatch {b : CommitBody} {own : OwnCommit} {d : W32} {s : State} (hdigest : own.digest = some d)
    (hdiffers : d ≠ b.digest) (hlate : compareLate b.cycle s = false) :
    compareNormal b own s = followMismatch b.cycle s := by
  simp only [compareNormal, hdigest, hlate, hdiffers, Bool.false_eq_true, if_false]

/-- A mismatch sends a standby in step OUT; one that proves goes on proving (R308, R310). -/
theorem crownView_followMismatch (cycle : W32) (s : State) :
    crownView (followMismatch cycle s) =
      if s.crown.state = .inStep then { crownView s with crown := s.crown.out s.clk.now } else crownView s := by
  unfold followMismatch
  by_cases h : s.crown.state = .inStep
  · rw [if_neg (fun hne => hne h), if_pos h]
    dsimp only
    rw [crownView_enterOut]
    simp [crownView]
  · rw [if_pos h, if_neg h]

/-- The crown unit as the comparison of a commit finds it. -/
def Crown.comparing (c : Crown) (b : CommitBody) : Crown :=
  { c with combSeq := some b.combSeq, partnerVoting := b.voting, heard := none }

/-- The state in which the holder's commit is compared with the module's own. -/
def commitCompared (b : CommitBody) (s : State) : State := { s with crown := s.crown.comparing b }

theorem takeCommit_eq_compareNormal {b : CommitBody} {own : OwnCommit} {s : State}
    (hstate : s.crown.state = .proving ∨ s.crown.state = .inStep) (hfinal : s.crown.finalLatch = false)
    (hkind : b.kind = .normal) (hxw : b.xw.state = .none) (hown : s.crown.own = some own) (hcycle : b.cycle = own.cycle)
    (hheard : s.crown.heard = none) :
    takeCommit b s = exchangeNoted b (compareNormal b own (commitCompared b s)) := by
  have hcompares : compares (commitHeld (some b) (commitNoted b s)) = true := by
    rcases hstate with h | h <;> simp [commitHeld, commitNoted, compares, following, h]
  rw [takeCommit_of_compares b hstate hfinal hheard, followExchange_of_none hxw,
    compareCommits_of_own (s := commitHeld (some b) (commitNoted b s)) rfl hown hcompares hcycle hkind]
  rfl

/-- The crown unit once the holder's commit has been compared: a match keeps it in step or proves it, a mismatch sends one in
step OUT. -/
def Crown.compared (c : Crown) (b : CommitBody) (d : W32) (now : Nat) : Crown :=
  if d = b.digest then { c.comparing b with state := .inStep, matched := b.cycle, uncompared := 0 }
  else if c.state = .inStep then (c.comparing b).out now else c.comparing b

theorem Crown.compared_fields (c : Crown) (b : CommitBody) (d : W32) (now : Nat) :
    (c.compared b d now).combSeq = some b.combSeq
      ∧ (d = b.digest → (c.compared b d now).state = .inStep ∧ (c.compared b d now).matched = b.cycle)
      ∧ (c.state = .proving ∨ c.state = .inStep → d ≠ b.digest →
          (c.compared b d now).state = if c.state = .inStep then .out else .proving) := by
  unfold Crown.compared
  refine ⟨?_, fun hmatch => ?_, fun hstate hdiffers => ?_⟩
  · split
    · rfl
    · split <;> rfl
  · rw [if_pos hmatch]
    exact ⟨rfl, rfl⟩
  · rw [if_neg hdiffers]
    rcases hstate with h | h
    · rw [if_neg (by rw [h]; decide), if_neg (by rw [h]; decide)]
      exact h
    · rw [if_pos h, if_pos h]
      rfl

theorem crownView_compareNormal {b : CommitBody} {own : OwnCommit} {d : W32} {s : State}
    (hstate : s.crown.state = .proving ∨ s.crown.state = .inStep) (hdigest : own.digest = some d)
    (hlate : compareLate b.cycle s = false) :
    crownView (compareNormal b own (commitCompared b s))
      = { crownView s with crown := s.crown.compared b d s.clk.now } := by
  have hlate' : compareLate b.cycle (commitCompared b s) = false := hlate
  unfold Crown.compared
  by_cases hmatch : d = b.digest
  · rw [if_pos hmatch, crownView_compareNormal_of_match (s := commitCompared b s) hstate (hmatch ▸ hdigest) hlate']
    rfl
  · rw [if_neg hmatch, compareNormal_of_mismatch hdigest hmatch hlate', crownView_followMismatch]
    have hsame : (commitCompared b s).crown.state = s.crown.state := rfl
    rw [hsame]
    split <;> rfl

/-! ### The first pass of a copy (R310) -/

theorem foldl_upd_at_of_not_mem {α : Type} (f : α → α) {l : Lane} {ls : List Lane} (hl : l ∉ ls) (st : Tri α) :
    (ls.foldl (fun st m => st.upd m f) st).at l = st.at l := by
  induction ls generalizing st with
  | nil => rfl
  | cons m ls ih =>
    rw [List.mem_cons, not_or] at hl
    rw [List.foldl_cons, ih hl.2, Tri.at_upd, if_neg hl.1]

theorem foldl_upd_at_of_mem {α : Type} (f : α → α) {l : Lane} {ls : List Lane} (hnodup : ls.Nodup) (hl : l ∈ ls)
    (st : Tri α) : (ls.foldl (fun st m => st.upd m f) st).at l = f (st.at l) := by
  induction ls generalizing st with
  | nil => nomatch hl
  | cons m ls ih =>
    rw [List.nodup_cons] at hnodup
    rw [List.foldl_cons]
    by_cases hlm : l = m
    · rw [hlm, foldl_upd_at_of_not_mem f hnodup.1, Tri.at_upd, if_pos rfl]
    · rw [ih hnodup.2 ((List.mem_cons.mp hl).resolve_left hlm), Tri.at_upd, if_neg hlm]

theorem copyLanes_nodup (s : State) : (copyLanes s).Nodup :=
  List.Pairwise.filter _ (by decide : lanes.Nodup)

/-- A state word below NOUN_TOP is that noun word, and any other is no noun word. -/
theorem tabGet_putStateWord {top j : Nat} (k : Nat) (w : W64) (st : Stores) (hj : j < top) :
    tabGet 0 (putStateWord top k w st).noun j = if j = k then w else tabGet 0 st.noun j := by
  unfold putStateWord
  split
  · exact tabGet_tabSet ..
  · rw [if_neg (by omega)]

/-- Pass 0 writes the noun words in order, from word k on. -/
theorem tabGet_applyAll {top j : Nat} (hj : j < top) (ws : List W64) (k : Nat) (st : Stores) :
    tabGet 0 (applyAll top k ws st).noun j =
      if k ≤ j ∧ j < k + ws.length then nthD 0 ws (j - k) else tabGet 0 st.noun j := by
  induction ws generalizing k st with
  | nil => rw [if_neg (by simp)]; rfl
  | cons w ws ih =>
    rw [applyAll, ih, tabGet_putStateWord k w st hj, List.length_cons]
    by_cases hjk : j = k
    · subst hjk
      rw [if_neg (by omega), if_pos rfl, if_pos (by omega), Nat.sub_self]
      rfl
    · by_cases hin : k + 1 ≤ j ∧ j < k + 1 + ws.length
      · obtain ⟨i, rfl⟩ : ∃ i, j = k + (i + 1) := ⟨j - (k + 1), by omega⟩
        rw [if_pos hin, if_pos (by omega), show k + (i + 1) - (k + 1) = i by omega, show k + (i + 1) - k = i + 1 by omega]
        rfl
      · rw [if_neg hin, if_neg hjk, if_neg (by omega)]

theorem copiedStores_of_not_mem {b : CopyBody} {s : State} {l : Lane} (hl : l ∉ copyLanes s) :
    (copiedStores b s).at l = s.st.at l := foldl_upd_at_of_not_mem _ hl _

/-- A lane that copies has the noun words of pass 0. -/
theorem copiedStores_of_mem {b : CopyBody} {s : State} {l : Lane} {i : Nat} (hpass : b.pass = 0) (hl : l ∈ copyLanes s)
    (htop : i < nounTop s) (hi : i < b.words.length) :
    tabGet 0 ((copiedStores b s).at l).noun i = nthD 0 b.words i := by
  have happly : (copiedStores b s).at l = applyAll (nounTop s) 0 b.words (s.st.at l) :=
    (foldl_upd_at_of_mem _ (copyLanes_nodup s) hl _).trans (if_pos hpass)
  rw [happly, tabGet_applyAll htop, if_pos (by omega)]
  rfl

/-- A pass before the last one is taken, and the next is due. -/
theorem takePass_of_middle {b : CopyBody} {s : State} (hpass : b.pass = s.crown.pass)
    (hcheck : b.check = copyCheck b.pass b.cycle b.words) (hmore : b.pass < 63)
    (hlater : (b.snapAt / max 1 (tProg s) + 1) * tProg s + 4000 ≤ ringNow s) : takePass b s = passTaken b s := by
  rw [takePass_of_good hpass hcheck, if_neg (Nat.not_lt.mpr hlater), if_neg (by omega)]

theorem exec_copyRecord_of_copying {t : Nat} {x : Rcv} (b : CopyBody) {s u : State} (hu : u = elapse t s)
    (hsound : Sound x u) (hcopying : u.crown.state = .copying) :
    exec (.copyRecord t x b) s = .next (takePass b (heard x.rank u)) := by
  have hheard : (heard x.rank u).crown.state = .copying := hcopying
  have htake : takeCopy b (heard x.rank u) = takePass b (heard x.rank u) := by
    rw [takeCopy, if_neg (by rw [hheard]; decide), if_pos hheard]
  subst hu
  rw [← htake, ← takeRcv_of_sound hsound (takeCopy b)]
  rfl

/-! ### STATUS (R302, R310, R331) -/

/-- What a STATUS record tells of the standby. -/
def statusNoted (b : StatusBody) (c : Crown) : Crown :=
  { c with
    partner := b.state % 16, partnerVoting := b.voting, partnerDeg := b.degraded, partnerTest := b.testing
    partnerRejoin := b.xw.rejoin, released := c.released && decide (b.state ≠ 4) }

/-- The resynchronisation a holder sends: one under way goes on, one that is asked for starts. -/
def sendingAfter (b : StatusBody) (c : Crown) : Option Sending :=
  if b.state = 2 then c.sending else if decide (b.state = 1) && decide (b.refuse.toNat / 2 = 0) then some {} else none

theorem takeStatus_of_crowned {b : StatusBody} {s : State} (hcrown : crowned s = true) (hxw : b.xw.state ≠ .cancel) :
    takeStatus b s = { s with
      crown := { statusNoted b s.crown with sending := sendingAfter b s.crown }
      px := { s.px with partner := b.xw, partnerCycle := b.cycle } } := by
  unfold takeStatus
  dsimp only
  rw [if_neg hxw]
  exact if_pos hcrown

/-- A standby that asks and has nothing against it is sent a copy. -/
theorem sendingAfter_of_asks {b : StatusBody} (c : Crown) (hseeks : b.state = 1) (hfree : b.refuse.toNat / 2 = 0) :
    (sendingAfter b c).isSome = true := by
  simp [sendingAfter, hseeks, hfree]

/-! ### A claim of the partner (R304, R311) -/

theorem crownView_seeEpoch (e : W32) (s : State) :
    crownView (seeEpoch e s) = { crownView s with keep := (seeEpoch e s).keep } := by simp [crownView]

/-- The epoch kept is none lower than one seen. -/
theorem le_seeEpoch (e : W32) (s : State) : e.toNat ≤ (seeEpoch e s).keep.epochKept.toNat := by
  unfold seeEpoch
  split
  · exact Nat.le_refl _
  · omega

/-- Withdrawing on every ring that claims touches the rings alone. -/
theorem crownView_withdrawAll (s : State) : ∃ q, crownView (withdrawAll s) = { crownView s with ring := q } := by
  unfold withdrawAll
  refine List.foldlRecOn (motive := fun v => ∃ q, crownView v = { crownView s with ring := q }) rings _
    ⟨s.ring, rfl⟩ (fun v hv r _ => ?_)
  obtain ⟨q, hq⟩ := hv
  dsimp only
  split
  · have hend : crownView (endClaim r .withdrawn v) = { crownView v with ring := (endClaim r .withdrawn v).ring } := by
      simp [crownView]
    exact ⟨_, by rw [hend, hq]⟩
  · exact ⟨q, hq⟩

/-- A candidate's rings that claim are withdrawn on. -/
def ringsWithdrawn (s : State) : State :=
  { s with ring := s.ring.map (fun _ p =>
    if p.claim.state = .claiming then { p with claim := { p.claim with state := .withdrawn } } else p) }

theorem ringsWithdrawn_crown (s : State) : (ringsWithdrawn s).crown = s.crown := rfl

theorem crownView_ringsWithdrawn (s : State) :
    crownView (ringsWithdrawn s) = { crownView s with ring := (ringsWithdrawn s).ring } := rfl

/-- A candidate that withdraws before its partner is SEEKING again. -/
theorem withdrawCandidate_of_partner {winner : W32} {s : State} (hcand : s.crown.state = .candidate)
    (hwinner : winner = s.crown.partnerRank) : withdrawCandidate winner s = enterSeeking (ringsWithdrawn s) := by
  have hpartner : (s.crown.byStart || winner == s.crown.partnerRank) = true := by simp [hwinner]
  rw [withdrawCandidate, if_neg (fun hne => hne hcand)]
  exact if_pos hpartner

theorem crownView_withdraw_of_partner {winner : W32} {s : State} (hcand : s.crown.state = .candidate)
    (hwinner : winner = s.crown.partnerRank) :
    ∃ q, crownView (withdraw winner s) = { crownView s with ring := q, crown := s.crown.seeking } := by
  obtain ⟨q, hq⟩ := crownView_withdrawAll s
  have hcrown : (withdrawAll s).crown = s.crown := congrArg CrownView.crown hq
  have hcandidate : (withdrawAll s).crown.state = .candidate := by rw [hcrown, hcand]
  have hpartner : winner = (withdrawAll s).crown.partnerRank := by rw [hcrown, hwinner]
  have hsettle : withdraw winner s = enterSeeking (ringsWithdrawn (withdrawAll s)) := by
    rw [withdraw, if_pos hcand, withdrawCandidate_of_partner hcandidate hpartner]
  rw [hsettle, crownView_enterSeeking, crownView_ringsWithdrawn, hq, ringsWithdrawn_crown, hcrown]
  exact ⟨_, rfl⟩

/-- A candidate gives way to a claim that has priority; any claim's epoch is kept. -/
theorem crownView_takeClaim {rank : W32} {b : ClaimRec} {s : State} (hcand : s.crown.state = .candidate)
    (hrank : rank = s.crown.partnerRank) :
    ∃ q, crownView (takeClaim rank b s) = { crownView s with
      ring := q, keep := (seeEpoch b.epoch s).keep
      crown := if hasPriority b.epoch rank s.crown.epoch s.fuse.rank then s.crown.seeking else s.crown } := by
  have hcrown : (seeEpoch b.epoch s).crown = s.crown := by simp
  unfold takeClaim
  rw [if_neg (by rw [hcand]; decide)]
  by_cases hprior : hasPriority b.epoch rank s.crown.epoch s.fuse.rank = true
  · obtain ⟨q, hq⟩ := crownView_withdraw_of_partner (winner := rank) (s := seeEpoch b.epoch s) (by rw [hcrown, hcand])
      (by rw [hcrown, hrank])
    refine ⟨q, ?_⟩
    rw [if_pos ⟨hcand, hprior⟩, if_pos hprior, hq, crownView_seeEpoch, hcrown]
  · refine ⟨s.ring, ?_⟩
    rw [if_neg (fun h => hprior h.2), if_neg hprior, crownView_seeEpoch]
    rfl

/-! ### The partner's RELEASE (R302, R305, R311) -/

/-- The partner has released. -/
def partnerReleased (s : State) : State :=
  { s with crown := { s.crown with released := true, partner := 0, partnerLocked := false, renewed := false } }

/-- A RELEASE record: a module that followed the holder takes the crown, one that copied or proved seeks again. -/
def takeRelease (s : State) : State :=
  if following (partnerReleased s) && decide (s.crown.partner = 8) then takeCrown (partnerReleased s)
  else if ((partnerReleased s).crown.state == .copying || (partnerReleased s).crown.state == .proving)
      && decide (s.crown.partner = 8) then enterSeeking (partnerReleased s)
  else partnerReleased s

theorem exec_releaseRecord (t : Nat) (x : Twin Unit) (s : State) :
    exec (.releaseRecord t x) s = .next (takeTwin x (fun _ => takeRelease) (elapse t s)) := rfl

/-- The parts of the view that a release leaves as they are, and what it notes of the partner. -/
def ReleaseNoted (v s : CrownView) : Prop :=
  v.crown.released = true ∧ v.crown.partner = 0 ∧ v.eng = s.eng ∧ v.st = s.st ∧ v.lane = s.lane ∧ v.cyc = s.cyc

theorem takeCrown_releaseNoted (s : State) : ReleaseNoted (crownView (takeCrown (partnerReleased s))) (crownView s) := by
  by_cases hallowed : crownRefuse (partnerReleased s) = 0
  · rw [takeCrown_of_allowed hallowed, crownView_becomeCandidate]
    exact ⟨rfl, rfl, rfl, rfl, rfl, rfl⟩
  · rw [crownView_takeCrown_of_refused hallowed]
    exact ⟨rfl, rfl, rfl, rfl, rfl, rfl⟩

theorem takeRelease_releaseNoted (s : State) : ReleaseNoted (crownView (takeRelease s)) (crownView s) := by
  unfold takeRelease
  split
  · exact takeCrown_releaseNoted s
  · split
    · rw [crownView_enterSeeking]
      exact ⟨rfl, rfl, rfl, rfl, rfl, rfl⟩
    · exact ⟨rfl, rfl, rfl, rfl, rfl, rfl⟩

/-- A standby in step takes the crown its partner has released. -/
theorem takeRelease_of_inStep {s : State} (hstep : s.crown.state = .inStep) (hholder : s.crown.partner = 8) :
    takeRelease s = takeCrown (partnerReleased s) := by
  have hfollows : following (partnerReleased s) = true := by simp [partnerReleased, following, hstep]
  rw [takeRelease, hfollows, if_pos (by simp [hholder])]

theorem takeRelease_of_crowned {s : State} (hcrown : s.crown.state = .crowned) : takeRelease s = partnerReleased s := by
  have hfollows : following (partnerReleased s) = false := by simp [partnerReleased, following, hcrown]
  have hheld : (partnerReleased s).crown.state = .crowned := hcrown
  rw [takeRelease, hfollows, hheld, if_neg (by simp), if_neg (by simp)]

/-- Settles O41: each record by the rule of its chapter: the comparison of commits, the passes of a copy, what STATUS notes,
the priority of claims, and what a release leaves. -/
theorem standbyAndHolderLearn : Obligations.StandbyAndHolderLearn := by
  unfold Obligations.StandbyAndHolderLearn
  refine ⟨fun t x b d s u hu hagreed hstate hfinal hkind hxw hown hheard hlate => ?commit,
    fun t x b s u hu hsound hcopying hpass => ⟨fun hcheck hmore hlater => ?copied, fun hcheck => ?failed⟩,
    fun t x b s u hu hsound hcrown hxw => ?status, fun t x b s u hu hagreed hcand => ?claim,
    fun t x s u hu hagreed => ?release⟩
  case commit =>
    have htake := takeCommit_eq_compareNormal (s := heardTwice x.rank u) hstate hfinal hkind hxw hown rfl hheard
    have hafter := crownView_compareNormal (s := heardTwice x.rank u) (own := ⟨b.cycle, some d⟩) hstate rfl hlate
    simp only [crownView, CrownView.mk.injEq] at hafter
    obtain ⟨hcrown, -, -, hframe⟩ := hafter
    obtain ⟨hseq, hmatched, hdiffered⟩ := Crown.compared_fields (heardTwice x.rank u).crown b d u.clk.now
    refine ⟨exchangeNoted b _, ?_, hcrown ▸ hseq, rfl, ?_, ?_, hframe⟩
    · subst hu
      rw [exec_commitRecord, takeTwin_of_agreed hagreed, htake]
    · exact hcrown ▸ hmatched
    · exact hcrown ▸ hdiffered hstate
  case copied =>
    refine ⟨_, exec_copyRecord_of_copying b hu hsound hcopying, ?_⟩
    rw [takePass_of_middle (s := heard x.rank u) hpass hcheck hmore hlater]
    exact ⟨hcopying, rfl, rfl, fun hfirst l i hl htop hi => copiedStores_of_mem (s := heard x.rank u) hfirst hl htop hi,
      fun l hl => copiedStores_of_not_mem (s := heard x.rank u) hl, rfl, rfl, rfl⟩
  case failed =>
    have hexec := exec_copyRecord_of_copying b hu hsound hcopying
    rw [takePass_of_bad (Or.inr hcheck), enterSeeking_of_copying (s := heard x.rank u) hcopying] at hexec
    exact ⟨_, _, hexec, rfl⟩
  case status =>
    have htake := takeStatus_of_crowned (b := b) (s := heard x.rank u) hcrown hxw
    refine ⟨{ statusNoted b (heard x.rank u).crown with sending := sendingAfter b (heard x.rank u).crown }, ?_, rfl, rfl, rfl,
      rfl, eq_of_beq hcrown, fun hseeks hfree => sendingAfter_of_asks (heard x.rank u).crown hseeks hfree⟩
    subst hu
    exact congrArg Host.Outcome.next ((takeRcv_of_sound hsound (takeStatus b)).trans htake)
  case claim =>
    obtain ⟨q, hq⟩ := crownView_takeClaim (rank := x.rank) (b := b) (s := heardTwice x.rank u) hcand rfl
    simp only [crownView, CrownView.mk.injEq] at hq
    obtain ⟨hcrown, hkeep, -, hframe⟩ := hq
    refine ⟨takeClaim x.rank b (heardTwice x.rank u), ?_, ?_, ?_, hframe⟩
    · subst hu
      rw [exec_claimRecord, takeTwin_of_agreed hagreed]
    · rw [hkeep]
      exact le_seeEpoch ..
    · rw [hcrown]
      by_cases hprior : hasPriority b.epoch x.rank u.crown.epoch u.fuse.rank = true
      · rw [if_pos hprior]
        exact congrArg Crown.state (if_pos hprior)
      · rw [if_neg hprior]
        exact (congrArg Crown.state (if_neg hprior)).trans hcand
  case release =>
    obtain ⟨hreleased, hpartner, hframe⟩ := takeRelease_releaseNoted (heardTwice x.rank u)
    refine ⟨takeRelease (heardTwice x.rank u), ?_, hreleased, hpartner, fun hstep hholder hallowed => ?_, fun hcrown => ?_,
      hframe⟩
    · subst hu
      rw [exec_releaseRecord, takeTwin_of_agreed hagreed]
    · have hfree : crownRefuse (partnerReleased (heardTwice x.rank u)) = 0 := hallowed
      rw [takeRelease_of_inStep (s := heardTwice x.rank u) hstep hholder, takeCrown_of_allowed hfree]
      have hafter := crownView_becomeCandidate false (partnerReleased (heardTwice x.rank u))
      simp only [crownView, CrownView.candidate, CrownView.mk.injEq] at hafter
      obtain ⟨hcrown, hkeep, -⟩ := hafter
      exact ⟨by rw [hcrown], by rw [hcrown]; rfl, by rw [hkeep]; rfl⟩
    · rw [takeRelease_of_crowned (s := heardTwice x.rank u) hcrown]
      exact ⟨hcrown, rfl⟩

end Sys2Proof.Machine

/-! An orderly handover (R313 to R316): the offer and its answers, the handover at COMMIT(h), and when an offer is made. -/
namespace Sys2Proof.Machine

/-! ### The standby answers an offer (R313) -/

/-- An offer of the crown at COMMIT(h): ACCEPT when nothing refuses the crown, else REFUSE with the reasons. -/
def takeOffer (b : W32 × W32) (s : State) : State :=
  if crowned s then s
  else if crownRefuse s = 0 then
    send (.accept b.1) { s with crown := { s.crown with ho := some { h := b.1, why := .rotation, accepted := true } } }
  else send (.refuse b.1 (BitVec.ofNat 32 (crownRefuse s))) (recordWcet s)

theorem exec_handoverOffer (t : Nat) (x : Twin (W32 × W32)) (s : State) :
    exec (.handoverOffer t x) s = .next (takeTwin x takeOffer (elapse t s)) := rfl

theorem takeOffer_of_allowed {b : W32 × W32} {s : State} (hcrown : crowned s = false) (hallowed : crownRefuse s = 0) :
    takeOffer b s = send (.accept b.1)
      { s with crown := { s.crown with ho := some { h := b.1, why := .rotation, accepted := true } } } := by
  rw [takeOffer, hcrown, if_neg Bool.false_ne_true, if_pos hallowed]

theorem takeOffer_of_refused {b : W32 × W32} {s : State} (hcrown : crowned s = false) (hrefused : crownRefuse s ≠ 0) :
    takeOffer b s = send (.refuse b.1 (BitVec.ofNat 32 (crownRefuse s))) (recordWcet s) := by
  rw [takeOffer, hcrown, if_neg Bool.false_ne_true, if_neg hrefused]

/-- Answering an offer leaves the crown unit's state, the engines, the lanes and the program cycle as they are. -/
theorem takeOffer_frame (b : W32 × W32) (s : State) :
    (takeOffer b s).crown.state = s.crown.state ∧ (takeOffer b s).eng = s.eng ∧ (takeOffer b s).lane = s.lane
      ∧ (takeOffer b s).cyc = s.cyc := by
  unfold takeOffer
  split
  · exact ⟨rfl, rfl, rfl, rfl⟩
  · split <;> simp

/-! ### The holder hears the answer (R313) -/

theorem exec_handoverAccept {t : Nat} {x : Twin W32} {o : Handover} {s u : State} (hu : u = elapse t s)
    (hagreed : Agreed x o.h u) (hho : u.crown.ho = some o) (hcrown : crowned u = true) :
    exec (.handoverAccept t x) s = .next { heardTwice x.rank u with
      crown := { (heardTwice x.rank u).crown with ho := some { o with accepted := true } } } := by
  have hoffered : (heardTwice x.rank u).crown.ho = some o := hho
  have hheld : crowned (heardTwice x.rank u) = true := hcrown
  subst hu
  simp only [exec, execHandoverAccept, takeTwin_of_agreed hagreed, hoffered, hheld, beq_self_eq_true, Bool.and_self, if_true]

theorem exec_handoverRefuse {t : Nat} {x : Twin (W32 × W32)} {why : W32} {o : Handover} {s u : State} (hu : u = elapse t s)
    (hagreed : Agreed x (o.h, why) u) (hho : u.crown.ho = some o) (hcrown : crowned u = true) :
    exec (.handoverRefuse t x) s = .next { heardTwice x.rank u with
      crown := { (heardTwice x.rank u).crown with ho := none, retry := some o.why, retryAt := u.clk.now } } := by
  have hoffered : (heardTwice x.rank u).crown.ho = some o := hho
  have hheld : crowned (heardTwice x.rank u) = true := hcrown
  subst hu
  simp only [exec, execHandoverRefuse, takeTwin_of_agreed hagreed, hoffered, hheld, beq_self_eq_true, Bool.and_self, if_true]
  rfl

theorem exec_handoverCancel {t : Nat} {x : Twin W32} {o : Handover} {s u : State} (hu : u = elapse t s)
    (hagreed : Agreed x o.h u) (hho : u.crown.ho = some o) (hcrown : crowned u = false) :
    exec (.handoverCancel t x) s = .next { heardTwice x.rank u with
      crown := { (heardTwice x.rank u).crown with ho := none } } := by
  have hoffered : (heardTwice x.rank u).crown.ho = some o := hho
  have hfree : crowned (heardTwice x.rank u) = false := hcrown
  subst hu
  simp only [exec, execHandoverCancel, takeTwin_of_agreed hagreed, hoffered, hfree, beq_self_eq_true, Bool.not_false,
    Bool.and_self, if_true]

/-! ### The crown changes hands at COMMIT(h) (R313, R314) -/

/-- The holder's COMMIT(h) is at hand. -/
def digestHeard (o : Handover) (d : W32) (s : State) : State :=
  { s with crown := { s.crown with ho := some { o with digest := some d } } }

theorem exec_handoverCommit {t : Nat} {x : Twin (W32 × W32)} {d : W32} {o : Handover} {s u : State} (hu : u = elapse t s)
    (hagreed : Agreed x (o.h, d) u) (hho : u.crown.ho = some o) (hcrown : crowned u = false) (haccepted : o.accepted = true) :
    exec (.handoverCommit t x) s = .next (settleHandover (digestHeard o d (heardTwice x.rank u))) := by
  have hoffered : (heardTwice x.rank u).crown.ho = some o := hho
  have hfree : crowned (heardTwice x.rank u) = false := hcrown
  subst hu
  simp only [exec, execHandoverCommit, takeTwin_of_agreed hagreed, hoffered, hfree, haccepted, beq_self_eq_true,
    Bool.not_false, Bool.and_self, if_true, digestHeard]

/-- A standby whose own commit of h equals the holder's takes the crown. -/
theorem settleHandover_of_equal {o : Handover} {d : W32} {s : State} (hstep : s.crown.state = .inStep)
    (haccepted : o.accepted = true) (hown : s.crown.own = some ⟨o.h, some d⟩) :
    settleHandover (digestHeard o d s) = takeByHandover (digestHeard o d s) := by
  have hheld : (digestHeard o d s).crown.ho = some { o with digest := some d } := rfl
  have hcommit : (digestHeard o d s).crown.own = some ⟨o.h, some d⟩ := hown
  have hstanding : (digestHeard o d s).crown.state = .inStep := hstep
  simp only [settleHandover, hheld, hcommit, hstanding, haccepted, Option.isSome_some, and_self, if_true]

/-- The lease of the new holder begins with the epoch it takes. -/
def handoverHeld (e h : W32) (now : Nat) (s : State) : State :=
  { s with crown := { s.crown with
    epoch := e, tAck := now, lastTs := 0, lease := leaseNs s, closed := false, solo := false, view := none, ho := none
    handovers := satAdd s.crown.handovers 1 0xFFF, heldFrom := s.clk.lifeUs, changeCycle := h + 1, byStart := false
    firstLatch := true, partnerLocked := false } }

/-- The new holder begins on its rings and doors, and its permits follow their conditions. -/
def newHolderBegins (s : State) : State :=
  setPermits { s with
    tb := { s.tb with stepBeacon := false, handBeacon := true }
    door := { s.door with
      cx := s.door.cx.map (fun x => (x.1, breakQuiet x.2)), cy := s.door.cy.map (fun x => (x.1, breakQuiet x.2)) }
    vote := { s.vote with committed := true, haltRestart := none }
    ring := s.ring.map (fun _ p => { p with
      toWin := false, wrapped := none, healReady := false, sent := none, claim := { p.claim with state := .idle } }) }

theorem crownView_newHolderBegins (s : State) :
    crownView (newHolderBegins s) = { crownView s with ring := (newHolderBegins s).ring } := rfl

/-- The keep domain with a lifetime counter advanced (R530). -/
def Keep.bumped (i : Nat) (k : Keep) : Keep :=
  { k with counters := setNth k.counters i (satAdd (nthD 0 k.counters i) 1 0xFFFFFFFF) }

theorem crownView_bumpCounter (i : Nat) (s : State) :
    crownView (bumpCounter i s) = { crownView s with keep := (crownView s).keep.bumped i } := rfl

/-- The next epoch is kept before it is held, and the cell writer goes on after the holder's (R304, R309). -/
def nextEpochKept (s : State) : State := seqJump (seeEpoch (s.crown.followed + 1) s)

theorem takeByHandover_eq_stages (s : State) :
    takeByHandover s = newHolderBegins (cancelPx 0x09 (onCandidate (bumpCounter 4 (setCrown .crowned
      (handoverHeld (s.crown.followed + 1) ((s.crown.ho.map (fun x => x.h)).getD 0) (ringNow s)
        (nextEpochKept s)))))) := by
  unfold takeByHandover nextEpochKept newHolderBegins handoverHeld
  dsimp only

theorem seqJump_frame (s : State) : (seqJump s).set = s.set ∧ (seqJump s).clk = s.clk := by
  unfold seqJump
  split
  · exact ⟨rfl, rfl⟩
  · dsimp only
    split <;> simp

/-- The crown unit of the module that takes the crown with an epoch at COMMIT(h) of a handover. -/
def Crown.takenOver (c : Crown) (e h : W32) (now lease lifeUs : Nat) : Crown := { c with
  state := .crowned, epoch := e, tAck := now, lastTs := 0, lease := lease, closed := false, solo := false, view := none
  ho := none, handovers := satAdd c.handovers 1 0xFFF, heldFrom := lifeUs, changeCycle := h + 1, byStart := false
  firstLatch := true, partnerLocked := false }

theorem crownView_handoverHeld (e h : W32) (now : Nat) (s : State) :
    crownView (setCrown .crowned (handoverHeld e h now s))
      = { crownView s with crown := (crownView s).crown.takenOver e h now (leaseNs s) s.clk.lifeUs } := by
  rw [crownView_setCrown]
  rfl

theorem crownView_nextEpochKept (s : State) :
    crownView (nextEpochKept s) = { crownView s with keep := (seeEpoch (s.crown.followed + 1) s).keep } := by
  rw [nextEpochKept, crownView_seqJump, crownView_seeEpoch]

theorem nextEpochKept_frame (s : State) :
    leaseNs (nextEpochKept s) = leaseNs s ∧ (nextEpochKept s).clk = s.clk := by
  simp [nextEpochKept, leaseNs, seqJump_frame]

/-- The new holder has the next epoch after the one it followed, kept, and a lease from now; its program goes on. -/
theorem crownView_takeByHandover (s : State) : crownView (takeByHandover s) = { crownView s with
    crown := s.crown.takenOver (s.crown.followed + 1) ((s.crown.ho.map (fun x => x.h)).getD 0) (ringNow s) (leaseNs s)
      s.clk.lifeUs
    keep := (seeEpoch (s.crown.followed + 1) s).keep.bumped 4, ring := (takeByHandover s).ring } := by
  obtain ⟨hlease, hclk⟩ := nextEpochKept_frame s
  generalize hring : (takeByHandover s).ring = q
  rw [takeByHandover_eq_stages] at hring ⊢
  rw [crownView_newHolderBegins, hring, crownView_cancelPx, crownView_onCandidate, crownView_bumpCounter,
    crownView_handoverHeld, crownView_nextEpochKept, hlease, hclk]
  rfl

/-! ### When an offer is made (R313, R316) -/

/-- What an offer leaves of a holder that has none standing. -/
theorem offerHandover_of_postponed {why : OfferWhy} {s : State} (hnone : s.crown.ho = none)
    (hpost : offerPostponed why s = true) (hwhy : why ≠ .degraded) :
    offerHandover why s = { s with crown := { s.crown with
      retry := some why, retryAt := s.clk.now, postponed := satAdd s.crown.postponed 1 0xFFFF } } := by
  simp only [offerHandover, hnone, Option.isSome_none, Bool.false_eq_true, if_false, hpost, if_true, hwhy]

theorem offerHandover_of_made {why : OfferWhy} {s : State} (hnone : s.crown.ho = none)
    (hmade : offerPostponed why s = false) :
    offerHandover why s = send (.offer (s.keep.lastCommit.getD 0 + 9) (s.crown.epoch + 1)) { s with
      crown := { s.crown with ho := some { h := s.keep.lastCommit.getD 0 + 9, why := why }, retry := none } } := by
  simp only [offerHandover, hnone, Option.isSome_none, Bool.false_eq_true, if_false, hmade]

/-- An offer, made or postponed, leaves the crown unit's state as it is. -/
theorem offerHandover_crown_state (why : OfferWhy) (s : State) : (offerHandover why s).crown.state = s.crown.state := by
  unfold offerHandover
  split
  · rfl
  · split
    · rfl
    · simp

/-- The commands at which a holder offers a handover, each with its reason: the rotation is due, 60 s have passed since one
was postponed, or a host asks. -/
def Offers (t : Nat) (u : State) (i : Instr) (why : OfferWhy) : Prop :=
  (i = .rotationDue t ∧ why = .rotation ∧ 0 < rotationUs u ∧ u.crown.heldFrom + rotationUs u ≤ u.clk.lifeUs
      ∧ u.crown.retry = none)
    ∨ (i = .rotationRetry t ∧ u.crown.retry = some why ∧ why ≠ .degraded ∧ u.crown.retryAt + 60000000000 ≤ u.clk.now)
    ∨ (∃ h, i = .rotateNow t h ∧ why = .now ∧ Served 0x0D0028 u)

theorem Offers.why_ne_degraded {t : Nat} {u : State} {i : Instr} {why : OfferWhy} (h : Offers t u i why) : why ≠ .degraded := by
  obtain ⟨-, rfl, -⟩ | ⟨-, -, hwhy, -⟩ | ⟨_, -, rfl, -⟩ := h
  · decide
  · exact hwhy
  · decide

theorem exec_rotationDue {t : Nat} {s u : State} (hu : u = elapse t s) (hcrown : crowned u = true) (hon : 0 < rotationUs u)
    (hdue : u.crown.heldFrom + rotationUs u ≤ u.clk.lifeUs) (hretry : u.crown.retry = none) :
    exec (.rotationDue t) s = .next (offerHandover .rotation u) := by
  subst hu
  simp only [exec, execRotationDue, hcrown, hon, hdue, hretry, Option.isNone_none, decide_true, Bool.and_self, if_true]

theorem exec_rotationRetry {t : Nat} {why : OfferWhy} {s u : State} (hu : u = elapse t s) (hcrown : crowned u = true)
    (hretry : u.crown.retry = some why) (hwhy : why ≠ .degraded) (hdue : u.crown.retryAt + 60000000000 ≤ u.clk.now) :
    exec (.rotationRetry t) s = .next (offerHandover why u) := by
  subst hu
  simp only [exec, execRotationRetry, hcrown, hretry, hdue, bne_iff_ne.mpr hwhy, decide_true, Bool.and_self, if_true]

theorem exec_rotateNow {t : Nat} {h : HostId} {s u : State} (hu : u = elapse t s) (hcrown : crowned u = true)
    (hserved : Served 0x0D0028 u) : ∃ p, exec (.rotateNow t h) s = .next { offerHandover .now u with hp := p } := by
  obtain ⟨p, hwrite, -⟩ := hostWrite_of_served h
    (fun s => if crowned s then done (offerHandover .now s) else hostRefused 0x0D0028 h s) hserved
    (by simpa [hcrown, done, hostOpen] using hserved.1)
  refine ⟨p, ?_⟩
  subst hu
  simp only [hcrown, if_true] at hwrite
  exact congrArg Host.Outcome.next hwrite

/-- Each of the commands makes its offer; a host's is answered too. -/
theorem exec_of_offers {t : Nat} {s u : State} {i : Instr} {why : OfferWhy} (hu : u = elapse t s) (hcrown : crowned u = true)
    (h : Offers t u i why) : ∃ p, exec i s = .next { offerHandover why u with hp := p } := by
  obtain ⟨rfl, rfl, hon, hdue, hretry⟩ | ⟨rfl, hretry, hwhy, hdue⟩ | ⟨_, rfl, rfl, hserved⟩ := h
  · exact ⟨_, exec_rotationDue hu hcrown hon hdue hretry⟩
  · exact ⟨_, exec_rotationRetry hu hcrown hretry hwhy hdue⟩
  · exact exec_rotateNow hu hcrown hserved

/-- Settles O42: the answers by what takes an offer and what takes its answer, the handover by the stages of taking the crown,
the offers by what makes one and what postpones it. -/
theorem handoverAndRotation : Obligations.HandoverAndRotation := by
  unfold Obligations.HandoverAndRotation
  refine ⟨fun t x h e s u hu hagreed hcrown => ?offer, fun t o s u hu hho hcrown => ⟨fun x hagreed => ?accept,
    fun x why hagreed => ?refuse⟩, fun t o s u hu hho hstep => ⟨fun x d hagreed haccepted hown => ?commit,
    fun x hagreed => ?cancel⟩, fun t s u hu hcrown hho i why hoffers => ?rotation⟩
  case offer =>
    have hfree : crowned (heardTwice x.rank u) = false := hcrown
    refine ⟨takeOffer (h, e) (heardTwice x.rank u), ?_, fun hallowed => ?_, fun hrefused => ?_, takeOffer_frame _ _⟩
    · subst hu
      rw [exec_handoverOffer, takeTwin_of_agreed hagreed]
    · rw [takeOffer_of_allowed hfree hallowed]
      exact ⟨by simp, send_out _ _⟩
    · rw [takeOffer_of_refused hfree hrefused]
      refine ⟨by simp, (send_out _ _).trans ?_⟩
      exact (sent_congr _ (by simp) (by simp)).trans (sent_heardTwice _ x.rank u)
  case accept => exact ⟨_, exec_handoverAccept hu hagreed hho hcrown, rfl, eq_of_beq hcrown, rfl, rfl⟩
  case refuse => exact ⟨_, exec_handoverRefuse hu hagreed hho hcrown, rfl, rfl, rfl, eq_of_beq hcrown, rfl⟩
  case commit =>
    have hfree : crowned u = false := by rw [crowned, hstep]; rfl
    have hafter := crownView_takeByHandover (digestHeard o d (heardTwice x.rank u))
    simp only [crownView, CrownView.mk.injEq] at hafter
    obtain ⟨hcrown, hkeep, -, hframe⟩ := hafter
    refine ⟨_, (exec_handoverCommit hu hagreed hho hfree haccepted).trans
      (congrArg _ (settleHandover_of_equal (s := heardTwice x.rank u) hstep haccepted hown)), ?_⟩
    rw [hcrown, hkeep]
    exact ⟨rfl, rfl, rfl, rfl, rfl, rfl, rfl, le_seeEpoch .., hframe⟩
  case cancel =>
    have hfree : crowned u = false := by rw [crowned, hstep]; rfl
    exact ⟨_, exec_handoverCancel hu hagreed hho hfree, rfl, hstep, rfl, rfl⟩
  case rotation =>
    obtain ⟨p, hexec⟩ := exec_of_offers hu hcrown hoffers
    have hwhy := Offers.why_ne_degraded hoffers
    refine ⟨_, hexec, fun hmade => ?_, fun hpost => ?_, ?_⟩
    · rw [offerHandover_of_made hho hmade]
      exact ⟨by simp, send_out _ _⟩
    · rw [offerHandover_of_postponed hho hpost hwhy]
      exact ⟨hho, rfl, rfl⟩
    · exact ⟨(offerHandover_crown_state why u).trans (eq_of_beq hcrown), by simp, by simp, by simp⟩

end Sys2Proof.Machine

/-! The program exchange (R322 to R335, R347): what a move of its state changes, what staging leaves in the lanes' banks, and
the rule of each command. -/
namespace Sys2Proof.Machine

/-! ### A move of the exchange state (R329, R332) -/

/-- The exchange of v is y: the rejoin hold of R332 follows its state, the comb and the router may hear of the move, and the
rest is as in s. -/
def MovesExchange (y : Px) (s v : State) : Prop :=
  ∃ (e : Evr) (c : Comb), v = { s with
    px := y, evr := e, comb := c, vote := { s.vote with pxHold := y.state == .agreed || y.state == .switching } }

theorem fire_eq (n : Nat) (s : State) : fire n s = { s with evr := (fire n s).evr } := by
  unfold fire
  split <;> rfl

/-- The exchange with a new state; a reason of 0 keeps the latest refusal or cancellation (R347). -/
def Px.moved (x : PxState) (reason : Nat) (p : Px) : Px :=
  { p with state := x, reason := if reason = 0 then p.reason else reason }

theorem movesExchange_setPx (x : PxState) (reason : Nat) (s : State) :
    MovesExchange (s.px.moved x reason) s (setPx x reason s) := by
  unfold setPx
  dsimp only
  rw [fire_eq, record_eq]
  exact ⟨_, _, rfl⟩

@[simp] theorem setPx_px (x : PxState) (reason : Nat) (s : State) : (setPx x reason s).px = s.px.moved x reason := by
  obtain ⟨_, _, hmoved⟩ := movesExchange_setPx x reason s
  rw [hmoved]

/-- Of two moves in a row the second decides, whatever the exchange was that the first one found. -/
theorem MovesExchange.trans {y z x : Px} {s u v : State} (hfirst : MovesExchange y { s with px := x } u)
    (hsecond : MovesExchange z u v) : MovesExchange z s v := by
  obtain ⟨_, _, rfl⟩ := hfirst
  obtain ⟨e, c, rfl⟩ := hsecond
  exact ⟨e, c, rfl⟩

/-- The exchange after a proposal or agreement is cancelled (R334). -/
def Px.cancelled (reason : Nat) (p : Px) : Px :=
  { p with state := .staged, reason := reason, cancels := satAdd p.cancels 1 0xFFFF, h := 0, cancel := some p.h }

theorem movesExchange_cancelPx {reason : Nat} {s : State} (hopen : s.px.state = .proposed ∨ s.px.state = .agreed)
    (hreason : reason ≠ 0) : MovesExchange (s.px.cancelled reason) s (cancelPx reason s) := by
  obtain ⟨e, c, hmoved⟩ := movesExchange_setPx .staged reason s
  simp only [cancelPx, hopen, if_true, hmoved]
  exact ⟨e, c, by simp only [Px.moved, Px.cancelled, hreason, if_false]⟩

/-- An accepted proposal is AGREED at once in a module without a partner (R331, R332). -/
theorem movesExchange_writePropose {s : State} (h : HostId) (hpropose : proposable s = true) :
    ∃ v, writePropose h s = done v ∧ MovesExchange { s.px with
      state := if hasPartner s then .proposed else .agreed, h := s.px.target } s v := by
  have hproposed := movesExchange_setPx .proposed 0 { s with px := { s.px with h := s.px.target } }
  have hpartner : hasPartner (setPx .proposed 0 { s with px := { s.px with h := s.px.target } }) = hasPartner s := by
    simp [hasPartner]
  simp only [writePropose, hpropose, hpartner, if_true]
  refine ⟨_, rfl, ?_⟩
  split
  · exact hproposed
  · have hagreed := movesExchange_setPx .agreed 0 (setPx .proposed 0 { s with px := { s.px with h := s.px.target } })
    rw [setPx_px] at hagreed
    exact hproposed.trans hagreed

/-! ### The host's commands (R328, R331, R334) -/

/-- A host's command of the exchange with the exchange it leaves. -/
def Commands (t : Nat) (h : HostId) (u : State) (i : Instr) (y : Px) : Prop :=
  (i = .pxStage t h ∧ u.px.state = .idle ∧ y = { u.px with state := .staging })
    ∨ (i = .pxPropose t h ∧ proposable u = true ∧ y = { u.px with
        state := if hasPartner u then .proposed else .agreed, h := u.px.target })
    ∨ (i = .pxCancel t h ∧ (u.px.state = .proposed ∨ u.px.state = .agreed) ∧ y = u.px.cancelled 0x0A)

/-- A served write of GLB_PX_CTL that takes effect is answered, and leaves what its action leaves. -/
theorem exec_of_pxWrite {t : Nat} {h : HostId} {s u v : State} {i : Instr} {f : State → State × Nat} (hu : u = elapse t s)
    (hserved : Served 0x000044 u) (hexec : exec i s = .next (hostWrite h 0x000044 f (elapse t s))) (hdone : f u = done v)
    (hstage : v.rst = u.rst) : ∃ p, exec i s = .next { v with hp := p } ∧ Answers h 0 [] p := by
  have hv : (f u).1 = v := congrArg Prod.fst hdone
  obtain ⟨p, hwrite, hanswer⟩ := hostWrite_of_served h f hserved (by rw [hv, hostOpen, hstage]; exact hserved.1)
  rw [hdone] at hwrite hanswer
  subst hu
  exact ⟨p, hexec.trans (congrArg _ hwrite), hanswer⟩

/-- Each of the commands is a write of GLB_PX_CTL that moves the exchange. -/
theorem Commands.write {t : Nat} {h : HostId} {u : State} {i : Instr} {y : Px} (hcommand : Commands t h u i y) :
    ∃ f v, (∀ s, exec i s = .next (hostWrite h 0x000044 f (elapse t s))) ∧ f u = done v ∧ MovesExchange y u v := by
  obtain ⟨rfl, hidle, rfl⟩ | ⟨rfl, hpropose, rfl⟩ | ⟨rfl, hopen, rfl⟩ := hcommand
  · exact ⟨writeStage h, setPx .staging 0 u, fun _ => rfl, by simp only [writeStage, hidle, if_true],
      movesExchange_setPx .staging 0 u⟩
  · obtain ⟨v, hdone, hmoves⟩ := movesExchange_writePropose h hpropose
    exact ⟨writePropose h, v, fun _ => rfl, hdone, hmoves⟩
  · refine ⟨writePxCancel h, cancelPx 0x0A u, fun _ => rfl, ?_, movesExchange_cancelPx hopen (by decide)⟩
    obtain hstate | hstate := hopen <;> simp [writePxCancel, sendsReady, hstate]

/-- A standby that sends READY is STAGED, so its cancellation withdraws it (R334). -/
theorem writePxCancel_of_sendsReady {s : State} (h : HostId) (hready : sendsReady s = true) :
    writePxCancel h s = done (withdrawReady s) := by
  have hstaged : s.px.state = .staged := by
    simp only [sendsReady, Bool.and_eq_true, beq_iff_eq] at hready
    exact hready.1.1.1.1
  simp [writePxCancel, hstaged, hready]

/-! ### Staging (R323, R328) -/

/-- A lane's banks once it has loaded and checked the inactive one. -/
def stagedBanks (reason : Nat) (img : Option (List Byte)) (b : Banks) : Banks :=
  { putBank (!b.active) (img.map programOf) b with
    staged := decide (reason = 0), result := reason % 16, check := if reason = 0 then (img.map imgCheckOf).getD 0 else 0 }

@[simp] theorem stagedBanks_active (reason : Nat) (img : Option (List Byte)) (b : Banks) :
    (stagedBanks reason img b).active = b.active := by
  unfold stagedBanks putBank
  split <;> rfl

/-- Every lane in VOTING state has loaded and checked the inactive bank. -/
def votersStaged (s : State) : State :=
  { s with bank := (voters s).foldl (fun b l => b.upd l (stagedBanks (stagingResult s).1 (stagingResult s).2)) s.bank }

theorem foldl_stageLane (reason : Nat) (img : Option (List Byte)) (ls : List Lane) (s : State) :
    ls.foldl (fun s l => stageLane reason img l s) s
      = { s with bank := ls.foldl (fun b l => b.upd l (stagedBanks reason img)) s.bank } := by
  induction ls generalizing s with
  | nil => rfl
  | cons l ls ih => exact ih (stageLane reason img l s)

theorem foldl_stageLane_voters (s : State) :
    (voters s).foldl (fun u l => stageLane (stagingResult s).1 (stagingResult s).2 l u) s = votersStaged s :=
  foldl_stageLane ..

theorem mem_voters {s : State} {l : Lane} : l ∈ voters s ↔ votes s l = true := by
  cases l <;> simp [voters, lanes]

theorem voters_nodup (s : State) : (voters s).Nodup := List.Pairwise.filter _ (by decide : lanes.Nodup)

theorem votersStaged_bank_of_votes {s : State} {l : Lane} (hvotes : votes s l = true) :
    (votersStaged s).bank.at l = stagedBanks (stagingResult s).1 (stagingResult s).2 (s.bank.at l) :=
  foldl_upd_at_of_mem _ (voters_nodup s) (mem_voters.mpr hvotes) _

theorem votersStaged_bank_of_not_votes {s : State} {l : Lane} (hvotes : votes s l = false) :
    (votersStaged s).bank.at l = s.bank.at l :=
  foldl_upd_at_of_not_mem _ (by simp [mem_voters, hvotes]) _

@[simp] theorem votersStaged_active (s : State) (l : Lane) :
    ((votersStaged s).bank.at l).active = (s.bank.at l).active := by
  cases hvotes : votes s l
  · rw [votersStaged_bank_of_not_votes hvotes]
  · rw [votersStaged_bank_of_votes hvotes, stagedBanks_active]

/-- An image without a reason against it is staged in every lane in VOTING state. -/
theorem votersStaged_staged {s : State} (hgood : (stagingResult s).1 = 0) {l : Lane} (hvotes : votes s l = true) :
    ((votersStaged s).bank.at l).staged = true := by
  rw [votersStaged_bank_of_votes hvotes]
  exact decide_eq_true hgood

theorem stagedLanes_votersStaged {s : State} (hgood : (stagingResult s).1 = 0) :
    stagedLanes (votersStaged s) = voters s :=
  List.filter_eq_self.mpr (fun _ hl => votersStaged_staged hgood (mem_voters.mp hl))

/-- Staging that succeeds moves the exchange to STAGED, with the banks of the lanes in VOTING state and the map's X. -/
theorem endStaging_of_staged {s : State} (hgood : (stagingResult s).1 = 0) (htwo : 2 ≤ (voters s).length) :
    ∃ n, endStaging s
      = setPx .staged 0 { votersStaged s with px := { s.px with xclocks := n } } := by
  have hfew : ¬ (stagedLanes (votersStaged s)).length < 2 := by rw [stagedLanes_votersStaged hgood]; omega
  unfold endStaging
  dsimp only
  rw [foldl_stageLane_voters]
  simp only [hgood, hfew, ne_eq, not_true_eq_false, if_false, if_true]
  exact ⟨_, rfl⟩

/-- Staging that fails leaves nothing staged and is counted: for the reason of the image, or else for want of lanes. -/
theorem endStaging_of_refused {s : State} (hrefused : ¬ ((stagingResult s).1 = 0 ∧ 2 ≤ (voters s).length)) :
    endStaging s = setPx .idle (if (stagingResult s).1 ≠ 0 then (stagingResult s).1 else 7)
      { unstage (votersStaged s) with
        px := { (unstage (votersStaged s)).px with cancels := satAdd s.px.cancels 1 0xFFFF } } := by
  unfold endStaging
  dsimp only
  rw [foldl_stageLane_voters]
  by_cases hgood : (stagingResult s).1 = 0
  · have hfew : (stagedLanes (votersStaged s)).length < 2 := by rw [stagedLanes_votersStaged hgood]; omega
    simp only [hgood, hfew, ne_eq, not_true_eq_false, Nat.reduceEqDiff, if_false, if_true]
    rfl
  · simp only [hgood, ne_eq, not_false_eq_true, if_false, if_true]
    rfl

/-- What unstaging leaves of a lane's banks: nothing staged, the programs and the active bank as they were. -/
theorem unstage_bank (s : State) (l : Lane) :
    (unstage s).bank.at l = { s.bank.at l with staged := false, check := 0 } := by
  simp [unstage]

theorem exec_stagingDone {t : Nat} {s u : State} (hu : u = elapse t s) (hstaging : u.px.state = .staging) :
    exec (.stagingDone t) s = .next (endStaging u) := by
  subst hu
  simp only [exec, execStagingDone, hstaging, if_true]

/-! ### The deadline, the directory and the identifiers (R322, R335, R347) -/

theorem exec_pxGoDeadline {t : Nat} {s u : State} (hu : u = elapse t s) (hcrown : crowned u = false)
    (hagreed : u.px.state = .agreed) (hword : u.px.partnerCycle ≠ u.px.h) (hlate : goLate u = true) :
    exec (.pxGoDeadline t) s = .next (enterOut (cancelPx 0x0B u)) := by
  subst hu
  simp only [exec, execPxGoDeadline, hcrown, hagreed, bne_iff_ne.mpr hword, hlate, beq_self_eq_true, Bool.not_false,
    Bool.and_self, if_true]

theorem exec_bankDirectoryUpdate {t : Nat} {s u : State} (hu : u = elapse t s) (hdue : u.px.dirAt.isSome = true) :
    exec (.bankDirectoryUpdate t) s
      = .next { u with dir := { u.dir with active := u.keep.bank }, px := { u.px with dirAt := none } } := by
  subst hu
  simp only [exec, execBankDirectoryUpdate, hdue, if_true]

theorem exec_pxIdLoRead {t : Nat} {h : HostId} {sid : Bool} {s u : State} (hu : u = elapse t s)
    (hserved : Served (if sid then 0x00005C else 0x000054) u) :
    ∃ p, exec (.pxIdLoRead t h sid) s = .next { (pxIdLo sid u).1 with hp := p }
      ∧ Answers h 0 (leBytes 4 (pxIdLo sid u).2.toNat) p := by
  obtain ⟨p, hstate, hanswer⟩ := answerRead_answers h (if sid then 0x00005C else 0x000054) (pxIdLo sid u).2 (pxIdLo sid u).1
  refine ⟨p, ?_, hanswer⟩
  subst hu
  simp only [exec, execPxIdLoRead, hostRead_of_served h _ hserved, hstate]

/-- Settles O43: the host's commands and the deadline by the move of the exchange they make, the end of staging by what it
leaves in the banks, the read by the latch it leaves. -/
theorem exchangeMoves : Obligations.ExchangeMoves := by
  unfold Obligations.ExchangeMoves
  refine ⟨fun t h s u hu hserved i y hcommand => ?command, fun t h s u hu hserved hready => ?withdrawn,
    fun t s u hu hstaging => ⟨endStaging u, exec_stagingDone hu hstaging, ?staging⟩,
    fun t s u hu hcrown hagreed hword hlate => ?deadline, fun t s u hu hdue => exec_bankDirectoryUpdate hu hdue,
    fun t h sid s u hu hserved => ?read⟩
  case command =>
    obtain ⟨f, v, hexec, hdone, e, c, rfl⟩ := Commands.write hcommand
    obtain ⟨p, hnext, hanswer⟩ := exec_of_pxWrite hu hserved (hexec s) hdone rfl
    exact ⟨e, c, p, hnext, hanswer⟩
  case withdrawn =>
    exact exec_of_pxWrite (f := writePxCancel h) hu hserved rfl (writePxCancel_of_sendsReady h hready) rfl
  case staging =>
    split
    · next hstaged =>
      obtain ⟨hgood, htwo⟩ := hstaged
      obtain ⟨n, hstate⟩ := endStaging_of_staged hgood htwo
      rw [hstate]
      simp only [setPx_frame, setPx_px, votersStaged_active, true_and]
      refine ⟨⟨rfl, rfl, fun l => votersStaged_staged hgood⟩, fun l hvotes => ?_, rfl, rfl, rfl, rfl, rfl⟩
      rw [votersStaged_bank_of_not_votes hvotes]
      exact ⟨rfl, rfl⟩
    · next hrefused =>
      rw [endStaging_of_refused hrefused]
      have hreason : (if (stagingResult u).1 ≠ 0 then (stagingResult u).1 else 7) ≠ 0 := by split <;> omega
      simp only [setPx_frame, setPx_px, Px.moved, unstage_bank, votersStaged_active, if_neg hreason, true_and, and_self,
        implies_true]
      refine ⟨fun l hvotes => ?_, rfl, rfl, rfl, rfl, rfl⟩
      rw [votersStaged_bank_of_not_votes hvotes]
      exact ⟨rfl, rfl⟩
  case deadline =>
    obtain ⟨e, c, hcancel⟩ := movesExchange_cancelPx (s := u) (reason := 0x0B) (.inr hagreed) (by decide)
    refine ⟨_, exec_pxGoDeadline hu hcrown hagreed hword hlate, ?_⟩
    rw [hcancel]
    simp [enterOut_crown_state, Px.cancelled]
  case read =>
    obtain ⟨p, hnext, hanswer⟩ := exec_pxIdLoRead hu hserved
    refine ⟨(pxIdLo sid u).1.px, p, hnext.trans ?_, ?_, ?_⟩
    · cases sid <;> rfl
    · cases sid <;> simpa [pxIdLo] using hanswer
    · cases sid <;> exact ⟨rfl, rfl⟩

end Sys2Proof.Machine

/-! A cell for a comb that has failed (R356, R381, R382). -/
namespace Sys2Proof.Machine

/-- Refutes O44 by its first clause, which bars STATE = FAILED but not the kept FAILED. At `failedBefore` STATE is SCANNING
(R360) while FAILED is kept over the reset (R381), and a cell for comb 0 is queued for the last-words store (R382). -/
theorem not_cellsAreCreatedAndWritten : ¬ Obligations.CellsAreCreatedAndWritten := by
  unfold Obligations.CellsAreCreatedAndWritten
  rintro ⟨hcreate, -⟩
  obtain ⟨k, hexec, hqueued, -⟩ := hcreate 0 0 .moduleReset [] failedBefore failedBefore rfl (by decide)
  obtain ⟨-, c, hqueue, -⟩ := hqueued (by decide) (by decide)
  have hcomb : (enqueue failedBefore 0 Note.moduleReset.source (.note .moduleReset [])).comb = k :=
    congrArg State.comb (Host.Outcome.next.inj hexec)
  have hmoved := enqueue_queue_of_failed (s := failedBefore) rfl rfl (by decide) (by decide)
    Note.moduleReset.source (.note .moduleReset [])
  rw [hcomb, hqueue] at hmoved
  simp [failedBefore, combReset] at hmoved

end Sys2Proof.Machine

/-! The comb's host commands (R351 to R357, R366 to R383, R415): what each step of the cell writer leaves of a comb's slots,
what a freeze and a clear change, and the rule of each command. -/
namespace Sys2Proof.Machine

/-! ### A served write (R401, R402) -/

/-- A served write that leaves the reset unit as it was is answered with its status, and the answer changes nothing else. -/
theorem hostWrite_of_result {addr st : Nat} {f : State → State × Nat} {s v : State} (h : HostId) (hserved : Served addr s)
    (hresult : f s = (v, st)) (hrst : v.rst = s.rst) :
    ∃ p, hostWrite h addr f s = { v with hp := p } ∧ Answers h st [] p := by
  have hopen : hostOpen (f s).1 = true := by
    rw [hresult, hostOpen, hrst]
    exact hserved.1
  obtain ⟨p, hstate, hanswer⟩ := hostWrite_of_served h f hserved hopen
  rw [hresult] at hstate hanswer
  exact ⟨p, hstate, hanswer⟩

/-! ### One comb of the four, and cells on their way to it -/

@[simp] theorem Comb.arr_putArr_self (c : Comb) (i : Nat) (a : CombArr) : (c.putArr i a).arr i = a := by
  unfold Comb.putArr
  split
  · next h0 => exact if_pos h0
  · next h0 =>
    split
    · next h1 => rw [Comb.arr, if_neg h0, if_pos h1]
    · next h1 =>
      split
      · next h2 => rw [Comb.arr, if_neg h0, if_neg h1, if_pos h2]
      · next h2 => rw [Comb.arr, if_neg h0, if_neg h1, if_neg h2]

@[simp] theorem Comb.putArr_frame (c : Comb) (i : Nat) (a : CombArr) :
    (c.putArr i a).prog = c.prog ∧ (c.putArr i a).own = c.own ∧ (c.putArr i a).state = c.state
      ∧ (c.putArr i a).failed = c.failed ∧ (c.putArr i a).nextSeq = c.nextSeq := by
  unfold Comb.putArr
  (repeat' split) <;> exact ⟨rfl, rfl, rfl, rfl, rfl⟩

theorem enqueue_eq (s : State) (i source : Nat) (p : Payload) :
    enqueue s i source p = { s with comb := (enqueue s i source p).comb } := by
  unfold enqueue
  dsimp only
  (repeat' split) <;> rfl

/-- A cell that enters the queue, is refused or is lost leaves the combs and the cell in progress as they are. -/
@[simp] theorem enqueue_comb_frame (s : State) (i source : Nat) (p : Payload) :
    (enqueue s i source p).comb.c0 = s.comb.c0 ∧ (enqueue s i source p).comb.c1 = s.comb.c1
      ∧ (enqueue s i source p).comb.c2 = s.comb.c2 ∧ (enqueue s i source p).comb.lw = s.comb.lw
      ∧ (enqueue s i source p).comb.lwFull = s.comb.lwFull ∧ (enqueue s i source p).comb.prog = s.comb.prog
      ∧ (enqueue s i source p).comb.chal = s.comb.chal ∧ (enqueue s i source p).comb.mask = s.comb.mask := by
  unfold enqueue
  dsimp only
  (repeat' split) <;> exact ⟨rfl, rfl, rfl, rfl, rfl, rfl, rfl, rfl⟩

/-! ### The cell writer (R355, R366, R370) -/

/-- What the end of a cell settles: the slots of its comb and the cell in progress; and some of what the cell writer never
touches. -/
structure WriterView where
  slots : List (Nat × Slot)
  prog : Option InProg
  eng : Tri Engine
  lane : Tri LaneRegs
  store : Tab Byte

def writerView (c : Nat) (s : State) : WriterView := ⟨(s.comb.arr c).slots, s.comb.prog, s.eng, s.lane, s.store⟩

@[simp] theorem writerView_recordOwn (c i typ : Nat) (b : List Byte) (s : State) :
    writerView c (recordOwn i typ b s) = writerView c s := by simp [writerView, recordOwn, Comb.arr]

@[simp] theorem writerView_fire (c n : Nat) (s : State) : writerView c (fire n s) = writerView c s := by simp [writerView]

/-- A comb put back with the slots it had. -/
theorem writerView_putArr {c : Nat} {a : CombArr} {k : Comb} {s : State} (hslots : a.slots = (s.comb.arr c).slots)
    (hprog : k.prog = s.comb.prog) : writerView c { s with comb := k.putArr c a } = writerView c s := by
  simp [writerView, hslots, hprog]

@[simp] theorem writerView_announceLevel (c : Nat) (s : State) : writerView c (announceLevel c s) = writerView c s := by
  unfold announceLevel
  dsimp only
  split
  · rw [writerView_fire, writerView_recordOwn]
    exact writerView_putArr rfl rfl
  · rfl

@[simp] theorem writerView_makeFull (c : Nat) (s : State) : writerView c (makeFull c s) = writerView c s := by
  unfold makeFull
  dsimp only
  split
  · rfl
  · simp only [apply_ite (writerView c), writerView_recordOwn, ite_self]
    simp only [writerView, Comb.arr, Comb.putArr, countRefused]
    (repeat' split) <;> rfl

/-- The comb of an EPOCH_OPEN cell that stands: its blocks are no longer being erased. -/
def openedArr (w : InProg) (s : State) : CombArr :=
  { s.comb.arr w.comb with erasing := false, mode := if w.comb = 4 then .recording else .clearing }

def opened (w : InProg) (s : State) : State :=
  let k := s.comb.putArr w.comb (openedArr w s)
  { s with comb := { k with
    lwFull := if w.comb = 4 then false else k.lwFull
    events := if w.comb = 4 ∧ k.failed then k.events ++ [w.cell] else k.events } }

theorem epochOpened_eq_stepIf (w : InProg) (s : State) : epochOpened w s
    = stepIf (w.comb = 1 ∨ w.comb = 2 ∨ (w.comb = 4 ∧ (opened w s).comb.failed = false))
        (recordOwn 0 0x01 (payloadBytes w.cell.payload).2) (opened w s) := rfl

@[simp] theorem writerView_epochOpened (w : InProg) (s : State) :
    writerView w.comb (epochOpened w s) = writerView w.comb s := by
  rw [epochOpened_eq_stepIf, stepIf_keeps (writerView w.comb) (writerView_recordOwn w.comb 0 0x01 _)]
  exact writerView_putArr (a := openedArr w s) rfl rfl

/-- The state in which w is capped at its comb's write index, before the comb says how full it is. -/
def cellCapped (w : InProg) (s : State) : State :=
  { s with comb := dropProg w (s.comb.putArr w.comb { s.comb.arr w.comb with
      slots := putSlot w 0 (s.comb.arr w.comb)
      count := (s.comb.arr w.comb).count + 1
      gen := (s.comb.arr w.comb).gen + 1 }) }

theorem writerView_finishCell (w : InProg) (s : State) : writerView w.comb (finishCell w s) =
    ⟨putSlot w 0 (s.comb.arr w.comb), none, s.eng, s.lane, s.store⟩ := by
  have hcapped :
      writerView w.comb (cellCapped w s) = ⟨putSlot w 0 (s.comb.arr w.comb), none, s.eng, s.lane, s.store⟩ := by
    unfold writerView cellCapped
    exact congrArg (fun a : CombArr => WriterView.mk a.slots none s.eng s.lane s.store) (Comb.arr_putArr_self _ _ _)
  rw [← hcapped]
  obtain ⟨c, cell, kind, data⟩ := w
  cases kind with
  | queued => exact (writerView_makeFull c _).trans (writerView_announceLevel c _)
  | full => rfl
  | opening => exact writerView_epochOpened ⟨c, cell, .opening, data⟩ _

/-! ### Freeze (R380) -/

/-- The comb is frozen now. -/
def frozenNow (s : State) : State :=
  { s with comb := { s.comb with frzActive := true, state := .frozen, frzSince := s.clk.now, frzLost := 0 } }

section
variable {s : State} (hreq : s.comb.frzReq = true) (hactive : s.comb.frzActive = false) (hrun : s.comb.state = .running)
include hreq hactive hrun

theorem freezeActive_of_none (hprog : s.comb.prog = none) : freezeActive s = frozenNow s := by
  unfold freezeActive
  rw [if_pos ⟨hreq, hactive, hrun⟩, hprog]
  rfl

theorem freezeActive_of_some {w : InProg} (hprog : s.comb.prog = some w) : freezeActive s = frozenNow (finishCell w s) := by
  unfold freezeActive
  rw [if_pos ⟨hreq, hactive, hrun⟩, hprog]
  rfl

end

theorem exec_freezeActive {t : Nat} {s u : State} (hu : u = elapse t s) :
    exec (.freezeActive t) s = .next (freezeActive u) := by
  subst hu
  rfl

/-- A freeze that ends lets the comb run on, and tells of itself by a cell still to be written. -/
theorem endFreeze_of_frozen {s : State} (hactive : s.comb.frzActive = true) (hfrozen : s.comb.state = .frozen) :
    ∃ k, endFreeze s = { s with comb := k } ∧ k.frzActive = false ∧ k.frzReq = false ∧ k.state = .running
      ∧ k.c0 = s.comb.c0 ∧ k.c1 = s.comb.c1 ∧ k.c2 = s.comb.c2 := by
  simp only [endFreeze, hactive, hfrozen, Bool.not_true, Bool.false_eq_true, if_false, if_true]
  split
  · exact ⟨_, rfl, rfl, rfl, rfl, rfl, rfl, rfl⟩
  · exact ⟨_, rfl, rfl, rfl, rfl, rfl, rfl, rfl⟩

theorem exec_freezeTimeout {t : Nat} {s u : State} (hu : u = elapse t s) (hactive : u.comb.frzActive = true)
    (hlate : u.comb.frzSince + max 1 u.comb.frzMaxMs * 1000000 ≤ u.clk.now) :
    exec (.freezeTimeout t) s = .next (endFreeze u) := by
  subst hu
  simp only [exec, execFreezeTimeout, freezeTimeout, hactive, hlate, and_self, if_true]

theorem beginCell_eq (s : State) : beginCell s = { s with comb := { s.comb with prog := (beginCell s).comb.prog } } := by
  unfold beginCell
  split <;> rfl

/-- The writer takes up nothing while a cell is in progress or it may not program one; else the first cell it may. -/
theorem beginCell_prog (s : State) :
    (s.comb.prog.isSome = true → (beginCell s).comb.prog = s.comb.prog)
      ∧ (writerRuns s = false → (beginCell s).comb.prog = s.comb.prog)
      ∧ (s.comb.prog = none → writerRuns s = true → s.comb.frzReq = false →
          (beginCell s).comb.prog = nextCell s) := by
  refine ⟨fun hprog => ?_, fun hruns => ?_, fun hprog hruns hreq => ?_⟩
  · simp [beginCell, hprog]
  · simp [beginCell, hruns]
  · simp [beginCell, hprog, hruns, hreq]

/-- The state in which a freeze has been asked for, which the writer has noted with the cell it had taken up. -/
def freezeAsked (w : W32) (s : State) : State :=
  { s with comb := { s.comb with frzMaxMs := (w.extractLsb' 16 10).toNat, frzReq := true, prog := (beginCell s).comb.prog } }

theorem writeFreeze_of_request (h : HostId) {w : W32} {s : State} (hreq : w.getLsbD 0 = true) (hcrown : crowned s = false)
    (hclearing : anyClearing s.comb = false) (hfailed : s.comb.state ≠ .failed) :
    writeFreeze h w s = done (freezeAsked w s) := by
  have hms : bits w 25 16 = (w.extractLsb' 16 10).toNat := by simp [bits, Nat.shiftRight_eq_div_pow]
  have hstate : (s.comb.state == .failed) = false := beq_eq_false_iff_ne.mpr hfailed
  have hprog :
      (beginCell { s with comb := { s.comb with frzMaxMs := bits w 25 16 } }).comb.prog = (beginCell s).comb.prog := by
    unfold beginCell
    rw [apply_ite (fun s : State => s.comb.prog), apply_ite (fun s : State => s.comb.prog)]
    rfl
  simp only [writeFreeze, bit, hreq, hcrown, hclearing, hstate, Bool.or_self, Bool.and_false, Bool.false_eq_true, if_false,
    if_true]
  rw [beginCell_eq, hprog, hms]
  rfl

/-! ### Clearing (R368 to R370) -/

/-- The words of COMB_CLEAR that the two commands write. -/
theorem challengeWord_fields (m : BitVec 4) : (pack [(m.toNat, 0), (1, 4)]).extractLsb' 0 4 = m
    ∧ bit (pack [(m.toNat, 0), (1, 4)]) 4 = true ∧ bit (pack [(m.toNat, 0), (1, 4)]) 5 = false := by
  revert m
  decide

theorem goWord_fields (m : BitVec 4) : (pack [(m.toNat, 0), (1, 5)]).extractLsb' 0 4 = m
    ∧ bit (pack [(m.toNat, 0), (1, 5)]) 5 = true := by
  revert m
  decide

theorem writeClear_challenge (h : HostId) (m : BitVec 4) {s : State} (hscan : s.test.scanEn = false) :
    writeClear h (pack [(m.toNat, 0), (1, 4)]) s = done { s with
      comb := { s.comb with mask := m, chal := some (freshChallenge m.toNat s.comb.authOp s) }, free := s.free + 1 } := by
  obtain ⟨hmask, hbit4, hbit5⟩ := challengeWord_fields m
  simp only [writeClear, clearChallenge, hmask, hbit4, hbit5, hscan, Bool.false_eq_true, if_false, if_true]
  rfl

/-- The host's signature and the challenge in force authorise a clear of the mask (R368). -/
def clearAuthorised (m : BitVec 4) (s : State) : Bool :=
  challengeHolds s.comb.chal m.toNat s.comb.authOp s
    && Config.ecdsaVerify s.fuse.authKey (clearMessage s m s.comb.authOp) (sigBytes s.comb.sig)

/-- A challenge is used up by the GO that it was drawn for. -/
def challengeSpent (m : BitVec 4) (s : State) : State := { s with comb := { s.comb with mask := m, chal := none } }

/-- The combs a mask names open a new epoch. -/
def epochsOpened (m : BitVec 4) (c : Comb) : Comb :=
  { stopProg m c with
    clearOp := c.authOp, clearing := m
    c0 := if m.getLsbD 0 then openEpoch c.c0 else c.c0
    c1 := if m.getLsbD 1 then openEpoch c.c1 else c.c1
    c2 := if m.getLsbD 2 then openEpoch c.c2 else c.c2
    lw := if m.getLsbD 3 then openEpoch c.lw else c.lw }

/-- A GO that the state allows clears the combs of the mask when it is authorised, and else is recorded (R368, R370). -/
theorem writeClear_go (h : HostId) {m : BitVec 4} {s : State} (hallowed : clearForbidden s m = false) :
    writeClear h (pack [(m.toNat, 0), (1, 5)]) s =
      if clearAuthorised m s then done { s with comb := epochsOpened m (challengeSpent m s).comb }
      else (record 0 .combClearRefused [m.toNat, s.comb.authOp.toNat] (challengeSpent m s), stAuthFailed) := by
  obtain ⟨hmask, hbit5⟩ := goWord_fields m
  have hforbidden : clearForbidden { s with comb := { s.comb with mask := m } } m = false := hallowed
  simp only [writeClear, hmask, hbit5, clearGo, hforbidden, Bool.false_eq_true, if_false, if_true]
  change (if (!clearAuthorised m s) = true then _ else _) = _
  cases clearAuthorised m s <;> rfl

/-- A comb named by the mask is CLEARING in its next epoch; one not named stays as it is. -/
theorem openEpoch_if {named : Bool} {a b : CombArr} (hb : b = if named then openEpoch a else a) :
    (named = true → b.mode = .clearing ∧ b.epoch = a.epoch + 1 ∧ b.erasing = true) ∧ (named = false → b = a) := by
  subst hb
  cases named
  · exact ⟨nofun, fun _ => rfl⟩
  · exact ⟨fun _ => ⟨rfl, rfl, rfl⟩, nofun⟩

/-! ### The erase of a cleared comb (R370) -/

/-- The state in which the first blocks of comb c are erased. -/
def firstErased (c : Nat) (s : State) : State := { s with comb := s.comb.putArr c (eraseFirst c (s.comb.arr c)) }

/-- The EPOCH_OPEN cell that the writer makes of comb c. -/
def openingCell (c : Nat) (s : State) : Cell :=
  newCell (firstErased c s) 0x06 (.bytes 0x01 (epochOpen (firstErased c s) c (eraseFirst c (s.comb.arr c))))

theorem openingCell_seq (c : Nat) (s : State) : (openingCell c s).seq = s.comb.nextSeq := by
  simp [openingCell, newCell, firstErased]

/-- The state in which a cell that the writer has made takes the next sequence number. -/
def numberTaken (s : State) : State := { s with comb := { s.comb with nextSeq := (s.comb.nextSeq + 1) % 2 ^ 63 } }

theorem retireBlocks_nil (c : Nat) (s : State) : retireBlocks c [] s = s := by
  unfold retireBlocks
  split <;> rfl

/-- The writer is to make EPOCH_OPEN, for index 0 of a comb whose first blocks are erased. -/
theorem eraseDone_of_comb {c : Nat} {s : State} (hcomb : c ≠ 4) (herasing : (s.comb.arr c).erasing = true)
    (hown : s.comb.own = []) (hfailed : s.comb.state ≠ .failed) :
    ∃ k, eraseDone c [] s = { s with comb := k } ∧ k.own = [⟨c, openingCell c s, .opening, false⟩]
      ∧ k.nextSeq = (s.comb.nextSeq + 1) % 2 ^ 63 ∧ k.arr c = eraseFirst c (s.comb.arr c) := by
  have hstate : (s.comb.putArr c (eraseFirst c (s.comb.arr c))).state ≠ .failed := by simpa using hfailed
  have hmade : (s.comb.putArr c (eraseFirst c (s.comb.arr c))).own = [] := by simpa using hown
  have hnumber : (numberTaken (firstErased c s)).comb.nextSeq = (s.comb.nextSeq + 1) % 2 ^ 63 := by
    simp [numberTaken, firstErased]
  refine ⟨{ (numberTaken (firstErased c s)).comb with own := [⟨c, openingCell c s, .opening, false⟩] }, ?_, rfl,
    hnumber, Comb.arr_putArr_self ..⟩
  simp only [eraseDone, herasing, hown, retireBlocks_nil, List.any_nil, Bool.not_true, Bool.or_self, Bool.false_eq_true,
    hcomb, hstate, hmade, Comb.arr_putArr_self, List.nil_append, if_false]
  rfl

/-- Of a comb whose first blocks are erased no index below theirs stands (R350, R370). -/
theorem mem_eraseFirst_slots {c : Nat} {a : CombArr} {e : Nat × Slot} (he : e ∈ (eraseFirst c a).slots) :
    65536 ≤ e.1 ∧ e ∈ a.slots := by
  simp only [eraseFirst, List.mem_filter, decide_eq_true_eq] at he
  exact ⟨he.2.2, he.1⟩

theorem eraseDone_of_lastWords {s : State} (herasing : s.comb.lw.erasing = true) (hown : s.comb.own = []) :
    eraseDone 4 [] s = epochOpened ⟨4, openingCell 4 s, .opening, false⟩
      (cellCapped ⟨4, openingCell 4 s, .opening, false⟩ (numberTaken (firstErased 4 s))) := by
  have hlw : (s.comb.arr 4).erasing = true := herasing
  simp only [eraseDone, hlw, hown, retireBlocks_nil, List.any_nil, Bool.not_true, Bool.or_self, Bool.false_eq_true,
    if_false, if_true]
  rfl

/-- The last-words store records again once its EPOCH_OPEN cell stands. -/
theorem epochOpened_lastWords {w : InProg} (hcomb : w.comb = 4) (s : State) : ∃ k, epochOpened w s = { s with comb := k }
    ∧ k.lw = { s.comb.lw with erasing := false, mode := .recording } ∧ k.lwFull = false := by
  have hlw : (opened w s).comb.lw = { s.comb.lw with erasing := false, mode := .recording } := by
    simp only [opened, openedArr, hcomb, if_true]
    rfl
  have hfull : (opened w s).comb.lwFull = false := if_pos hcomb
  rw [epochOpened_eq_stepIf]
  unfold stepIf
  split
  · rw [recordOwn, enqueue_eq]
    exact ⟨_, rfl, by simpa using hlw, by simpa using hfull⟩
  · exact ⟨_, rfl, hlw, hfull⟩

/-- The last-words store, an MRAM, is erased whole, and its EPOCH_OPEN cell stands at once (R370). -/
theorem eraseDone_lastWords_comb {s : State} (herasing : s.comb.lw.erasing = true) (hown : s.comb.own = []) :
    ∃ k, eraseDone 4 [] s = { s with comb := k } ∧ k.lw.slots = [(0, ⟨openingCell 4 s, s.comb.lw.epoch, 0, false⟩)]
      ∧ k.lw.count = 1 ∧ k.lw.erasing = false ∧ k.lwFull = false := by
  obtain ⟨k, hstate, hlw, hfull⟩ := epochOpened_lastWords (w := ⟨4, openingCell 4 s, .opening, false⟩) rfl
    (cellCapped ⟨4, openingCell 4 s, .opening, false⟩ (numberTaken (firstErased 4 s)))
  have herased : (eraseFirst 4 s.comb.lw).slots = [] := by simp [eraseFirst]
  have hslots : putSlot ⟨4, openingCell 4 s, .opening, false⟩ 0 (eraseFirst 4 s.comb.lw)
      = [(0, ⟨openingCell 4 s, s.comb.lw.epoch, 0, false⟩)] := by
    rw [putSlot, herased]
    rfl
  have hrest (w : InProg) (v : State) : ({ cellCapped w v with comb := k } : State) = { v with comb := k } := rfl
  refine ⟨k, (eraseDone_of_lastWords herasing hown).trans (hstate.trans (hrest _ _)), ?_, ?_, ?_, hfull⟩
  · rw [hlw]
    exact hslots
  · rw [hlw]
    rfl
  · rw [hlw]

theorem exec_clearInitialEraseDone {t : Nat} {s u : State} (hu : u = elapse t s) (a : Fin 4) :
    exec (.clearInitialEraseDone t a []) s = .next (eraseDone (if a = 3 then 4 else a) [] u) := by
  subst hu
  rfl

theorem clearComplete_of_erased {c : Nat} {s : State} (hmode : (s.comb.arr c).mode = .clearing)
    (herasing : (s.comb.arr c).erasing = false) : clearComplete c [] s
      = { s with comb := s.comb.putArr c { eraseFormer (s.comb.arr c) with mode := .recording } } := by
  simp only [clearComplete, hmode, herasing, and_self, if_true, retireBlocks_nil]

/-- Settles O45: each command by its rule, the freeze by what the end of a cell leaves of its comb. -/
theorem combHostCommands : Obligations.CombHostCommands := by
  unfold Obligations.CombHostCommands
  refine ⟨fun t h w s u hu hserved hreq hcrown hclearing hfailed => ?freezeAsked,
    fun t s u hu hreq hactive hrun => ⟨fun hprog => ?frozenIdle, fun w hprog => ?frozenWriting⟩,
    fun t s u hu hactive hfrozen hlate => ?freezeEnds, fun t h m s u hu hserved hscan => ?challenge,
    fun t h m s u hu hserved hallowed => ?go, fun t a s u hu hcomb herasing hown hfailed => ?erased,
    fun t s u hu herasing hown => ?erasedLastWords, fun t i s u hu hmode herasing => ?cleared,
    fun t h m s u hu hserved => ?snapshot, fun t comb first last conn s u hu hopen hrunning => ?stream,
    fun t h s u hu hserved => ?read⟩
  case freezeAsked =>
    obtain ⟨p, hstate, hanswer⟩ :=
      hostWrite_of_result h hserved (writeFreeze_of_request h hreq hcrown hclearing hfailed) rfl
    obtain ⟨hkept, hstopped, hnext⟩ := beginCell_prog u
    subst hu
    exact ⟨_, p, congrArg Host.Outcome.next hstate, hkept, hstopped, hnext, hanswer⟩
  case frozenIdle =>
    rw [exec_freezeActive hu, freezeActive_of_none hreq hactive hrun hprog]
    rfl
  case frozenWriting =>
    refine ⟨_, (exec_freezeActive hu).trans (congrArg _ (freezeActive_of_some hreq hactive hrun hprog)), rfl, rfl, ?_⟩
    obtain ⟨hslots, hidle, heng, hlane, hstore⟩ := WriterView.mk.inj (writerView_finishCell w u)
    refine ⟨hidle, ?_, heng, hlane, hstore⟩
    exact (congrArg (kvGet · _) hslots).trans (by rw [putSlot, kvGet_kvPut, if_pos rfl])
  case freezeEnds =>
    obtain ⟨k, hstate, hfacts⟩ := endFreeze_of_frozen hactive hfrozen
    exact ⟨k, (exec_freezeTimeout hu hactive hlate).trans (congrArg _ hstate), hfacts⟩
  case challenge =>
    obtain ⟨p, hstate, hanswer⟩ := hostWrite_of_result h hserved (writeClear_challenge h m hscan) rfl
    subst hu
    exact ⟨_, p, congrArg Host.Outcome.next hstate, hanswer, rfl, rfl, rfl⟩
  case go =>
    cases hauth : clearAuthorised m u with
    | true =>
      obtain ⟨p, hstate, hanswer⟩ := hostWrite_of_result h hserved ((writeClear_go h hallowed).trans (if_pos hauth)) rfl
      refine ⟨epochsOpened m (challengeSpent m u).comb, p, ?_, rfl, rfl, ?_⟩
      · subst hu
        exact congrArg Host.Outcome.next hstate
      obtain ⟨hopen0, hkept0⟩ := openEpoch_if (named := m.getLsbD 0) (a := u.comb.c0) rfl
      obtain ⟨hopen1, hkept1⟩ := openEpoch_if (named := m.getLsbD 1) (a := u.comb.c1) rfl
      obtain ⟨hopen2, hkept2⟩ := openEpoch_if (named := m.getLsbD 2) (a := u.comb.c2) rfl
      obtain ⟨hopen3, hkept3⟩ := openEpoch_if (named := m.getLsbD 3) (a := u.comb.lw) rfl
      rw [clearAuthorised] at hauth
      rw [if_pos hauth]
      exact ⟨hanswer, rfl, rfl, hopen0, hkept0, hopen1, hkept1, hopen2, hkept2, hkept3,
        fun hnamed => (hopen3 hnamed).imp_right And.left⟩
    | false =>
      obtain ⟨p, hstate, hanswer⟩ := hostWrite_of_result h hserved
        ((writeClear_go h hallowed).trans (if_neg (by simp [hauth]))) (by simp [challengeSpent])
      rw [record_eq] at hstate
      rw [clearAuthorised] at hauth
      refine ⟨(record 0 .combClearRefused [m.toNat, u.comb.authOp.toNat] (challengeSpent m u)).comb, p, ?_,
        by simp [record, challengeSpent], by simp [record, challengeSpent], ?_⟩
      · subst hu
        exact congrArg Host.Outcome.next hstate
      rw [if_neg (by simp [hauth])]
      exact ⟨hanswer, by simp [record, challengeSpent]⟩
  case erased =>
    obtain ⟨k, hstate, hmade, hnumber, harr⟩ := eraseDone_of_comb (c := a.val) (by omega) herasing hown hfailed
    refine ⟨k, openingCell a u, ?_, hmade, rfl, openingCell_seq a u, hnumber, ?_, ?_, fun e he => ?_⟩
    · rw [exec_clearInitialEraseDone hu a, if_neg hcomb, hstate]
    · rw [harr]
      rfl
    · rw [harr]
      rfl
    · rw [harr] at he
      exact mem_eraseFirst_slots he
  case erasedLastWords =>
    obtain ⟨k, hstate, hslots, hcount, hdone, hfull⟩ := eraseDone_lastWords_comb herasing hown
    exact ⟨k, _, (exec_clearInitialEraseDone hu 3).trans (congrArg _ hstate), hslots, hcount, hdone, hfull, rfl, rfl⟩
  case cleared =>
    subst hu
    exact congrArg Host.Outcome.next (clearComplete_of_erased hmode herasing)
  case snapshot =>
    obtain ⟨p, hstate, hanswer⟩ := hostWrite_of_result (f := fun s => done (snapTrigger m s)) h hserved rfl rfl
    subst hu
    exact ⟨p, congrArg Host.Outcome.next hstate, hanswer⟩
  case stream =>
    subst hu
    simp only [exec, execCombStreamRequest, hopen, hrunning, and_self, if_true]
  case read =>
    obtain ⟨p, hstate, hanswer⟩ := answerRead_answers h 0x0E0004 (combSeqLo u).2 (combSeqLo u).1
    refine ⟨p, ?_, by simpa [combSeqLo] using hanswer⟩
    subst hu
    simp only [exec, execCombSeqLoRead, hostRead_of_served h _ hserved, hstate]
    rfl

end Sys2Proof.Machine

/-! Time-keeping (R368, R493, R525 to R532): what a setter leaves of the clocks, what the minute's update counts, and the
rule of each command. -/
namespace Sys2Proof.Machine

/-! ### The clocks' own commands (R525, R526, R530) -/

theorem exec_lifeClockCalibrate {t : Nat} {s u : State} (ppb : Int) (hu : u = elapse t s) (hpowered : u.rst.powered = true) :
    exec (.lifeClockCalibrate t ppb) s = .next { u with clk := { u.clk with lifePpb := clampI 200000 ppb } } := by
  subst hu
  simp only [exec, execLifeClockCalibrate, hpowered, if_true]

@[simp] theorem addPart_countedAt (i unit dt : Nat) (k : Keep) : (addPart i unit dt k).countedAt = k.countedAt := rfl

/-- The update changes the keep domain alone, and no counter takes what is counted now again. -/
theorem updateCounters_eq (s : State) : ∃ k, updateCounters s = { s with keep := k } ∧ k.countedAt = s.clk.lifeUs := by
  refine ⟨_, rfl, ?_⟩
  simp only [apply_ite Keep.countedAt, addPart_countedAt, ite_self]

/-- While nothing that R530 counts runs, no counter moves. -/
theorem updateCounters_of_idle {s : State} (hpowered : s.rst.powered = false) (hinput : inputUsable s = false)
    (hcrown : crowned s = false) (hmode : s.vote.mode ≠ .degraded) :
    updateCounters s = { s with keep := { s.keep with countedAt := s.clk.lifeUs } } := by
  simp [updateCounters, hpowered, hinput, hcrown, hmode]

/-! ### Challenges (R368, R507) -/

/-- The challenges that are left are those from before whose time is not over. -/
theorem eq_and_lt_of_filter_upTo {now : Nat} {c : Option Challenge} {y : Challenge}
    (h : c.filter (fun x => decide (now < x.upTo)) = some y) : c = some y ∧ now < y.upTo := by
  simpa [Option.filter_eq_some_iff] using h

/-! ### The calendar's setters (R527 to R529) -/

theorem setCalendar_clk (setter new : Nat) (s : State) : (setCalendar setter new s).clk =
    { s.clk with calNs := new, calFrac := 0, calValid := true, calSetter := setter } := by
  unfold setCalendar
  dsimp only
  split
  · simp
  · rfl

/-- What an answered set of the calendar leaves of the clocks. It speaks of any value set: the kernel must not compute with a
host's seconds and nanoseconds. -/
theorem answered_setCalendar {setter new : Nat} {p : Hp} {s v : State} (hv : v = { setCalendar setter new s with hp := p }) :
    v.clk = { s.clk with calNs := new, calFrac := 0, calValid := true, calSetter := setter }
      ∧ v.keep = s.keep ∧ v.eng = s.eng := by
  subst hv
  exact ⟨setCalendar_clk .., by simp, by simp⟩

theorem exec_tkCalSet {t : Nat} {h : HostId} {s u : State} (hu : u = elapse t s) (hserved : Served 0x140020 u)
    (hns : u.tk.setNs.toNat ≤ 999999999) (hallowed : setForbidden u = false) :
    ∃ v p, exec (.tkCalSet t h) s = .next v ∧ Answers h 0 [] v.hp ∧ v = { setCalendar 0
      ((u.tk.setHi.toNat * 2 ^ 32 + u.tk.setLo.toNat) * 1000000000 + u.tk.setNs.toNat) u with hp := p } := by
  have hset : tkCtl h 1 u = done (setCalendar 0
      ((u.tk.setHi.toNat * 2 ^ 32 + u.tk.setLo.toNat) * 1000000000 + u.tk.setNs.toNat) u) := by
    simp [tkCtl, bit, Nat.not_lt.mpr hns, hallowed]
  obtain ⟨p, hstate, hanswer⟩ := hostWrite_of_result h hserved hset (by simp)
  subst hu
  exact ⟨_, p, congrArg Host.Outcome.next hstate, hanswer, rfl⟩

theorem exec_calendarStepAtSecond {t due : Nat} {d : Int} {s u : State} (hu : u = elapse t s)
    (hstep : u.eth.ptpStep = some (d, due)) (hdue : due ≤ u.clk.calNs) (hfree : setTaken true u = false) :
    exec (.calendarStepAtSecond t) s
      = .next (setCalendar 2 ((u.clk.calNs : Int) + d).toNat { u with eth := { u.eth with ptpStep := none } }) := by
  have htaken : setTaken true { u with eth := { u.eth with ptpStep := none } } = false := hfree
  subst hu
  simp only [exec, execCalendarStepAtSecond, applyPtpStep, hstep, Nat.not_lt.mpr hdue, htaken, if_false,
    Bool.false_eq_true]

/-! ### PTP (R416, R528) -/

theorem setPtpLock_eq (on : Bool) (s : State) :
    ∃ e, setPtpLock on s = { s with eth := { s.eth with ptpLock := on }, evr := e } := by
  unfold setPtpLock
  split
  · next hsame => exact ⟨s.evr, by rw [← hsame]⟩
  · rw [fire_eq]
    exact ⟨_, rfl⟩

theorem natAbs_clampI_le (m : Nat) (a : Int) : (clampI m a).natAbs ≤ m := by
  unfold clampI
  omega

/-- A master's message that moves no currentUtcOffset locks the calendar to it, and leaves a slew or a step due. -/
theorem steer_eq {off utc : Int} {s : State} (hutc : s.eth.ptpSeen = true → s.eth.ptpUtc = utc) :
    ∃ e, steer off utc s = { s with
      evr := e
      eth := { s.eth with
        ptpLock := true, ptpOff := BitVec.ofInt 32 off, ptpUtc := utc, ptpSeen := true
        ptpStep := if 1000000 < off.natAbs then some (-off, (s.clk.calNs / 1000000000 + 1) * 1000000000) else s.eth.ptpStep }
      clk := if 1000000 < off.natAbs then s.clk
        else { s.clk with calPpb := clampI 500000 (Config.slewPpb 4 off) } } := by
  obtain ⟨e, hlock⟩ := setPtpLock_eq true s
  have hmoved : (s.eth.ptpSeen && s.eth.ptpUtc != utc) = false := by
    cases hseen : s.eth.ptpSeen
    · rfl
    · simp [hutc hseen]
  refine ⟨e, ?_⟩
  simp only [steer, hlock, hmoved, Bool.false_or, decide_eq_true_eq]
  split <;> rfl

theorem exec_ptpMessage {t : Nat} {off utc : Int} {s u : State} (hu : u = elapse t s) (hruns : ethRuns u = true)
    (hon : u.eth.ptpOn = true) : exec (.ptpMessage t off utc) s = .next (steer off utc u) := by
  subst hu
  simp only [exec, execPtpMessage, hruns, hon, Bool.and_self, if_true]

/-! ### Reads that latch (R493, R532) -/

theorem exec_tkLoRead {t : Nat} {h : HostId} {b : Bool} {s u : State} (hu : u = elapse t s)
    (hserved : Served (if b then 0x140008 else 0x140000) u) :
    ∃ p, exec (.tkLoRead t h b) s = .next { (tkLo b u).1 with hp := p }
      ∧ Answers h 0 (leBytes 4 (tkLo b u).2.toNat) p := by
  obtain ⟨p, hstate, hanswer⟩ := answerRead_answers h (if b then 0x140008 else 0x140000) (tkLo b u).2 (tkLo b u).1
  refine ⟨p, ?_, hanswer⟩
  subst hu
  simp only [exec, execTkLoRead, hostRead_of_served h _ hserved, hstate]

theorem exec_setIdLoRead {t : Nat} {h : HostId} {b : Bool} {s u : State} (hu : u = elapse t s)
    (hserved : Served (if b then 0x020110 else 0x020108) u) :
    ∃ p, exec (.setIdLoRead t h b) s = .next { (setIdLo b u).1 with hp := p }
      ∧ Answers h 0 (leBytes 4 (setIdLo b u).2.toNat) p := by
  obtain ⟨p, hstate, hanswer⟩ := answerRead_answers h (if b then 0x020110 else 0x020108) (setIdLo b u).2 (setIdLo b u).1
  refine ⟨p, ?_, hanswer⟩
  subst hu
  simp only [exec, execSetIdLoRead, hostRead_of_served h _ hserved, hstate]

/-- Settles O58: the clocks and counters by what each update leaves, the calendar by its setters, the reads by their
latches. -/
theorem clocksAndCounters : Obligations.ClocksAndCounters := by
  unfold Obligations.ClocksAndCounters
  refine ⟨fun t s u hu => ⟨fun ppb hpowered => exec_lifeClockCalibrate ppb hu hpowered, ?checkpoint, ?counters,
      ?challenges, fun hlock => ?lockLoss⟩,
    fun t h s u hu hserved hns hallowed => ?calendarSet, fun t off utc s u hu hruns hon hutc => ?ptp,
    fun t due d s u hu hstep hdue hfree => ?calendarStep,
    fun t h b s u hu => ⟨fun hserved => ?timeRead, fun hserved => ?settingsRead⟩⟩
  case checkpoint =>
    subst hu
    rfl
  case counters =>
    obtain ⟨k, hstate, hcounted⟩ := updateCounters_eq u
    refine ⟨k, ?_, hcounted, fun hpowered hinput hcrown hmode => ?_⟩
    · rw [← hstate, hu]
      rfl
    · exact congrArg State.keep (hstate.symm.trans (updateCounters_of_idle hpowered hinput hcrown hmode))
  case challenges =>
    subst hu
    exact ⟨_, _, _, rfl, rfl, fun _ => eq_and_lt_of_filter_upTo, fun _ => eq_and_lt_of_filter_upTo,
      fun _ => eq_and_lt_of_filter_upTo⟩
  case lockLoss =>
    obtain ⟨e, hstate⟩ := setPtpLock_eq false u
    refine ⟨e, ?_⟩
    subst hu
    simp only [exec, execPtpLockLoss, hstate]
  case calendarSet =>
    obtain ⟨v, p, hexec, hanswer, hv⟩ := exec_tkCalSet hu hserved hns hallowed
    exact ⟨v, hexec, hanswer, answered_setCalendar hv⟩
  case ptp =>
    obtain ⟨e, hstate⟩ := steer_eq (off := off) hutc
    refine ⟨_, _, e, (exec_ptpMessage hu hruns hon).trans (congrArg _ hstate), rfl, rfl, ?_, ?_, fun hnear => ?_,
      fun hfar => ?_⟩
    · split <;> rfl
    · split <;> rfl
    · simp only [Nat.not_lt.mpr hnear, if_false, and_true]
      exact natAbs_clampI_le 500000 _
    · simp only [hfar, if_true, and_self]
  case calendarStep =>
    exact ⟨_, exec_calendarStepAtSecond hu hstep hdue hfree, by simp, setCalendar_clk .., by simp, by simp⟩
  case timeRead =>
    obtain ⟨p, hexec, hanswer⟩ := exec_tkLoRead hu hserved
    refine ⟨(tkLo b u).1.tk, p, hexec.trans ?_, ?_, ?_⟩
    · cases b <;> rfl
    · cases b <;> simpa [tkLo] using hanswer
    · rintro rfl
      rfl
  case settingsRead =>
    obtain ⟨p, hexec, hanswer⟩ := exec_setIdLoRead hu hserved
    refine ⟨(setIdLo b u).1.set, p, hexec.trans ?_, ?_, ?_⟩
    · cases b <;> rfl
    · cases b <;> simpa [setIdLo] using hanswer
    · cases b <;> rfl

end Sys2Proof.Machine

/-! What no command writes (log entries 2, 5), and the code store, which five commands write: a view of the state and what
each operation does to it. -/
namespace Sys2Proof.Machine

/-- What no command writes, the waiting commands and the fuses, with the code store. -/
def kept (s : State) : List Instr × Fuse × List Host.Cell := (s.pending, s.fuse, s.store)

/-- The parts of the view make the view again. Here and below `(rfl)` makes a rule of rewriting: the kernel then need not
compare the states' other parts. -/
@[simp] theorem kept_fold (s : State) : (s.pending, s.fuse, s.store) = kept s := (rfl)

@[simp] theorem kept_mk {ring tb tg wp door crown pl px keep clk lane eng st bank ret glb cyc vote vin comb evr rst opt hp dir set
    upd port chk store free eth test wk tk pwr pending fuse setAt} :
    kept ⟨ring, tb, tg, wp, door, crown, pl, px, keep, clk, lane, eng, st, bank, ret, glb, cyc, vote, vin, comb, evr, rst, opt,
      hp, dir, set, upd, port, chk, store, free, eth, test, wk, tk, pwr, pending, fuse, setAt⟩ = (pending, fuse, store) := (rfl)

@[simp] theorem kept_ite (c : Prop) [Decidable c] (s t : State) :
    kept (if c then s else t) = if c then kept s else kept t := apply_ite kept c s t

@[simp] theorem kept_foldl {α : Type} {f : State → α → State} (hf : ∀ s x, kept (f s x) = kept s) (l : List α) (s : State) :
    kept (l.foldl f s) = kept s := by
  induction l generalizing s with
  | nil => rfl
  | cons x l ih => rw [List.foldl_cons, ih, hf]

/-! ### Clocks and status flags -/

@[simp] theorem kept_elapse (t : Nat) (s : State) : kept (elapse t s) = kept s := by simp [elapse]
@[simp] theorem kept_markSet (key : Nat) (s : State) : kept (markSet key s) = kept s := by simp [markSet]
@[simp] theorem kept_markIf (b : Bool) (key : Nat) (s : State) : kept (markIf b key s) = kept s := by simp [markIf]

/-! ### Event sources and comb cells -/

@[simp] theorem kept_putSource (s : State) (n : Nat) (x : Source) :
    kept (putSource s n x) = kept s := by simp [putSource]

@[simp] theorem kept_fire (n : Nat) (s : State) : kept (fire n s) = kept s := by simp [fire]
@[simp] theorem kept_fireIf (b : Bool) (n : Nat) (s : State) : kept (fireIf b n s) = kept s := by simp [fireIf]

@[simp] theorem kept_enqueue (s : State) (i source : Nat) (p : Payload) :
    kept (enqueue s i source p) = kept s := by simp [enqueue]

@[simp] theorem kept_record (i : Nat) (n : Note) (vals : List Nat) (s : State) :
    kept (record i n vals s) = kept s := by simp [record]

@[simp] theorem kept_recordOwn (i typ : Nat) (b : List Byte) (s : State) :
    kept (recordOwn i typ b s) = kept s := by simp [recordOwn]

@[simp] theorem kept_recordIf (b : Bool) (i : Nat) (n : Note) (vals : List Nat) (s : State) :
    kept (recordIf b i n vals s) = kept s := by simp [recordIf]

/-! ### Lane states -/

@[simp] theorem kept_updLane (l : Lane) (f : LaneRegs → LaneRegs) (s : State) :
    kept (updLane l f s) = kept s := by simp [updLane]

@[simp] theorem kept_setLState (l : Lane) (x : LState) (s : State) :
    kept (setLState l x s) = kept s := by simp [setLState]

@[simp] theorem kept_failRejoin (s : State) : kept (failRejoin s) = kept s := by
  unfold failRejoin
  split <;> simp

@[simp] theorem kept_excludeLane (l : Lane) (s : State) : kept (excludeLane l s) = kept s := by simp [excludeLane]

@[simp] theorem kept_laneFault (l : Lane) (k : Nat) (s : State) : kept (laneFault l k s) = kept s := by
  unfold laneFault
  dsimp only
  (repeat' split) <;> simp

@[simp] theorem kept_updSlot (l : Lane) (slot : Bool) (f : RetCopy → RetCopy) (s : State) :
    kept (updSlot l slot f s) = kept s := by simp [updSlot]

/-! ### Answers and refusals -/

@[simp] theorem kept_reply (h : HostId) (opcode : Byte) (addr status : Nat) (data : List Byte) (s : State) :
    kept (reply h opcode addr status data s) = kept s := by simp [reply]

@[simp] theorem kept_hpError (f : Hp → Hp) (s : State) : kept (hpError f s) = kept s := by simp [hpError]

@[simp] theorem kept_refusalCell (typ who : Nat) (s : State) : kept (refusalCell typ who s) = kept s := by
  unfold refusalCell
  split <;> simp

@[simp] theorem kept_hostRefused (typ : Nat) (h : HostId) (s : State) :
    kept (hostRefused typ h s).1 = kept s := by simp [hostRefused]

@[simp] theorem kept_done (s : State) : kept (done s).1 = kept s := by simp [done]

@[simp] theorem kept_answerRead (h : HostId) (addr : Nat) (w : W32) (s : State) :
    kept (answerRead h addr w s) = kept s := by simp [answerRead]

@[simp] theorem kept_silentPort (s : State) : kept (silentPort s) = kept s := by simp [silentPort]
@[simp] theorem kept_answerWrite (h : HostId) (addr : Nat) (r : State × Nat) : kept (answerWrite h addr r) = kept r.1 := by simp [answerWrite]

@[simp] theorem kept_hostWrite {f : State → State × Nat} (h : HostId) (addr : Nat) (s : State) (hf : kept (f s).1 = kept s) :
    kept (hostWrite h addr f s) = kept s := by
  unfold hostWrite
  split
  · simp
  · split <;> simp [hf]

@[simp] theorem kept_hostRead {f : State → State × W32} (h : HostId) (addr : Nat) (s : State) (hf : kept (f s).1 = kept s) :
    kept (hostRead h addr f s) = kept s := by
  unfold hostRead
  split
  · simp
  · split <;> simp [hf]

@[simp] theorem kept_spendOnce (point : Nat) (s : State) : kept (spendOnce point s) = kept s := by simp [spendOnce]

/-! ### The comb -/

@[simp] theorem kept_announceLevel (c : Nat) (s : State) : kept (announceLevel c s) = kept s := by simp [announceLevel]
@[simp] theorem kept_makeFull (c : Nat) (s : State) : kept (makeFull c s) = kept s := by simp [makeFull]

@[simp] theorem kept_failComb (reason c idx : Nat) (s : State) :
    kept (failComb reason c idx s) = kept s := by simp [failComb]

@[simp] theorem kept_raiseMargin (item value : Nat) (f : Plan → Plan) (s : State) :
    kept (raiseMargin item value f s) = kept s := by simp [raiseMargin]

@[simp] theorem kept_takeCombSpare (s : State) : kept (takeCombSpare s) = kept s := by simp [takeCombSpare]
@[simp] theorem kept_noteRewrite (s : State) : kept (noteRewrite s) = kept s := by simp [noteRewrite]

@[simp] theorem kept_retireCombBlock (c idx : Nat) (s : State) :
    kept (retireCombBlock c idx s) = kept s := by simp [retireCombBlock]

@[simp] theorem kept_beginCell (s : State) : kept (beginCell s) = kept s := by simp [beginCell]
@[simp] theorem kept_epochOpened (w : InProg) (s : State) : kept (epochOpened w s) = kept s := by simp [epochOpened]

@[simp] theorem kept_finishCell (w : InProg) (s : State) : kept (finishCell w s) = kept s := by
  unfold finishCell
  split <;> simp

@[simp] theorem kept_leaveCell (w : InProg) (cap : W32) (s : State) :
    kept (leaveCell w cap s) = kept s := by simp [leaveCell]

@[simp] theorem kept_failCell (w : InProg) (cap : W32) (s : State) :
    kept (failCell w cap s) = kept s := by simp [failCell]

@[simp] theorem kept_dataWritten (w : InProg) (s : State) : kept (dataWritten w s) = kept s := by simp [dataWritten]

@[simp] theorem kept_programEnds (w : InProg) (how : ProgramEnd) (s : State) : kept (programEnds w how s) = kept s := by
  unfold programEnds
  split <;> simp

@[simp] theorem kept_writeCell (how : ProgramEnd) (s : State) : kept (writeCell how s) = kept s := by
  unfold writeCell
  dsimp only
  (repeat' split) <;> simp

@[simp] theorem kept_abandonCell (s : State) : kept (abandonCell s) = kept s := by
  unfold abandonCell
  dsimp only
  split <;> simp

@[simp] theorem kept_lossCell (s : State) : kept (lossCell s) = kept s := by simp [lossCell]
@[simp] theorem kept_scanDone (found : Bool) (s : State) : kept (scanDone found s) = kept s := by simp [scanDone]
@[simp] theorem kept_endFreeze (s : State) : kept (endFreeze s) = kept s := by simp [endFreeze]

@[simp] theorem kept_writeFreeze (h : HostId) (w : W32) (s : State) : kept (writeFreeze h w s).1 = kept s := by
  unfold writeFreeze
  dsimp only
  (repeat' split) <;> simp

@[simp] theorem kept_freezeActive (s : State) : kept (freezeActive s) = kept s := by
  unfold freezeActive
  dsimp only
  (repeat' split) <;> simp

@[simp] theorem kept_freezeTimeout (s : State) : kept (freezeTimeout s) = kept s := by simp [freezeTimeout]

@[simp] theorem kept_clearGo (h : HostId) (s : State) : kept (clearGo h s).1 = kept s := by
  unfold clearGo
  dsimp only
  (repeat' split) <;> simp

@[simp] theorem kept_clearChallenge (h : HostId) (s : State) : kept (clearChallenge h s).1 = kept s := by
  unfold clearChallenge
  split <;> simp

@[simp] theorem kept_writeClear (h : HostId) (w : W32) (s : State) : kept (writeClear h w s).1 = kept s := by
  unfold writeClear
  dsimp only
  (repeat' split) <;> simp

@[simp] theorem kept_retireBlocks (c : Nat) (failed : List Nat) (s : State) :
    kept (retireBlocks c failed s) = kept s := by simp [retireBlocks]

@[simp] theorem kept_eraseDone (c : Nat) (failed : List Nat) (s : State) :
    kept (eraseDone c failed s) = kept s := by simp [eraseDone]

@[simp] theorem kept_clearComplete (c : Nat) (failed : List Nat) (s : State) :
    kept (clearComplete c failed s) = kept s := by simp [clearComplete]

@[simp] theorem kept_snapTrigger (m : BitVec 4) (s : State) : kept (snapTrigger m s) = kept s := by simp [snapTrigger]

/-! ### Records sent and resets -/

@[simp] theorem kept_send (r : PlOut) (s : State) : kept (send r s) = kept s := by simp [send]

@[simp] theorem kept_resetModule (k0 : Keep) (codes : List Nat) (s : State) :
    kept (resetModule k0 codes s) = kept s := by simp [resetModule]

@[simp] theorem kept_setCrown (x : CrownState) (s : State) : kept (setCrown x s) = kept s := by simp [setCrown]
@[simp] theorem kept_leaveDual (r : Ring) (s : State) : kept (leaveDual r s) = kept s := by simp [leaveDual]
@[simp] theorem kept_leaveDualAll (s : State) : kept (leaveDualAll s) = kept s := by simp [leaveDualAll]
@[simp] theorem kept_quitCrown (s : State) : kept (quitCrown s) = kept s := by simp [quitCrown]

@[simp] theorem kept_moduleReset (codes : List Nat) (s : State) :
    kept (moduleReset codes s) = kept s := by simp [moduleReset]

@[simp] theorem kept_releaseAndReset (code : Nat) (s : State) :
    kept (releaseAndReset code s) = kept s := by simp [releaseAndReset]

@[simp] theorem kept_laneReset (c : Nat) (l : Lane) (s : State) : kept (laneReset c l s) = kept s := by simp [laneReset]
@[simp] theorem kept_crownOff (s : State) : kept (crownOff s) = kept s := by simp [crownOff]

/-! ### The reflex -/

@[simp] theorem kept_setPermits (s : State) : kept (setPermits s) = kept s := by simp [setPermits]
@[simp] theorem kept_dropPermits (s : State) : kept (dropPermits s) = kept s := by simp [dropPermits]
@[simp] theorem kept_halt (code : Nat) (s : State) : kept (halt code s) = kept s := by simp [halt]
@[simp] theorem kept_noteSrc (code : Nat) (s : State) : kept (noteSrc code s) = kept s := by simp [noteSrc]

@[simp] theorem kept_laneReflex (code : Nat) (l : Lane) (s : State) :
    kept (laneReflex code l s) = kept s := by simp [laneReflex]

@[simp] theorem kept_noteFirst (code : Nat) (s : State) : kept (noteFirst code s) = kept s := by simp [noteFirst]

@[simp] theorem kept_moduleReflex (code : Nat) (s : State) :
    kept (moduleReflex code s) = kept s := by simp [moduleReflex]

@[simp] theorem kept_writeCheckpoint (s : State) : kept (writeCheckpoint s) = kept s := by simp [writeCheckpoint]
@[simp] theorem kept_loseSupply (s : State) : kept (loseSupply s) = kept s := by simp [loseSupply]

@[simp] theorem kept_permitReadback (l : Lane) (s : State) :
    kept (permitReadback l s) = kept s := by simp [permitReadback]

@[simp] theorem kept_guardianFault (r : Ring) (s : State) : kept (guardianFault r s) = kept s := by simp [guardianFault]
@[simp] theorem kept_reflex (code : Nat) (l : Lane) (s : State) : kept (reflex code l s) = kept s := by simp [reflex]
@[simp] theorem kept_settleHalt (s : State) : kept (settleHalt s) = kept s := by simp [settleHalt]

/-! ### The end of an update session -/

@[simp] theorem kept_updSend (src : UpdSrc) (m : List Byte) (s : State) : kept (updSend src m s) = kept s := by
  unfold updSend
  split <;> simp

@[simp] theorem kept_releaseLock (ok : Bool) (status : Nat) (s : State) :
    kept (releaseLock ok status s) = kept s := by simp [releaseLock]

@[simp] theorem kept_abortSession (status : Nat) (s : State) : kept (abortSession status s) = kept s := by
  unfold abortSession
  split <;> simp

@[simp] theorem kept_resultSession (status : Nat) (s : State) : kept (resultSession status s) = kept s := by
  unfold resultSession
  split <;> simp

/-! ### The crown unit -/

@[simp] theorem kept_enterOut (s : State) : kept (enterOut s) = kept s := by simp [enterOut]
@[simp] theorem kept_enterSeeking (s : State) : kept (enterSeeking s) = kept s := by simp [enterSeeking]
@[simp] theorem kept_seeEpoch (e : W32) (s : State) : kept (seeEpoch e s) = kept s := by simp [seeEpoch]
@[simp] theorem kept_bumpCounter (i : Nat) (s : State) : kept (bumpCounter i s) = kept s := by simp [bumpCounter]

@[simp] theorem kept_setPx (x : PxState) (reason : Nat) (s : State) :
    kept (setPx x reason s) = kept s := by simp [setPx]

@[simp] theorem kept_unstage (s : State) : kept (unstage s) = kept s := by simp [unstage]
@[simp] theorem kept_cancelPx (reason : Nat) (s : State) : kept (cancelPx reason s) = kept s := by simp [cancelPx]

@[simp] theorem kept_seqJump (s : State) : kept (seqJump s) = kept s := by
  unfold seqJump
  split <;> simp

@[simp] theorem kept_takeRcv {f : State → State} (x : Rcv) (s : State) (hf : ∀ u, kept (f u) = kept u) :
    kept (takeRcv x f s) = kept s := by
  simp [takeRcv, hf]

@[simp] theorem kept_takeTwin {α : Type} [DecidableEq α] {f : α → State → State} (x : Twin α) (s : State)
    (hf : ∀ a u, kept (f a u) = kept u) : kept (takeTwin x f s) = kept s := by
  unfold takeTwin
  dsimp only
  (repeat' split) <;> simp [hf]

@[simp] theorem kept_acknowledge (ts : Nat) (solo : Bool) (s : State) :
    kept (acknowledge ts solo s) = kept s := by simp [acknowledge]

@[simp] theorem kept_sentRenewal (ts : Nat) (s : State) : kept (sentRenewal ts s) = kept s := by simp [sentRenewal]
@[simp] theorem kept_crownLossRestart (s : State) : kept (crownLossRestart s) = kept s := by simp [crownLossRestart]
@[simp] theorem kept_newHolder (s : State) : kept (newHolder s) = kept s := by simp [newHolder]

@[simp] theorem kept_takeRenewal (epoch : W32) (ringT : Nat) (s : State) :
    kept (takeRenewal epoch ringT s) = kept s := by simp [takeRenewal]

@[simp] theorem kept_expireLease (s : State) : kept (expireLease s) = kept s := by simp [expireLease]
@[simp] theorem kept_newScale (s : State) : kept (newScale s) = kept s := by simp [newScale]
@[simp] theorem kept_onCandidate (s : State) : kept (onCandidate s) = kept s := by simp [onCandidate]

@[simp] theorem kept_becomeCandidate (byStart : Bool) (s : State) :
    kept (becomeCandidate byStart s) = kept s := by simp [becomeCandidate]

@[simp] theorem kept_recordWcet (s : State) : kept (recordWcet s) = kept s := by simp [recordWcet]
@[simp] theorem kept_takeCrown (s : State) : kept (takeCrown s) = kept s := by simp [takeCrown]

@[simp] theorem kept_withdrawCandidate (winner : W32) (s : State) :
    kept (withdrawCandidate winner s) = kept s := by simp [withdrawCandidate]

@[simp] theorem kept_sendStatus (s : State) : kept (sendStatus s) = kept s := by simp [sendStatus]

@[simp] theorem kept_takeAcked (ts : Nat) (epoch : W32) (s : State) :
    kept (takeAcked ts epoch s) = kept s := by simp [takeAcked]

/-! ### Frames -/

@[simp] theorem kept_offerPart (r : Ring) (h : Hdr) (x : Sec) (s : State) :
    kept (offerPart r h x s) = kept s := by simp [offerPart]

/-! ### The door guard -/

@[simp] theorem kept_doorEvents (g : Nat) (causes : List Nat) (x0 y0 x1 y1 : DoorChan) (s : State) :
    kept (doorEvents g causes x0 y0 x1 y1 s) = kept s := by simp [doorEvents]

@[simp] theorem kept_updUnit (g : Nat) (causes : List Nat) (x1 y1 : DoorChan) (s : State) :
    kept (updUnit g causes x1 y1 s) = kept s := by simp [updUnit]

@[simp] theorem kept_evalBoth (lx ly : Lane) (e : DoorEntry) (s : State) :
    kept (evalBoth lx ly e s) = kept s := by simp [evalBoth]

@[simp] theorem kept_doorStart (s : State) : kept (doorStart s) = kept s := by simp [doorStart]

@[simp] theorem kept_evalDoors (r : Ring) (s : State) : kept (evalDoors r s) = kept s := by
  unfold evalDoors
  dsimp only
  (repeat' split) <;> simp

/-! ### Restarts of the program -/

@[simp] theorem kept_beginLane (st : Stores) (l : Lane) (s : State) :
    kept (beginLane st l s) = kept s := by simp [beginLane]

@[simp] theorem kept_restartLane (warm : Option W32) (l : Lane) (s : State) : kept (restartLane warm l s) = kept s := by
  unfold restartLane
  dsimp only
  (repeat' split) <;> simp

@[simp] theorem kept_startProgram (firstAt : Nat) (s : State) :
    kept (startProgram firstAt s) = kept s := by simp [startProgram]

/-! ### What a ring port originates -/

@[simp] theorem kept_updRing (r : Ring) (f : RingPort → RingPort) (s : State) :
    kept (updRing r f s) = kept s := by simp [updRing]

@[simp] theorem kept_countInvalid (r : Ring) (p : Pair) (n : Nat) (s : State) :
    kept (countInvalid r p n s) = kept s := by simp [countInvalid]

@[simp] theorem kept_wrapPort (r : Ring) (p : Pair) (s : State) : kept (wrapPort r p s) = kept s := by simp [wrapPort]
@[simp] theorem kept_wrapIfBroken (s : State) (r : Ring) : kept (wrapIfBroken s r) = kept s := by simp [wrapIfBroken]

@[simp] theorem kept_decideOrigin (r : Ring) (s : State) : kept (decideOrigin r s).1 = kept s := by
  unfold decideOrigin
  dsimp only
  (repeat' split) <;> simp

@[simp] theorem kept_noteWrap (r : Ring) (into : Bool) (s : State) :
    kept (noteWrap r into s) = kept s := by simp [noteWrap]

@[simp] theorem kept_enterDual (r : Ring) (s : State) : kept (enterDual r s) = kept s := by simp [enterDual]
@[simp] theorem kept_settleDual (r : Ring) (s : State) : kept (settleDual r s) = kept s := by simp [settleDual]

@[simp] theorem kept_originateCycle (r : Ring) (b : Nat) (s : State) :
    kept (originateCycle r b s) = kept s := by simp [originateCycle]

@[simp] theorem kept_originateClaim (r : Ring) (b : Nat) (s : State) :
    kept (originateClaim r b s) = kept s := by simp [originateClaim]

@[simp] theorem kept_leaveTest (r : Ring) (s : State) : kept (leaveTest r s) = kept s := by simp [leaveTest]

@[simp] theorem kept_originateTest (r : Ring) (b : Nat) (s : State) :
    kept (originateTest r b s) = kept s := by simp [originateTest]

@[simp] theorem kept_beginClaim (r : Ring) (s : State) : kept (beginClaim r s) = kept s := by simp [beginClaim]
@[simp] theorem kept_reclaim (r : Ring) (s : State) : kept (reclaim r s) = kept s := by simp [reclaim]

@[simp] theorem kept_portBoundary (r : Ring) (s : State) : kept (portBoundary r s) = kept s := by
  unfold portBoundary
  dsimp only
  (repeat' split) <;> simp

@[simp] theorem kept_clearBeacons (before after : State) : kept (clearBeacons before after) = kept after := by simp [clearBeacons]
@[simp] theorem kept_enterCrowned (s : State) : kept (enterCrowned s) = kept s := by simp [enterCrowned]

@[simp] theorem kept_claimByRecord (s : State) : kept (claimByRecord s) = kept s := by
  unfold claimByRecord
  dsimp only
  (repeat' split) <;> simp

@[simp] theorem kept_ringBoundary (s : State) : kept (ringBoundary s) = kept s := by simp [ringBoundary]

/-! ### Frames that return -/

@[simp] theorem kept_readRenewal (r : Ring) (f : Frame) (s : State) :
    kept (readRenewal r f s) = kept s := by simp [readRenewal]

@[simp] theorem kept_takeStandby (h : Hdr) (x : Sec) (s : State) :
    kept (takeStandby h x s) = kept s := by simp [takeStandby]

@[simp] theorem kept_takeSection (r : Ring) (sent : Frame) (copies : List (Pair × Frame)) (serve : Bool) (addr : Nat) (s
    : State) :
    kept (takeSection r sent copies serve addr s) = kept s := by
  unfold takeSection
  dsimp only
  split <;> simp

@[simp] theorem kept_takeCopies (r : Ring) (copies : List (Pair × Frame)) (serve : Bool) (s : State) :
    kept (takeCopies r copies serve s) = kept s := by
  unfold takeCopies
  split <;> simp

@[simp] theorem kept_settleBudget (r : Ring) (s : State) : kept (settleBudget r s) = kept s := by simp [settleBudget]
@[simp] theorem kept_measureRound (r : Ring) (s : State) : kept (measureRound r s) = kept s := by simp [measureRound]

@[simp] theorem kept_returnOwn (r : Ring) (pr : Pair) (f sent : Frame) (serve : Bool) (s : State) :
    kept (returnOwn r pr f sent serve s) = kept s := by
  unfold returnOwn
  dsimp only
  (repeat' split) <;> simp

@[simp] theorem kept_returnForeign (r : Ring) (f : Frame) (s : State) :
    kept (returnForeign r f s) = kept s := by simp [returnForeign]

@[simp] theorem kept_returnFrame (r : Ring) (pr : Pair) (f : Frame) (s : State) :
    kept (returnFrame r pr f s) = kept s := by
  unfold returnFrame
  dsimp only
  (repeat' split) <;> simp

@[simp] theorem kept_deadline (r : Ring) (s : State) : kept (deadline r s) = kept s := by simp [deadline]

@[simp] theorem kept_ackAlone (s : State) : kept (ackAlone s) = kept s := by
  unfold ackAlone
  dsimp only
  split <;> simp

@[simp] theorem kept_returnDeadlines (s : State) : kept (returnDeadlines s) = kept s := by simp [returnDeadlines]

/-! ### Frames that pass -/

@[simp] theorem kept_updateLock (r : Ring) (pr : Pair) (f : Frame) (arrived : Nat) (a : Arrival) (s : State) :
    kept (updateLock r pr f arrived a s) = kept s := by simp [updateLock]

@[simp] theorem kept_otherCopy (r : Ring) (pr : Pair) (f : Frame) (arrived : Nat) (a : Arrival) (s : State) :
    kept (otherCopy r pr f arrived a s) = kept s := by simp [otherCopy]

@[simp] theorem kept_leavePort (r : Ring) (pr : Pair) (f : Frame) (s : State) :
    kept (leavePort r pr f s) = kept s := by simp [leavePort]

@[simp] theorem kept_sendOn (r : Ring) (pr : Pair) (cut : Bool) (f : Frame) (s : State) :
    kept (sendOn r pr cut f s) = kept s := by simp [sendOn]

@[simp] theorem kept_standbyReceive (r : Ring) (pr : Pair) (f : Frame) (arrived : Nat) (ppb : Int) (cut : Bool) (s :
    State) :
    kept (standbyReceive r pr f arrived ppb cut s) = kept s := by simp [standbyReceive]

@[simp] theorem kept_endClaim (r : Ring) (x : ClaimState) (s : State) :
    kept (endClaim r x s) = kept s := by simp [endClaim]

@[simp] theorem kept_withdrawAll (s : State) : kept (withdrawAll s) = kept s := by simp [withdrawAll]
@[simp] theorem kept_withdraw (winner : W32) (s : State) : kept (withdraw winner s) = kept s := by simp [withdraw]

@[simp] theorem kept_foreignAtCandidate (r : Ring) (f : Frame) (s : State) :
    kept (foreignAtCandidate r f s) = kept s := by simp [foreignAtCandidate]

@[simp] theorem kept_ownClaim (r : Ring) (pr : Pair) (f : Frame) (s : State) : kept (ownClaim r pr f s) = kept s := by
  unfold ownClaim
  dsimp only
  split <;> simp

@[simp] theorem kept_candidateReceive (r : Ring) (pr : Pair) (f : Frame) (s : State) :
    kept (candidateReceive r pr f s) = kept s := by simp [candidateReceive]

@[simp] theorem kept_testReceive (r : Ring) (pr : Pair) (f : Frame) (s : State) :
    kept (testReceive r pr f s) = kept s := by simp [testReceive]

@[simp] theorem kept_noteFrame (r : Ring) (f : Frame) (s : State) :
    kept (noteFrame r f s) = kept s := by simp [noteFrame]

@[simp] theorem kept_portReceive (r : Ring) (pr : Pair) (f : Frame) (arrived : Nat) (ppb : Int) (cut : Bool) (s : State)
    :
    kept (portReceive r pr f arrived ppb cut s) = kept s := by
  unfold portReceive
  dsimp only
  (repeat' split) <;> simp

@[simp] theorem kept_settleCandidate (s : State) : kept (settleCandidate s) = kept s := by simp [settleCandidate]
@[simp] theorem kept_winRing (r : Ring) (s : State) : kept (winRing r s) = kept s := by simp [winRing]
@[simp] theorem kept_abandonRing (r : Ring) (s : State) : kept (abandonRing r s) = kept s := by simp [abandonRing]

/-! ### Claims and the time master -/

@[simp] theorem kept_handTime (old new : Lane) (s : State) : kept (handTime old new s) = kept s := by simp [handTime]

@[simp] theorem kept_settleTimeMaster (s : State) : kept (settleTimeMaster s) = kept s := by
  unfold settleTimeMaster
  split <;> simp

@[simp] theorem kept_rankTime (s : State) : kept (rankTime s) = kept s := by simp [rankTime]

@[simp] theorem kept_slewLane (l : Lane) (dev : Int) (s : State) :
    kept (slewLane l dev s) = kept s := by simp [slewLane]

@[simp] theorem kept_measureLane (dev : Tri Int) (s : State) (l : Lane) :
    kept (measureLane dev s l) = kept s := by simp [measureLane]

/-! ### The check units -/

@[simp] theorem kept_updPort (l : Lane) (f : ChkLane → ChkLane) (s : State) :
    kept (updPort l f s) = kept s := by simp [updPort]

@[simp] theorem kept_updPlace (place : Nat) (f : RetCopy → RetCopy) (s : State) :
    kept (updPlace place f s) = kept s := by simp [updPlace]

@[simp] theorem kept_passCheckAgain (code : Nat) (place : Nat) (s : State) :
    kept (passCheckAgain code place s) = kept s := by simp [passCheckAgain]

@[simp] theorem kept_markBad (code place : Nat) (s : State) : kept (markBad code place s) = kept s := by simp [markBad]
@[simp] theorem kept_testAbsorb (b : List Byte) (s : State) : kept (testAbsorb b s) = kept s := by simp [testAbsorb]

/-! ### Traps -/

@[simp] theorem kept_trap (l : Lane) (cause : Nat) (sweep : Bool) (s : State) :
    kept (trap l cause sweep s) = kept s := by simp [trap]

@[simp] theorem kept_badWord (x : StoreLoc) (l : Lane) (s : State) : kept (badWord x l s) = kept s := by simp [badWord]

/-! ### Following the holder -/

@[simp] theorem kept_followMismatch (cycle : W32) (s : State) :
    kept (followMismatch cycle s) = kept s := by simp [followMismatch]

@[simp] theorem kept_countUncompared (cycle : W32) (s : State) :
    kept (countUncompared cycle s) = kept s := by simp [countUncompared]

@[simp] theorem kept_compareNormal (b : CommitBody) (own : OwnCommit) (s : State) :
    kept (compareNormal b own s) = kept s := by
  unfold compareNormal
  split <;> simp

@[simp] theorem kept_compareCommits (s : State) : kept (compareCommits s) = kept s := by
  unfold compareCommits
  split <;> simp

@[simp] theorem kept_missedCommit (s : State) : kept (missedCommit s) = kept s := by
  unfold missedCommit
  split <;> simp

@[simp] theorem kept_beginProving (b : CopyBody) (s : State) : kept (beginProving b s) = kept s := by
  unfold beginProving
  rw [kept_foldl fun _ _ => by rfl]
  simp

@[simp] theorem kept_takePass (b : CopyBody) (s : State) : kept (takePass b s) = kept s := by
  unfold takePass
  split
  · simp
  · simp only [kept_ite, kept_beginProving, kept_enterSeeking, ite_self]
    exact kept_foldl (f := fun s l => { s with st := s.st.upd l (applyPass (nounTop _) b.pass b.words) }) (fun _ _ => rfl) _ s

@[simp] theorem kept_activateBank (s : State) : kept (activateBank s) = kept s := by simp [activateBank]
@[simp] theorem kept_adoptBank (b : CopyBody) (s : State) : kept (adoptBank b s) = kept s := by simp [adoptBank]
@[simp] theorem kept_takeCopy (b : CopyBody) (s : State) : kept (takeCopy b s) = kept s := by simp [takeCopy]
@[simp] theorem kept_switchBanks (s : State) : kept (switchBanks s) = kept s := by simp [switchBanks]
@[simp] theorem kept_settleGo (s : State) : kept (settleGo s) = kept s := by simp [settleGo]
@[simp] theorem kept_cancelled (reason : Nat) (s : State) : kept (cancelled reason s) = kept s := by simp [cancelled]

@[simp] theorem kept_followExchange (b : CommitBody) (s : State) : kept (followExchange b s) = kept s := by
  unfold followExchange
  split <;> simp

@[simp] theorem kept_takeLease (b : LeaseBody) (s : State) : kept (takeLease b s) = kept s := by simp [takeLease]
@[simp] theorem kept_takeStatus (b : StatusBody) (s : State) : kept (takeStatus b s) = kept s := by simp [takeStatus]

@[simp] theorem kept_offerHandover (why : OfferWhy) (s : State) :
    kept (offerHandover why s) = kept s := by simp [offerHandover]

@[simp] theorem kept_takeByHandover (s : State) : kept (takeByHandover s) = kept s := by simp [takeByHandover]

@[simp] theorem kept_settleHandover (s : State) : kept (settleHandover s) = kept s := by
  unfold settleHandover
  split <;> simp

@[simp] theorem kept_giveCrown (x : Handover) (digest : W32) (s : State) :
    kept (giveCrown x digest s) = kept s := by simp [giveCrown]

@[simp] theorem kept_cancelHandover (x : Handover) (s : State) :
    kept (cancelHandover x s) = kept s := by simp [cancelHandover]

/-! ### The input latch -/

@[simp] theorem kept_latchCmds (s : State) : kept (latchCmds s).1 = kept s := by simp [latchCmds]

@[simp] theorem kept_latchLane (cmds : Tab W64) (x : LatchLane) (s : State) (l : Lane) :
    kept (latchLane cmds x s l) = kept s := by simp [latchLane]

@[simp] theorem kept_ownLatch (s : State) : kept (ownLatch s) = kept s := by simp [ownLatch]

@[simp] theorem kept_followLane (cmds : Tab W64) (x : LatchBody) (s : State) (l : Lane) :
    kept (followLane cmds x s l) = kept s := by simp [followLane]

@[simp] theorem kept_followLatch (x : LatchBody) (s : State) : kept (followLatch x s) = kept s := by simp [followLatch]
@[simp] theorem kept_openCycle (b : Nat) (s : State) : kept (openCycle b s) = kept s := by simp [openCycle]
@[simp] theorem kept_inputLatch (s : State) : kept (inputLatch s) = kept s := by simp [inputLatch]

/-! ### Rejoin -/

@[simp] theorem kept_holdOut (s : State) (l : Lane) : kept (holdOut s l) = kept s := by simp [holdOut]
@[simp] theorem kept_enterRejoin (l : Lane) (s : State) : kept (enterRejoin l s) = kept s := by simp [enterRejoin]

@[simp] theorem kept_tryRejoin (s : State) : kept (tryRejoin s) = kept s := by
  unfold tryRejoin
  dsimp only
  (repeat' split) <;> simp

@[simp] theorem kept_snapAtEnd (l : Lane) (s : State) : kept (snapAtEnd l s) = kept s := by
  unfold snapAtEnd
  split <;> simp

@[simp] theorem kept_passEnd (err : W32) (s : State) : kept (passEnd err s) = kept s := by
  unfold passEnd
  split <;> simp

@[simp] theorem kept_rejoinTimeout (s : State) : kept (rejoinTimeout s) = kept s := by
  unfold rejoinTimeout
  split <;> simp

@[simp] theorem kept_sendCopy (l : Lane) (s : State) : kept (sendCopy l s) = kept s := by
  unfold sendCopy
  split <;> simp

/-! ### Snapshots -/

@[simp] theorem kept_putBrood (b : Brood) (cells : Nat) (s : State) :
    kept (putBrood b cells s) = kept s := by simp [putBrood]

@[simp] theorem kept_writeCapture (b : Brood) (s : State) : kept (writeCapture b s) = kept s := by simp [writeCapture]

@[simp] theorem kept_beginSnap (x : Nat × SnapList) (kind : Nat) (b : Brood) (s : State) :
    kept (beginSnap x kind b s) = kept s := by simp [beginSnap]

@[simp] theorem kept_continueSnap (b : Brood) (s : State) : kept (continueSnap b s) = kept s := by simp [continueSnap]
@[simp] theorem kept_missSnap (l : Nat) (n : W32) (s : State) : kept (missSnap l n s) = kept s := by simp [missSnap]
@[simp] theorem kept_missCells (s : State) : kept (missCells s) = kept s := by simp [missCells]

@[simp] theorem kept_snapList1 (n : W32) (skipped fault : Bool) (s : State) (x : Nat × SnapList) :
    kept (snapList1 n skipped fault s x) = kept s := by
  unfold snapList1
  dsimp only
  (repeat' split) <;> simp

@[simp] theorem kept_snapCommit (n : W32) (skipped fault : Bool) (s : State) :
    kept (snapCommit n skipped fault s) = kept s := by simp [snapCommit]

/-! ### The engine -/

@[simp] theorem kept_putWork (l : Lane) (w : Work) (s : State) : kept (putWork l w s) = kept s := by simp [putWork]

/-! ### The logic phase -/

@[simp] theorem kept_writeCopy (p : Program) (cycle : W32) (whole : Bool) (l : Lane) (s : State) :
    kept (writeCopy p cycle whole l s) = kept s := by simp [writeCopy]

@[simp] theorem kept_wdogExpire (l : Lane) (s : State) : kept (wdogExpire l s) = kept s := by simp [wdogExpire]
@[simp] theorem kept_stopLate (s : State) (l : Lane) : kept (stopLate s l) = kept s := by simp [stopLate]

@[simp] theorem kept_translateLane (l : Lane) (s : State) : kept (translateLane l s) = kept s := by
  unfold translateLane
  split <;> simp

@[simp] theorem kept_startPhase (s : State) (l : Lane) : kept (startPhase s l) = kept s := by
  unfold startPhase
  dsimp only
  (repeat' split) <;> simp

@[simp] theorem kept_settleImage (s : State) : kept (settleImage s) = kept s := by
  unfold settleImage
  dsimp only
  (repeat' split) <;> simp

@[simp] theorem kept_freeze (s : State) : kept (freeze s) = kept s := by simp [freeze]

@[simp] theorem kept_injectEcc (det : Nat) (l : Lane) (s : State) :
    kept (injectEcc det l s) = kept s := by simp [injectEcc]

@[simp] theorem kept_applyFault (block det : Nat) (l : Lane) (s : State) :
    kept (applyFault block det l s) = kept s := by
  unfold applyFault
  split <;> simp

@[simp] theorem kept_persistFault (s : State) : kept (persistFault s) = kept s := by
  unfold persistFault
  split <;> simp

@[simp] theorem kept_logicStart (s : State) : kept (logicStart s) = kept s := by simp [logicStart]
@[simp] theorem kept_phaseEnd (l : Lane) (s : State) : kept (phaseEnd l s) = kept s := by simp [phaseEnd]

@[simp] theorem kept_skipLane (l : Lane) (s : State) : kept (skipLane l s) = kept s := by
  unfold skipLane
  dsimp only
  split <;> simp

@[simp] theorem kept_deadlineLane (s : State) (l : Lane) : kept (deadlineLane s l) = kept s := by simp [deadlineLane]

@[simp] theorem kept_suspendWorkers (b : Bool) (s : State) :
    kept (suspendWorkers b s) = kept s := by simp [suspendWorkers]

@[simp] theorem kept_commitDeadline (s : State) : kept (commitDeadline s) = kept s := by simp [commitDeadline]

/-! ### The vote -/

@[simp] theorem kept_voteReflexes (r : VoteRes) (s : State) : kept (voteReflexes r s) = kept s := by simp [voteReflexes]

@[simp] theorem kept_voteComplete (err : Tri W32) (s : State) :
    kept (voteComplete err s) = kept s := by simp [voteComplete]

/-! ### The commit -/

@[simp] theorem kept_commitFault (fw : W64) (s : State) : kept (commitFault fw s) = kept s := by simp [commitFault]

@[simp] theorem kept_noteSkip (n : W32) (whole : Bool) (s : State) :
    kept (noteSkip n whole s) = kept s := by simp [noteSkip]

@[simp] theorem kept_skipCell (whole : Bool) (s : State) : kept (skipCell whole s) = kept s := by simp [skipCell]

@[simp] theorem kept_noteDisagree (n : W32) (r : VoteRes) (s : State) :
    kept (noteDisagree n r s) = kept s := by simp [noteDisagree]

@[simp] theorem kept_engineCheck (n : W32) (s : State) : kept (engineCheck n s) = kept s := by
  unfold engineCheck
  split <;> simp

@[simp] theorem kept_enterVoting (l : Lane) (s : State) : kept (enterVoting l s) = kept s := by simp [enterVoting]
@[simp] theorem kept_promoteLane (s : State) (l : Lane) : kept (promoteLane s l) = kept s := by simp [promoteLane]
@[simp] theorem kept_promoteAll (s : State) : kept (promoteAll s) = kept s := by simp [promoteAll]

@[simp] theorem kept_excludeOne (r : VoteRes) (s : State) (l : Lane) :
    kept (excludeOne r s l) = kept s := by simp [excludeOne]

@[simp] theorem kept_commitRejoin (n : W32) (res : VoteRes) (s : State) : kept (commitRejoin n res s) = kept s := by
  unfold commitRejoin
  split <;> simp

@[simp] theorem kept_startDegraded (s : State) : kept (startDegraded s) = kept s := by simp [startDegraded]

@[simp] theorem kept_stopDegraded (s : State) : kept (stopDegraded s) = kept s := by
  unfold stopDegraded
  dsimp only
  split <;> simp

@[simp] theorem kept_settleMode (s : State) : kept (settleMode s) = kept s := by
  unfold settleMode
  dsimp only
  (repeat' split) <;> simp

@[simp] theorem kept_openWrite (n : W32) (img : Tab W64) (before : Tri Bool) (s : State) :
    kept (openWrite n img before s) = kept s := by simp [openWrite]

@[simp] theorem kept_commitExchange (n : W32) (go : Nat) (s : State) : kept (commitExchange n go s) = kept s := by
  unfold commitExchange
  split <;> simp

@[simp] theorem kept_holderRecords (b : CommitBody) (s : State) :
    kept (holderRecords b s) = kept s := by simp [holderRecords]

@[simp] theorem kept_holderHandover (n : W32) (kind : CommitKind) (digest : W32) (s : State) :
    kept (holderHandover n kind digest s) = kept s := by
  unfold holderHandover
  split <;> simp

@[simp] theorem kept_standbyCommit (n : W32) (skipped : Bool) (digest : W32) (s : State) :
    kept (standbyCommit n skipped digest s) = kept s := by simp [standbyCommit]

@[simp] theorem kept_commitLanes (n : W32) (r : VoteRes) (s : State) :
    kept (commitLanes n r s) = kept s := by simp [commitLanes]

@[simp] theorem kept_noteCommit (n : W32) (s : State) : kept (noteCommit n s) = kept s := by simp [noteCommit]
@[simp] theorem kept_noteLoads (s : State) : kept (noteLoads s) = kept s := by simp [noteLoads]

@[simp] theorem kept_commitWith (n : W32) (r : VoteRes) (s : State) :
    kept (commitWith n r s) = kept s := by simp [commitWith]

@[simp] theorem kept_commitCycle (s : State) : kept (commitCycle s) = kept s := by
  simp only [commitCycle]
  (repeat' split) <;> simp

/-! ### The service role and the lanes -/

@[simp] theorem kept_moveService (forced : Bool) (m : Lane) (s : State) :
    kept (moveService forced m s) = kept s := by simp [moveService]

@[simp] theorem kept_voteReset (l : Lane) (s : State) : kept (voteReset l s) = kept s := by simp [voteReset]
@[simp] theorem kept_loadActive (l : Lane) (s : State) : kept (loadActive l s) = kept s := by simp [loadActive]

@[simp] theorem kept_stageLane (reason : Nat) (img : Option (List Byte)) (l : Lane) (s : State) :
    kept (stageLane reason img l s) = kept s := by simp [stageLane]

@[simp] theorem kept_prepareLane (l : Lane) (s : State) : kept (prepareLane l s) = kept s := by simp [prepareLane]

@[simp] theorem kept_knownAnswers (l : Lane) (units : BitVec 2) (s : State) :
    kept (knownAnswers l units s) = kept s := by simp [knownAnswers]

@[simp] theorem kept_reportReady (l : Lane) (kat : BitVec 2) (s : State) :
    kept (reportReady l kat s) = kept s := by simp [reportReady]

@[simp] theorem kept_forgoCrown (s : State) : kept (forgoCrown s) = kept s := by simp [forgoCrown]
@[simp] theorem kept_degradedExpiry (s : State) : kept (degradedExpiry s) = kept s := by simp [degradedExpiry]

@[simp] theorem kept_graceEnd (s : State) : kept (graceEnd s) = kept s := by
  unfold graceEnd
  split <;> simp

@[simp] theorem kept_clrLaneMax (l : Lane) (s : State) : kept (clrLaneMax l s) = kept s := by simp [clrLaneMax]

/-! ### Verdicts of tests -/

@[simp] theorem kept_endTest (kind : Nat) (es : List (W32 × W32)) (s : State) :
    kept (endTest kind es s) = kept s := by simp [endTest]

/-! ### The bring-up -/

@[simp] theorem kept_keepLoss (s : State) : kept (keepLoss s) = kept s := by simp [keepLoss]
@[simp] theorem kept_recordGap (s : State) : kept (recordGap s) = kept s := by simp [recordGap]

@[simp] theorem kept_softReset (code : Nat) (key : W16) (h : HostId) (s : State) :
    kept (softReset code key h s).1 = kept s := by
  simp only [softReset]
  (repeat' split) <;> simp

@[simp] theorem kept_toStage (x : Stage) (s : State) : kept (toStage x s) = kept s := by simp [toStage]

@[simp] theorem kept_safeOptions (why bad : Nat) (s : State) :
    kept (safeOptions why bad s) = kept s := by simp [safeOptions]

@[simp] theorem kept_toPll (s : State) : kept (toPll s) = kept s := by simp [toPll]

@[simp] theorem kept_toOptions (s : State) : kept (toOptions s) = kept s := by
  unfold toOptions
  dsimp only
  split <;> simp

@[simp] theorem kept_refsStable (refs : Tri Bool) (s : State) :
    kept (refsStable refs s) = kept s := by simp [refsStable]

@[simp] theorem kept_serviceAway (s : State) : kept (serviceAway s) = kept s := by simp [serviceAway]
@[simp] theorem kept_giveUp (s : State) (l : Lane) : kept (giveUp s l) = kept s := by simp [giveUp]
@[simp] theorem kept_retryClocks (s : State) : kept (retryClocks s) = kept s := by simp [retryClocks]
@[simp] theorem kept_toBoot (s : State) : kept (toBoot s) = kept s := by simp [toBoot]
@[simp] theorem kept_settleClocks (s : State) : kept (settleClocks s) = kept s := by simp [settleClocks]

@[simp] theorem kept_noteBadCopies (bad : Nat) (s : State) :
    kept (noteBadCopies bad s) = kept s := by simp [noteBadCopies]

@[simp] theorem kept_useOptions (n bad other : Nat) (b : List Byte) (s : State) :
    kept (useOptions n bad other b s) = kept s := by simp [useOptions]

@[simp] theorem kept_loadOptions (s : State) : kept (loadOptions s) = kept s := by
  unfold loadOptions
  split <;> simp

@[simp] theorem kept_enterRecovery (reason : Nat) (s : State) :
    kept (enterRecovery reason s) = kept s := by simp [enterRecovery]

@[simp] theorem kept_dropLanes (ok : Lane → Bool) (s : State) : kept (dropLanes ok s) = kept s := by simp [dropLanes]

@[simp] theorem kept_acceptStore (h : List Byte) (ok : Lane → Bool) (s : State) :
    kept (acceptStore h ok s) = kept s := by simp [acceptStore]

@[simp] theorem kept_storeBoot (acc : Tri Bool) (s : State) : kept (storeBoot acc s) = kept s := by
  unfold storeBoot
  split <;> simp

@[simp] theorem kept_dramBoot (acc : Tri Bool) (s : State) : kept (dramBoot acc s) = kept s := by simp [dramBoot]
@[simp] theorem kept_loadRouter (b : Settings) (s : State) : kept (loadRouter b s) = kept s := by simp [loadRouter]
@[simp] theorem kept_applyStep (s : State) : kept (applyStep s) = kept s := by simp [applyStep]

@[simp] theorem kept_applySettings (n bad other : Nat) (b : Settings) (s : State) :
    kept (applySettings n bad other b s) = kept s := by simp [applySettings]

@[simp] theorem kept_releaseLane (ok : Lane → Bool) (s : State) (l : Lane) :
    kept (releaseLane ok s l) = kept s := by simp [releaseLane]

@[simp] theorem kept_resetCell (s : State) : kept (resetCell s) = kept s := by simp [resetCell]
@[simp] theorem kept_tellFwSettings (s : State) : kept (tellFwSettings s) = kept s := by simp [tellFwSettings]

/-! ### The comb's commands -/

@[simp] theorem kept_combSeqLo (s : State) : kept (combSeqLo s).1 = kept s := by simp [combSeqLo]

/-! ### The partner link's commands -/

@[simp] theorem kept_followTime (off : Int) (s : State) : kept (followTime off s) = kept s := by simp [followTime]
@[simp] theorem kept_passLatch (x : LatchBody) (s : State) : kept (passLatch x s) = kept s := by simp [passLatch]
@[simp] theorem kept_mirrorUnit (s : State) (g : GuardUnit) : kept (mirrorUnit s g) = kept s := by simp [mirrorUnit]

/-! ### Clears of door units -/

@[simp] theorem kept_clearUnit (guard : Bool) (h : HostId) (s : State) : kept (clearUnit guard h s).1 = kept s := by
  unfold clearUnit
  dsimp only
  (repeat' split) <;> simp

/-! ### The program exchange -/

@[simp] theorem kept_writeStage (h : HostId) (s : State) : kept (writeStage h s).1 = kept s := by
  unfold writeStage
  split <;> simp

@[simp] theorem kept_endStaging (s : State) : kept (endStaging s) = kept s := by simp [endStaging]

@[simp] theorem kept_writePropose (h : HostId) (s : State) : kept (writePropose h s).1 = kept s := by
  unfold writePropose
  split <;> simp

@[simp] theorem kept_withdrawReady (s : State) : kept (withdrawReady s) = kept s := by simp [withdrawReady]

@[simp] theorem kept_writePxCancel (h : HostId) (s : State) : kept (writePxCancel h s).1 = kept s := by
  unfold writePxCancel
  split <;> simp

@[simp] theorem kept_pxIdLo (sid : Bool) (s : State) : kept (pxIdLo sid s).1 = kept s := by simp [pxIdLo]

/-! ### The update loader -/

@[simp] theorem kept_hello (src : UpdSrc) (item : Byte) (s : State) :
    kept (hello src item s) = kept s := by simp [hello]

@[simp] theorem kept_serviceRefused (port who : Nat) (eth : Bool) (s : State) :
    kept (serviceRefused port who eth s) = kept s := by simp [serviceRefused]

@[simp] theorem kept_openAck (src : UpdSrc) (item status : Nat) (s : State) :
    kept (openAck src item status s) = kept s := by
  unfold openAck
  dsimp only
  (repeat' split) <;> simp

@[simp] theorem kept_takeLock (src : UpdSrc) (item length : Nat) (version check : W32) (s : State) :
    kept (takeLock src item length version check s) = kept s := by simp [takeLock]

@[simp] theorem kept_openSession (src : UpdSrc) (item length : Nat) (version check op : W32) (sig : List Byte) (s :
    State) :
    kept (openSession src item length version check op sig s) = kept s := by simp [openSession]

@[simp] theorem kept_takeData (offset : Nat) (payload : List Byte) (s : State) :
    kept (takeData offset payload s) = kept s := by simp [takeData]

@[simp] theorem kept_dropStaged (s : State) : kept (dropStaged s) = kept s := by simp [dropStaged]

@[simp] theorem kept_updCtl (h : HostId) (w : W32) (s : State) : kept (updCtl h w s).1 = kept s := by
  unfold updCtl
  dsimp only
  split <;> simp

@[simp] theorem kept_writeUpdCtl (h : HostId) (w : W32) (s : State) :
    kept (writeUpdCtl h w s) = kept s := by simp [writeUpdCtl]

@[simp] theorem kept_returnItem (item version : Nat) (b : List Byte) (s : State) :
    kept (returnItem item version b s) = kept s := by simp [returnItem]

@[simp] theorem kept_answerRecovery (item : Nat) (version : W32) (s : State) :
    kept (answerRecovery item version s) = kept s := by
  unfold answerRecovery
  dsimp only
  (repeat' split) <;> simp

@[simp] theorem kept_takeRecoveryReq (item : Nat) (version : W32) (reason : Nat) (s : State) :
    kept (takeRecoveryReq item version reason s) = kept s := by simp [takeRecoveryReq]

/-! ### The self-test and injection -/

@[simp] theorem kept_stCtl (h : HostId) (w : W32) (s : State) : kept (stCtl h w s).1 = kept s := by
  unfold stCtl
  dsimp only
  (repeat' split) <;> simp

@[simp] theorem kept_stopEngines (s : State) : kept (stopEngines s) = kept s := by simp [stopEngines]
@[simp] theorem kept_startTest (s : State) : kept (startTest s) = kept s := by simp [startTest]
@[simp] theorem kept_startLoop (s : State) : kept (startLoop s) = kept s := by simp [startLoop]
@[simp] theorem kept_endLoop (s : State) : kept (endLoop s) = kept s := by simp [endLoop]
@[simp] theorem kept_finishTest (s : State) : kept (finishTest s) = kept s := by simp [finishTest]
@[simp] theorem kept_completeTest (s : State) : kept (completeTest s) = kept s := by simp [completeTest]

@[simp] theorem kept_writeEntries (es : List (W32 × W32)) (s : State) :
    kept (writeEntries es s) = kept s := by simp [writeEntries]

@[simp] theorem kept_stepDone (es : List (W32 × W32)) (s : State) : kept (stepDone es s) = kept s := by simp [stepDone]
@[simp] theorem kept_drawChallenge (s : State) : kept (drawChallenge s) = kept s := by simp [drawChallenge]

@[simp] theorem kept_enableScan (cleared : Bool) (s : State) :
    kept (enableScan cleared s) = kept s := by simp [enableScan]

@[simp] theorem kept_grantAuth (cleared : Bool) (s : State) : kept (grantAuth cleared s) = kept s := by
  unfold grantAuth
  split <;> simp

@[simp] theorem kept_authGo (h : HostId) (cleared : Bool) (s : State) : kept (authGo h cleared s).1 = kept s := by
  unfold authGo
  dsimp only
  (repeat' split) <;> simp

@[simp] theorem kept_stAuth (h : HostId) (cleared : Bool) (w : W32) (s : State) :
    kept (stAuth h cleared w s).1 = kept s := by
  unfold stAuth
  dsimp only
  (repeat' split) <;> simp

@[simp] theorem kept_injectCheck (det : Nat) (l : Lane) (s : State) :
    kept (injectCheck det l s) = kept s := by simp [injectCheck]

@[simp] theorem kept_injectPort (det : Nat) (r : Ring) (s : State) :
    kept (injectPort det r s) = kept s := by simp [injectPort]

@[simp] theorem kept_injectDoor (det arg : Nat) (s : State) :
    kept (injectDoor det arg s) = kept s := by simp [injectDoor]

@[simp] theorem kept_applyPoint (block det : Nat) (l : Lane) (arg : Nat) (s : State) :
    kept (applyPoint block det l arg s) = kept s := by
  unfold applyPoint
  split <;> simp

@[simp] theorem kept_fireInjection (count : Nat) (op : W32) (s : State) :
    kept (fireInjection count op s) = kept s := by simp [fireInjection]

@[simp] theorem kept_injFire (h : HostId) (count : Nat) (s : State) : kept (injFire h count s).1 = kept s := by
  unfold injFire
  dsimp only
  (repeat' split) <;> simp

@[simp] theorem kept_injCtl (h : HostId) (w : W32) (s : State) : kept (injCtl h w s).1 = kept s := by
  unfold injCtl
  split <;> simp

@[simp] theorem kept_endInjection (i : Inject) (s : State) : kept (endInjection i s) = kept s := by simp [endInjection]

@[simp] theorem kept_stOvr (h : HostId) (w : W32) (s : State) : kept (stOvr h w s).1 = kept s := by
  unfold stOvr
  split <;> simp

@[simp] theorem kept_stAtb (h : HostId) (w : W32) (s : State) : kept (stAtb h w s).1 = kept s := by
  unfold stAtb
  dsimp only
  (repeat' split) <;> simp

/-! ### The workers -/

@[simp] theorem kept_notePass (task interval : Nat) (s : State) :
    kept (notePass task interval s) = kept s := by simp [notePass]

@[simp] theorem kept_raiseDscrub (s : State) : kept (raiseDscrub s) = kept s := by simp [raiseDscrub]
@[simp] theorem kept_raiseRefresh (s : State) : kept (raiseRefresh s) = kept s := by simp [raiseRefresh]
@[simp] theorem kept_raiseNscrub (s : State) : kept (raiseNscrub s) = kept s := by simp [raiseNscrub]

@[simp] theorem kept_countDram (l : Lane) (words : Nat) (s : State) :
    kept (countDram l words s) = kept s := by simp [countDram]

@[simp] theorem kept_cleanPass (dram : Bool) (words : Nat) (l : Lane) (s : State) :
    kept (cleanPass dram words l s) = kept s := by simp [cleanPass]

@[simp] theorem kept_spoilSlot (l : Lane) (slot : Bool) (s : State) :
    kept (spoilSlot l slot s) = kept s := by simp [spoilSlot]

@[simp] theorem kept_countReloc (s : State) : kept (countReloc s) = kept s := by simp [countReloc]
@[simp] theorem kept_takeCodeSpare (s : State) : kept (takeCodeSpare s) = kept s := by simp [takeCodeSpare]

@[simp] theorem kept_codeBlock (bits : Nat) (fail : Bool) (s : State) :
    kept (codeBlock bits fail s) = kept s := by simp [codeBlock]

@[simp] theorem kept_combBlock (c idx bits : Nat) (fail : Bool) (s : State) :
    kept (combBlock c idx bits fail s) = kept s := by simp [combBlock]

@[simp] theorem kept_badCell (c idx : Nat) (ecc : Bool) (s : State) : kept (badCell c idx ecc s) = kept s := by
  unfold badCell
  dsimp only
  split <;> simp

@[simp] theorem kept_scrubFound (f : ScrubFind) (s : State) : kept (scrubFound f s) = kept s := by
  unfold scrubFound
  split <;> simp

@[simp] theorem kept_judgeHoldup (us : Nat) (s : State) : kept (judgeHoldup us s) = kept s := by simp [judgeHoldup]
@[simp] theorem kept_judgeClock (s : State) (l : Lane) : kept (judgeClock s l) = kept s := by simp [judgeClock]

@[simp] theorem kept_takeMeasured (m : Measured) (s : State) :
    kept (takeMeasured m s) = kept s := by simp [takeMeasured]

@[simp] theorem kept_planStep (s : State) : kept (planStep s) = kept s := by simp [planStep]
@[simp] theorem kept_ageWarn (s : State) : kept (ageWarn s) = kept s := by simp [ageWarn]

@[simp] theorem kept_forecastDay (slope : Tri Int) (s : State) :
    kept (forecastDay slope s) = kept s := by simp [forecastDay]

@[simp] theorem kept_judgeEye (eyes : List Nat) (s : State) (i : Nat) :
    kept (judgeEye eyes s i) = kept s := by simp [judgeEye]

@[simp] theorem kept_planThreshold (s : State) (x : Nat × Nat) :
    kept (planThreshold s x) = kept s := by simp [planThreshold]

/-! ### Time-keeping -/

@[simp] theorem kept_setCalendar (setter new : Nat) (s : State) :
    kept (setCalendar setter new s) = kept s := by simp [setCalendar]

@[simp] theorem kept_tkCtl (h : HostId) (w : W32) (s : State) : kept (tkCtl h w s).1 = kept s := by
  simp only [tkCtl]
  (repeat' split) <;> simp

@[simp] theorem kept_setPtpLock (on : Bool) (s : State) : kept (setPtpLock on s) = kept s := by simp [setPtpLock]
@[simp] theorem kept_steer (offset utc : Int) (s : State) : kept (steer offset utc s) = kept s := by simp [steer]

@[simp] theorem kept_applyPtpStep (s : State) : kept (applyPtpStep s) = kept s := by
  unfold applyPtpStep
  split <;> simp

@[simp] theorem kept_updateCounters (s : State) : kept (updateCounters s) = kept s := by simp [updateCounters]
@[simp] theorem kept_tbTimeLo (s : State) : kept (tbTimeLo s).1 = kept s := by simp [tbTimeLo]
@[simp] theorem kept_setIdLo (src : Bool) (s : State) : kept (setIdLo src s).1 = kept s := by simp [setIdLo]

@[simp] theorem kept_tkLo (cal : Bool) (s : State) : kept (tkLo cal s).1 = kept s := by
  unfold tkLo
  split <;> simp

/-! ### Supplies -/

@[simp] theorem kept_noteMove (common toBack : Bool) (s : State) :
    kept (noteMove common toBack s) = kept s := by simp [noteMove]

@[simp] theorem kept_showPaths (s : State) : kept (showPaths s) = kept s := by simp [showPaths]

@[simp] theorem kept_takeSupplies (common : Inputs) (islands : Tri Inputs) (s : State) :
    kept (takeSupplies common islands s) = kept s := by
  unfold takeSupplies
  dsimp only
  (repeat' split) <;> simp

/-! ### The event router -/

@[simp] theorem kept_updSource (n : Nat) (f : Source → Source) (s : State) :
    kept (updSource n f s) = kept s := by simp [updSource]

@[simp] theorem kept_claim (n : HostId) (s : State) : kept (claim n s).1 = kept s := by
  unfold claim
  split <;> simp

@[simp] theorem kept_complete (n : HostId) (k : Nat) (s : State) : kept (complete n k s) = kept s := by simp [complete]

@[simp] theorem kept_echo (h : HostId) (addr : Nat) (w : W32) (s : State) :
    kept (echo h addr w s) = kept s := by simp [echo]

@[simp] theorem kept_readClaim (h n : HostId) (s : State) : kept (readClaim h n s).1 = kept s := by simp [readClaim]
@[simp] theorem kept_moderationDue (n : Nat) (s : State) : kept (moderationDue n s) = kept s := by simp [moderationDue]
@[simp] theorem kept_idleAssert (n : HostId) (s : State) : kept (idleAssert n s) = kept s := by simp [idleAssert]

/-! ### Register writes -/

@[simp] theorem kept_writeGlb (h : HostId) (o : Nat) (w : W32) (s : State) : kept (writeGlb h o w s).1 = kept s := by
  unfold writeGlb
  dsimp only
  (repeat' split) <;> simp

@[simp] theorem kept_writeRst (h : HostId) (o : Nat) (w : W32) (s : State) : kept (writeRst h o w s).1 = kept s := by
  unfold writeRst
  dsimp only
  (repeat' split) <;> simp

@[simp] theorem kept_writeSource (f : Source → Source) (s : State) :
    kept (writeSource f s) = kept s := by simp [writeSource]

@[simp] theorem kept_writeEvr (o : Nat) (w : W32) (s : State) : kept (writeEvr o w s).1 = kept s := by
  unfold writeEvr
  split <;> simp

@[simp] theorem kept_writeVote (o : Nat) (w : W32) (s : State) : kept (writeVote o w s).1 = kept s := by
  unfold writeVote
  split <;> simp

@[simp] theorem kept_writeLane (l : Lane) (o : Nat) (w : W32) (s : State) : kept (writeLane l o w s).1 = kept s := by
  unfold writeLane
  split <;> simp

@[simp] theorem kept_ringCtl (r : Ring) (w : W32) (s : State) : kept (ringCtl r w s) = kept s := by simp [ringCtl]

@[simp] theorem kept_writeRing (r : Ring) (o : Nat) (w : W32) (s : State) : kept (writeRing r o w s).1 = kept s := by
  simp only [writeRing]
  (repeat' split) <;> simp

@[simp] theorem kept_writeTb (o : Nat) (w : W32) (s : State) : kept (writeTb o w s).1 = kept s := by
  unfold writeTb
  split <;> simp

@[simp] theorem kept_writeCrown (h : HostId) (o : Nat) (w : W32) (s : State) :
    kept (writeCrown h o w s).1 = kept s := by
  unfold writeCrown
  dsimp only
  (repeat' split) <;> simp

@[simp] theorem kept_writeComb (h : HostId) (o : Nat) (w : W32) (s : State) : kept (writeComb h o w s).1 = kept s := by
  unfold writeComb
  dsimp only
  (repeat' split) <;> simp

@[simp] theorem kept_writeChk (o : Nat) (w : W32) (s : State) : kept (writeChk o w s).1 = kept s := by
  unfold writeChk
  split <;> simp

@[simp] theorem kept_writeDoorBlock (h : HostId) (o : Nat) (w : W32) (s : State) :
    kept (writeDoorBlock h o w s).1 = kept s := by
  unfold writeDoorBlock
  dsimp only
  (repeat' split) <;> simp

@[simp] theorem kept_writeTest (h : HostId) (o : Nat) (w : W32) (s : State) : kept (writeTest h o w s).1 = kept s := by
  unfold writeTest
  dsimp only
  (repeat' split) <;> simp

@[simp] theorem kept_writeWk (o : Nat) (w : W32) (s : State) : kept (writeWk o w s).1 = kept s := by
  unfold writeWk
  split <;> simp

@[simp] theorem kept_writeTk (h : HostId) (o : Nat) (w : W32) (s : State) : kept (writeTk h o w s).1 = kept s := by
  unfold writeTk
  split <;> simp

@[simp] theorem kept_regAction (h : HostId) (addr : Nat) (w : W32) (s : State) :
    kept (regAction h addr w s).1 = kept s := by
  unfold regAction
  dsimp only
  (repeat' split) <;> simp

@[simp] theorem kept_regWrite (h : HostId) (addr : Nat) (w : W32) (s : State) :
    kept (regWrite h addr w s).1 = kept s := by
  unfold regWrite
  split <;> simp

@[simp] theorem kept_busWrite (h : HostId) (addr : Nat) (w : W32) (s : State) :
    kept (busWrite h addr w s) = kept s := by simp [busWrite]

/-! ### Command telegrams -/

@[simp] theorem kept_storeTseq (m : Tele) (s : State) : kept (storeTseq m s) = kept s := by simp [storeTseq]

@[simp] theorem kept_acceptCommand (eth : Bool) (m : Tele) (s : State) :
    kept (acceptCommand eth m s) = kept s := by simp [acceptCommand]

@[simp] theorem kept_countHeld (status : Nat) (s : State) : kept (countHeld status s) = kept s := by simp [countHeld]

@[simp] theorem kept_takeTele (x : Transport) (cal : Bool) (m : Tele) (s : State) :
    kept (takeTele x cal m s).1 = kept s := by
  unfold takeTele
  dsimp only
  (repeat' split) <;> simp

@[simp] theorem kept_ethTelegram (src : W32) (b : List Byte) (s : State) :
    kept (ethTelegram src b s) = kept s := by simp [ethTelegram]

@[simp] theorem kept_dropFrame (s : State) : kept (dropFrame s) = kept s := by simp [dropFrame]

@[simp] theorem kept_atCommandPort (src : W32) (tele : List Byte) (s : State) :
    kept (atCommandPort src tele s) = kept s := by simp [atCommandPort]

/-! ### The host port -/

@[simp] theorem kept_cacheGroup (addr : Nat) (s : State) : kept (cacheGroup addr s) = kept s := by simp [cacheGroup]
/-- A register read with its side effects, whatever it latches, claims or caches. -/
theorem kept_of_regReadFx {h : HostId} {addr : Nat} {s v : State} {w : W32} (hr : regReadFx h addr s = some (v, w)) :
    kept v = kept s := by
  unfold regReadFx at hr
  split at hr
  case h_13 =>
    obtain ⟨_, -, hv⟩ := Option.map_eq_some_iff.mp hr
    simp [← (Prod.mk.inj hv).1]
  all_goals simp [← (Prod.mk.inj (Option.some.inj hr)).1]

@[simp] theorem kept_busRead (h : HostId) (addr : Nat) (s : State) : kept (busRead h addr s) = kept s := by
  unfold busRead
  split
  · simp
  · split
    · simp
    · split
      next r hr => simp [kept_of_regReadFx hr]
      next => simp

@[simp] theorem kept_busRead16 (h : HostId) (addr : Nat) (s : State) :
    kept (busRead16 h addr s) = kept s := by simp [busRead16]

@[simp] theorem kept_hostTelegram (h : HostId) (addr : Nat) (b : List Byte) (s : State) :
    kept (hostTelegram h addr b s) = kept s := by simp [hostTelegram]

@[simp] theorem kept_perform (h : HostId) (op : Byte) (addr : Nat) (q : Request) (s : State) :
    kept (perform h op addr q s) = kept s := by
  unfold perform
  split <;> simp

@[simp] theorem kept_transact (h : HostId) (op : Byte) (addr : Nat) (q : Request) (check : W32) (s : State) :
    kept (transact h op addr q check s) = kept s := by simp [transact]

/-! ### The maintenance Ethernet -/

@[simp] theorem kept_ethSend (x : EthOut) (s : State) : kept (ethSend x s) = kept s := by simp [ethSend]

@[simp] theorem kept_echoReply (data : List Byte) (s : State) : kept (echoReply data s) = kept s := by
  unfold echoReply
  dsimp only
  split <;> simp

@[simp] theorem kept_refuseConn (port : Nat) (s : State) : kept (refuseConn port s) = kept s := by simp [refuseConn]
@[simp] theorem kept_connect (port : Nat) (s : State) : kept (connect port s) = kept s := by simp [connect]

@[simp] theorem kept_disconnect (x : TcpService) (s : State) : kept (disconnect x s) = kept s := by
  unfold disconnect
  split <;> simp

/-! ### Vital inputs -/

@[simp] theorem kept_vinCell (l : Lane) (old new : List VinEval) (s : State) (i : Nat) :
    kept (vinCell l old new s i) = kept s := by simp [vinCell]

@[simp] theorem kept_vinLane (x : VinSample) (l : Lane) (s : State) : kept (vinLane x l s) = kept s := by simp [vinLane]

@[simp] theorem kept_discrepancyLatch (l : Lane) (i : Nat) (s : State) : kept (discrepancyLatch l i s) = kept s := by
  unfold discrepancyLatch
  dsimp only
  split <;> simp

/-! ### The code store (R457, R480) -/

/-- What holds of the state a command leaves: neither the waiting commands nor the fuses have changed, and a canonical code
store is canonical still. -/
structure Keeps (s t : State) : Prop where
  pending : t.pending = s.pending
  fuse : t.fuse = s.fuse
  store : storeWf s = true → storeWf t = true

theorem store_of_kept {s t : State} (h : kept t = kept s) : t.store = s.store := congrArg (fun k => k.2.2) h

theorem Keeps.of_kept {s t : State} (h : kept t = kept s) : Keeps s t where
  pending := congrArg (fun k => k.1) h
  fuse := congrArg (fun k => k.2.1) h
  store hs := by rwa [storeWf, store_of_kept h]

theorem Keeps.trans {s t u : State} (h : Keeps s t) (k : Keeps t u) : Keeps s u where
  pending := k.pending.trans h.pending
  fuse := k.fuse.trans h.fuse
  store hs := k.store (h.store hs)

theorem keeps_storeWrite (a : Nat) (b : List Byte) (s : State) : Keeps s (storeWrite a b s) :=
  ⟨rfl, rfl, storeWrite_wf a b s⟩

theorem keeps_storeErase (a n : Nat) (s : State) : Keeps s (storeErase a n s) := ⟨rfl, rfl, storeErase_wf a n s⟩

theorem keeps_storeProgram (a n : Nat) (b : List Byte) (s : State) : Keeps s (storeProgram a n b s) :=
  (keeps_storeErase a n s).trans (keeps_storeWrite a b _)

theorem keeps_writeOptions (n : Nat) (b : List Byte) (s : State) : Keeps s (writeOptions n b s) := keeps_storeProgram ..

theorem keeps_writeSettings (n : Nat) (b : List Byte) (s : State) : Keeps s (writeSettings n b s) := keeps_storeProgram ..

/-- A repaired check goes to a retentive slot or to the code store (R395). -/
theorem keeps_writeCheck (code place : Nat) (v : W32) (s : State) : Keeps s (writeCheck code place v s) := by
  unfold writeCheck
  split
  · exact .of_kept (by simp)
  · exact keeps_storeWrite ..

theorem keeps_beginWrite (s : State) : Keeps s (beginWrite s) := by
  unfold beginWrite
  dsimp only
  split
  · exact .trans (.of_kept (by simp)) (keeps_storeErase ..)
  · exact .of_kept (by simp)

theorem keeps_writeItem (s : State) : Keeps s (writeItem s) := by
  unfold writeItem
  dsimp only
  split
  · exact ((keeps_storeProgram ..).trans (keeps_storeWrite ..)).trans (.of_kept (kept_bumpCounter ..))
  · split <;> exact (keeps_writeSettings ..).trans (keeps_writeSettings ..)
  · have hbanks := (keeps_storeProgram (bankAddr !s.keep.bank) 0x800000 s.upd.bytes s).trans
      (keeps_storeProgram (mirrorAddr !s.keep.bank) 0x800000 s.upd.bytes _)
    exact ⟨hbanks.pending, hbanks.fuse, hbanks.store⟩
  · exact (keeps_writeOptions ..).trans (keeps_writeOptions ..)

theorem keeps_endWrite (good : Bool) (s : State) : Keeps s (endWrite good s) := by
  unfold endWrite
  split
  · exact .of_kept (by simp)
  · split
    · refine .trans (.trans (.of_kept ?dropped) (keeps_writeItem (if s.upd.item = 3 then dropStaged s else s))) (.of_kept ?told)
      case dropped => simp
      case told => simp
    · exact .of_kept (by simp)

theorem keeps_rejectFirmware (s : State) : Keeps s (rejectFirmware s) :=
  .trans (.of_kept (by simp)) <| (keeps_storeWrite ..).trans (.of_kept (kept_releaseAndReset ..))

theorem keeps_noSettings (s : State) : Keeps s (noSettings s) := by
  unfold noSettings
  split
  · exact keeps_rejectFirmware s
  · exact .of_kept (by simp)

theorem keeps_loadSettings (s : State) : Keeps s (loadSettings s) := by
  unfold loadSettings
  dsimp only
  split
  case h_3 => exact keeps_noSettings s
  case h_4 =>
    (repeat' split)
    case isFalse.isFalse.isFalse => exact keeps_noSettings s
    all_goals exact .of_kept (by simp)
  all_goals exact .of_kept (by simp)

theorem keeps_matchCopies (s : State) : Keeps s (matchCopies s) := by
  unfold matchCopies
  split
  · exact (keeps_storeWrite ..).trans (.of_kept rfl)
  · exact .of_kept rfl

theorem keeps_toReady (ok : Lane → Bool) (s : State) : Keeps s (toReady ok s) :=
  (keeps_matchCopies s).trans (.of_kept (by simp [toReady]))

/-! ### Every command -/

/-- The commands that write the code store: a repaired check, a settings copy, an item of an update (R395, R473, R480). -/
def writesStore : Instr → Bool
  | .storedCheckFail .. | .settingsLoadDone .. | .moduleReady .. | .updChecksDone .. | .updWriteDone .. => true
  | _ => false

/-- What a command leaves when it completes. -/
def Ends (o : Host.Outcome State Fault Refusal) (P : State → Prop) : Prop := ∀ t, o = .next t → P t

@[simp] theorem ends_next (s : State) (P : State → Prop) : Ends (.next s) P ↔ P s := by simp [Ends]

theorem ends_verb (c : Nat) (l : Lane) (w : W64) (f : VWord → Work → Work) (s : State) :
    Ends (verb c l w f s) (fun t => kept t = kept s) := by
  unfold verb
  dsimp only
  split
  · simp [Ends]
  · rw [ends_next]
    (repeat' split) <;> simp

/-- END ends the phase after the verb (R81). -/
theorem ends_verbEnd (l : Lane) (w : W64) (s : State) : Ends (execVerbEnd l w s) (fun t => kept t = kept s) := by
  unfold execVerbEnd
  split
  next t hverb =>
    have hkept : kept t = kept s := ends_verb _ _ _ _ _ t hverb
    simp [hkept]
  all_goals simp [Ends]

/-- No other command writes the code store. -/
theorem exec_kept (c : Instr) (s : State) (hc : writesStore c = false) : Ends (exec c s) (fun t => kept t = kept s) := by
  cases c
  case storedCheckFail | settingsLoadDone | moduleReady | updChecksDone | updWriteDone => simp [writesStore] at hc
  case verbEnd l w => exact ends_verbEnd l w s
  case verbLd | verbLdn | verbAnd | verbAndn | verbOr | verbOrn | verbXor | verbXorn | verbNot | verbLdk | verbSt |
    verbStn | verbSet | verbRst | verbOpen | verbOpenn | verbCloseAnd | verbCloseOr | verbTon | verbTof | verbTp |
    verbTrst | verbTrd | verbEdgr | verbEdgf | verbWld | verbWst | verbWldi | verbWadd | verbWsub | verbWaddi | verbWand |
    verbWor | verbWeq | verbWlt | verbWeqi | verbWlti | verbWlda | verbAldw | verbWcnt | verbJmp | verbJc | verbJnc |
    verbCall | verbRet | verbEntry | verbNop | verbCmall | verbCmset | verbCmld | verbFault =>
    simp only [exec, execVerbLd, execVerbLdn, execVerbAnd, execVerbAndn, execVerbOr, execVerbOrn, execVerbXor,
      execVerbXorn, execVerbNot, execVerbLdk, execVerbSt, execVerbStn, execVerbSet, execVerbRst, execVerbOpen,
      execVerbOpenn, execVerbCloseAnd, execVerbCloseOr, execVerbTon, execVerbTof, execVerbTp, execVerbTrst, execVerbTrd,
      execVerbEdgr, execVerbEdgf, execVerbWld, execVerbWst, execVerbWldi, execVerbWadd, execVerbWsub, execVerbWaddi,
      execVerbWand, execVerbWor, execVerbWeq, execVerbWlt, execVerbWeqi, execVerbWlti, execVerbWlda, execVerbAldw,
      execVerbWcnt, execVerbJmp, execVerbJc, execVerbJnc, execVerbCall, execVerbRet, execVerbEntry, execVerbNop,
      execVerbCmall, execVerbCmset, execVerbCmld, execVerbFault, ends_verb]
  case inputLatch | logicPhaseStart | commitDeadline | voteComplete | commit | retentiveCopy | laneVoteReset |
    rejoinPassEnd | rejoinTimeout | degradedClockExpiry | degExpiryGraceEnd | laneWdogExpiry | laneClrMax |
    laneIslandBackInRange =>
    simp [exec, execInputLatch, execLogicPhaseStart, execCommitDeadline, execVoteComplete, execCommit, execRetentiveCopy,
      execLaneVoteReset, execRejoinPassEnd, execRejoinTimeout, execDegradedClockExpiry, execDegExpiryGraceEnd,
      execLaneWdogExpiry, execLaneClrMax, execLaneIslandBackInRange]
  case reflexFire =>
    simp [exec, execReflexFire]
  case vinDiscrepancyTimeout =>
    simp [exec, execVinDiscrepancyTimeout]
  case ringCycleBoundary | ringFrameReceive | ringFrameReturn | returnDeadline | linkSyncLost | linkSyncRegained |
    linkFaultReceived | healReadyTimer | healTimer | ringTestStart | ringCandidateStart | claimFrameReceive |
    laneTimeMeasure =>
    simp [exec, execRingCycleBoundary, execRingFrameReceive, execRingFrameReturn, execReturnDeadline, execLinkSyncLost,
      execLinkSyncRegained, execLinkFaultReceived, execHealReadyTimer, execHealTimer, execRingTestStart,
      execRingCandidateStart, execClaimFrameReceive, execLaneTimeMeasure]
  case dgClrGuard | dgClrIsolate =>
    simp [exec, execDgClrGuard, execDgClrIsolate]
  case leaseRecord | leaseAckRecord | timeRecord | partRecord | commandRecord | commitRecord | guardRecord | copyRecord |
    statusRecord | handoverOffer | releaseRecord | claimRecord | eventRecord | plLaneSyncChange | leaseExpiry |
    rotationDue =>
    simp [exec, execLeaseRecord, execLeaseAckRecord, execTimeRecord, execPartRecord, execCommandRecord, execCommitRecord,
      execGuardRecord, execCopyRecord, execStatusRecord, execHandoverOffer, execReleaseRecord, execClaimRecord,
      execEventRecord, execPlLaneSyncChange, execLeaseExpiry, execRotationDue]
  case pxStage | pxPropose | pxCancel | pxGoDeadline | pxIdLoRead =>
    simp [exec, execPxStage, execPxPropose, execPxCancel, execPxGoDeadline, execPxIdLoRead]
  case cellCreate | cellWriteDone | queueRoom | nandTimeout | combFreezeReq | freezeActive | freezeTimeout | combChalReq |
    combClearGo | clearInitialEraseDone | clearDone | combSnapTrig | combStreamRequest | combSeqLoRead =>
    simp [exec, execCellCreate, execCellWriteDone, execQueueRoom, execNandTimeout, execCombFreezeReq, execFreezeActive,
      execFreezeTimeout, execCombChalReq, execCombClearGo, execClearInitialEraseDone, execClearDone, execCombSnapTrig,
      execCombStreamRequest, execCombSeqLoRead]
  case portByteWrite | portHalfWrite | portWordWrite | portCopy | portSplice | portRead | scanRequest | chkTestOpen |
    chkTestWord | chkTestHalf | chkTestByte =>
    simp [exec, execPortByteWrite, execPortHalfWrite, execPortWordWrite, execPortCopy, execPortSplice, execPortRead,
      execScanRequest, execChkTestOpen, execChkTestWord, execChkTestHalf, execChkTestByte]
  case hpRead | hpWrite | hpRead16 | hpCommand | hpCsAbandon | hpCsClash | hpResponseTimeout =>
    simp [exec, execHpRead, execHpWrite, execHpRead16, execHpCommand, execHpCsAbandon, execHpCsClash,
      execHpResponseTimeout]
  case ethCommand | calTelegram =>
    simp [exec, execEthCommand, execCalTelegram]
  case ethConnectionAttempt | ethFrameDrop | ethConnectionClose =>
    simp [exec, execEthConnectionAttempt, execEthFrameDrop, execEthConnectionClose]
  case ptpMessage | tkCalSet | tbTimeLoRead | setIdLoRead | tkLoRead | lifeCheckpoint | lifetimeCounterUpdate |
    challengeExpiry | ptpLockLoss | calendarStepAtSecond =>
    simp [exec, execPtpMessage, execTkCalSet, execTbTimeLoRead, execSetIdLoRead, execTkLoRead, execLifeCheckpoint,
      execLifetimeCounterUpdate, execChallengeExpiry, execPtpLockLoss, execCalendarStepAtSecond]
  case eventSourceFire | evrClaim | evrComplete | moderationTimeout | hostIdleAssert | hostIdleRelease =>
    simp [exec, execEventSourceFire, execEvrClaim, execEvrComplete, execModerationTimeout, execHostIdleAssert,
      execHostIdleRelease]
  case powerOn | nrstPulse | rstSwCold | rstSwWarm | clockStableTimeout | pllStable =>
    simp [exec, execPowerOn, execNrstPulse, execRstSwCold, execRstSwWarm, execClockStableTimeout, execPllStable]
  case updHello | updOpen | updData | updClose | updSessionTimeout | updCtlAbort | updCtlRestart | updCtlRecover |
    recoveryReqSend | recoveryReq | pairInfoSend | pairInfo =>
    simp [exec, execUpdHello, execUpdOpen, execUpdData, execUpdClose, execUpdSessionTimeout, execUpdCtlAbort,
      execUpdCtlRestart, execUpdCtlRecover, execRecoveryReqSend, execRecoveryReq, execPairInfoSend, execPairInfo]
  case stStop | selftestStart | loopbackEnd | stAuthChalReq | stAuthGo | jtagInstruction | stInjFire | stInjEnd |
    stOvrArm | stAtbSelect =>
    simp [exec, execStStop, execSelftestStart, execLoopbackEnd, execStAuthChalReq, execStAuthGo, execJtagInstruction,
      execStInjFire, execStInjEnd, execStOvrArm, execStAtbSelect]
  case ringTestReq | ringClrMax | registerWrite =>
    simp [exec, execRingTestReq, execRingClrMax, execRegisterWrite]
  case scrubPass | telemetry | slackMeasure | ageingDaily | dramRetentionTest | tempHighTimer =>
    simp [exec, execScrubPass, execTelemetry, execSlackMeasure, execAgeingDaily, execDramRetentionTest, execTempHighTimer]
  case vkeepMeasure | supplyChange | supplyLost =>
    simp [exec, execVkeepMeasure, execSupplyChange, execSupplyLost]
  case flowGuard | serviceRoleMove | laneReady | vinEvaluate | lockSilenceTimeout | claimSilenceWin | claimAbandon |
    quietIntervalComplete | doorDegTimeExpiry | timeRecordTimeout | crownTake | outTimeout | startWaitExpiry |
    rotationRetry | stagingDone | bankDirectoryUpdate | combScanDone | combHoldupStop | scanDone | ethArpRequest |
    ethIcmpEcho | ethLinkChange | brownOut | nrstRelease | holdEnd | clocksStable | optionLoadDone | firmwareAccepted |
    startupSelftestDone | updAbortMsg | selftestStepDone | selftestCutShort | injectSessionExpiry | injectionEnd |
    calibration | lifeClockCalibrate =>
    simp only [exec, execFlowGuard, execServiceRoleMove, execLaneReady, execVinEvaluate, execLockSilenceTimeout,
      execClaimSilenceWin, execClaimAbandon, execQuietIntervalComplete, execDoorDegTimeExpiry, execTimeRecordTimeout,
      execCrownTake, execOutTimeout, execStartWaitExpiry, execRotationRetry, execStagingDone, execBankDirectoryUpdate,
      execCombScanDone, execCombHoldupStop, execScanDone, execEthArpRequest, execEthIcmpEcho, execEthLinkChange,
      execBrownOut, execNrstRelease, execHoldEnd, execClocksStable, execOptionLoadDone, execFirmwareAccepted,
      execStartupSelftestDone, execUpdAbortMsg, execSelftestStepDone, execSelftestCutShort, execInjectSessionExpiry,
      execInjectionEnd, execCalibration, execLifeClockCalibrate, ends_next]
    (repeat' split) <;> simp
  case latchRecord =>
    rw [exec, execLatchRecord, ends_next, kept_takeRcv _ _ fun u => ?_, kept_elapse]
    (repeat' split) <;> simp
  case handoverAccept | handoverRefuse | handoverCommit | handoverCancel =>
    simp only [exec, execHandoverAccept, execHandoverRefuse, execHandoverCommit, execHandoverCancel, ends_next]
    rw [kept_takeTwin _ _ fun a u => ?_, kept_elapse]
    (repeat' split) <;> simp
  case rotateNow =>
    rw [exec, execRotateNow, ends_next, kept_hostWrite _ _ _ ?_, kept_elapse]
    split <;> simp

/-- STORED_CHECK_FAIL rewrites at most one check (R395). -/
theorem ends_storedCheckFail (t : Nat) (code : Fin 4) (place : Nat) (stored : W32) (found : Tri (Option Reread))
    (abandoned : Bool) (s : State) : Ends (execStoredCheckFail t code place stored found abandoned s) (Keeps s) := by
  simp only [execStoredCheckFail, ends_next]
  (repeat' split)
  case h_1 v hv => exact .trans (.trans (.of_kept (by simp)) (keeps_writeCheck code place v _)) (.of_kept (kept_record ..))
  all_goals exact .of_kept (by simp)

/-- MODULE_READY rewrites at most one settings copy (R473). -/
theorem ends_moduleReady (t : Nat) (loaded : Tri Bool) (kats : Tri (BitVec 2)) (s : State) :
    Ends (execModuleReady t loaded s kats) (Keeps s) := by
  simp only [execModuleReady, ends_next]
  (repeat' split)
  · exact .of_kept (by simp)
  · exact .trans (.of_kept (by simp)) (keeps_toReady _ _)
  · exact .of_kept (by simp)

/-- Every command leaves the waiting commands, the fuses and the code store's form as they were. -/
theorem exec_keeps (c : Instr) (s : State) : Ends (exec c s) (Keeps s) := by
  by_cases hc : writesStore c = true
  · have htime (t : Nat) : Keeps s (elapse t s) := .of_kept (kept_elapse t s)
    cases c
    case storedCheckFail t code place stored found abandoned => exact ends_storedCheckFail t code place stored found abandoned s
    case settingsLoadDone t =>
      simp only [exec, execSettingsLoadDone, ends_next]
      split
      · exact (htime t).trans (keeps_loadSettings _)
      · exact htime t
    case moduleReady t loaded kats => exact ends_moduleReady t loaded kats s
    case updChecksDone t equal =>
      simp only [exec, execUpdChecksDone, ends_next]
      (repeat' split)
      · exact htime t
      · exact (htime t).trans (keeps_beginWrite _)
      · exact (htime t).trans (.of_kept (by simp))
    case updWriteDone t good =>
      simp only [exec, execUpdWriteDone, ends_next]
      split
      · exact (htime t).trans (keeps_endWrite good _)
      · exact htime t
    all_goals simp [writesStore] at hc
  · exact fun t ht => .of_kept (exec_kept c s (by simpa using hc) t ht)

/-- Settles O5: what every command keeps. -/
theorem commandsLeaveQueueAndFuses : Obligations.CommandsLeaveQueueAndFuses :=
  fun c s t ht => ⟨(exec_keeps c s t ht).pending, (exec_keeps c s t ht).fuse⟩

/-- Settles O3: the store and the queue of the reset state are empty. -/
theorem invariantAtReset : Obligations.InvariantAtReset := ⟨reset_storeWf, rfl⟩

/-- Settles O4: the front command leaves the queue, which loses one command and gains none; what every command keeps does
the rest. -/
theorem stepKeepsInvariant : Obligations.StepKeepsInvariant := by
  rintro s t ⟨hstore, hqueue⟩ hstep
  cases hs : s.pending with
  | nil =>
    rw [step_of_pending_nil hs] at hstep
    cases hstep
    exact ⟨hstore, hqueue⟩
  | cons c rest =>
    rw [step_of_pending_cons hs] at hstep
    obtain ⟨hpending, -, hkeeps⟩ := exec_keeps c _ t hstep
    rw [hs, List.all_cons, Bool.and_eq_true] at hqueue
    exact ⟨hkeeps hstore, by rw [hpending]; exact hqueue.2⟩

end Sys2Proof.Machine

/-! The check port of a lane (R387): what each operation leaves of its contexts. -/
namespace Sys2Proof.Machine

theorem ctxBytes_absorb (c : Nat) (b : List Byte) (p : ChkLane) : ctxBytes (absorb c b p) c = ctxBytes p c ++ b := by
  simp [absorb, ctxBytes, kvGet_kvPut]

theorem kvGet_absorb_self (c : Nat) (b : List Byte) (p : ChkLane) : (kvGet (absorb c b p).ctx c).isSome = true := by
  simp [absorb, kvGet_kvPut]

theorem kvGet_absorb_of_ne {c k : Nat} (b : List Byte) (p : ChkLane) (hk : k ≠ c) :
    kvGet (absorb c b p).ctx k = kvGet p.ctx k := by
  simp [absorb, kvGet_kvPut, hk]

/-- The contexts once the source d has been copied to the target c, which closes when the source is closed. -/
def copiedCtx (d c : Nat) (t : List (Nat × List Byte)) : List (Nat × List Byte) :=
  match kvGet t d with
  | some b => kvPut t c b
  | none => kvErase t c

theorem kvGet_copiedCtx (d c k : Nat) (t : List (Nat × List Byte)) :
    kvGet (copiedCtx d c t) k = if k = c then kvGet t d else kvGet t k := by
  unfold copiedCtx
  split
  next b hopen => rw [kvGet_kvPut, hopen]
  next hclosed => rw [kvGet_kvErase, hclosed]

/-- A write or a splice makes the context absorb the operation's bytes. -/
theorem exec_portAbsorb {t : Nat} {l : Lane} {c d : Fin 32} {s u : State} {i : Instr} {b : List Byte} (hu : u = elapse t s)
    (hi : (∃ x, i = .portByteWrite t l c x ∧ b = [x]) ∨ (∃ x : W16, i = .portHalfWrite t l c x ∧ b = leBytes 2 x.toNat)
      ∨ (∃ x : W32, i = .portWordWrite t l c x ∧ b = leBytes 4 x.toNat) ∨ (i = .portSplice t l d c ∧ b = ctxBytes (u.port.at l) d)) :
    exec i s = .next (updPort l (absorb c b) u) := by
  subst hu
  rcases hi with ⟨x, rfl, rfl⟩ | ⟨x, rfl, rfl⟩ | ⟨x, rfl, rfl⟩ | ⟨rfl, rfl⟩ <;> rfl

/-- Settles O46: the operations that absorb by what absorbing does to a table, COPY and READ by what they write there. -/
theorem checkPortOperations : Obligations.CheckPortOperations := by
  unfold Obligations.CheckPortOperations
  intro t l c d s u hu
  refine ⟨fun i b hi => ⟨absorb c b (u.port.at l), exec_portAbsorb hu hi, rfl, ctxBytes_absorb .., kvGet_absorb_self ..,
    fun k hk => kvGet_absorb_of_ne b _ hk⟩, ?copy, ?read⟩
  case copy =>
    refine ⟨{ u.port.at l with ctx := copiedCtx d c (u.port.at l).ctx }, ?_, rfl, ?_, fun k hk => ?_⟩
    · subst hu; rfl
    · rw [kvGet_copiedCtx, if_pos rfl]
    · rw [kvGet_copiedCtx, if_neg hk]
  case read =>
    refine ⟨{ u.port.at l with readOut := crc32c (ctxBytes (u.port.at l) c), ctx := kvErase (u.port.at l).ctx c }, ?_, rfl, rfl, ?_,
      fun k hk => ?_⟩
    · subst hu; rfl
    · rw [kvGet_kvErase, if_pos rfl]
    · rw [kvGet_kvErase, if_neg hk]

end Sys2Proof.Machine

/-! The event router (R419 to R425): what a fire, a claim, a completion and moderation leave of the sources. -/
namespace Sys2Proof.Machine

/-- Noting the asserted IRQ_N changes no source. -/
theorem noteIrq_frame (e : Evr) :
    (noteIrq e).src = e.src ∧ (noteIrq e).floor = e.floor ∧ (noteIrq e).idle = e.idle ∧ (noteIrq e).ignored = e.ignored :=
  ⟨rfl, rfl, rfl, rfl⟩

/-! ### A fire (R419) -/

theorem fireSource_fires (d : BitVec 4) (now : Nat) (x : Source) : (fireSource d now x).fires = satAdd x.fires 1 0xFFFF := by
  unfold fireSource
  dsimp only
  split <;> rfl

theorem fireSource_state (d : BitVec 4) (now : Nat) (x : Source) : (fireSource d now x).state =
    match x.state with
    | .idle => EvState.pending
    | .pending => .pending
    | .active => .activePending
    | .activePending => .activePending := by
  unfold fireSource
  dsimp only
  split <;> simp [*]

theorem fire_of_named {n : Nat} (hn : namedSource n = true) (s : State) : fire n s = { s with
    evr := noteIrq { s.evr with src := kvPut s.evr.src n (fireSource (atOnce n s) s.clk.now (sourceOf s n)) } } := if_pos hn

/-! ### A claim (R422) -/

/-- A claim changes the router alone. -/
theorem claim_eq (n : HostId) (s : State) : (claim n s).1 = { s with evr := (claim n s).1.evr } := by
  unfold claim
  split <;> rfl

/-- The source found first is the claimer's; every other stays. -/
theorem claim_of_best {n : HostId} {k : Nat} {s : State} (hbest : bestFor s.evr n = some k) :
    (claim n s).2 = k ∧ (claim n s).1.evr.src
      = kvPut s.evr.src k { sourceOf s k with state := .active, claimer := n, period := 0, deliver := 0 } := by
  simp only [claim, hbest]
  exact ⟨trivial, rfl⟩

theorem claim_of_none {n : HostId} {s : State} (hnone : bestFor s.evr n = none) :
    (claim n s).2 = (if s.evr.irqSeen.getLsbD n.val then 255 else 0) ∧ (claim n s).1.evr.src = s.evr.src := by
  simp only [claim, hnone]
  exact ⟨trivial, trivial⟩

/-- A claim read answers the source it claims. -/
theorem exec_evrClaim {t : Nat} {h n : HostId} {s u : State} (hu : u = elapse t s)
    (hserved : Served (0x030010 + 4 * n.val) u) :
    ∃ p, exec (.evrClaim t h n) s = .next { u with evr := (claim n u).1.evr, hp := p }
      ∧ Answers h 0 (leBytes 4 ((claim n u).2 % 2 ^ 32)) p := by
  obtain ⟨p, hstate, hanswers⟩ := answerRead_answers h (claimAddr n) (readClaim h n u).2 (readClaim h n u).1
  have hword : (readClaim h n u).2.toNat = (claim n u).2 % 2 ^ 32 := BitVec.toNat_ofNat ..
  refine ⟨p, ?_, hword ▸ hanswers⟩
  subst hu
  rw [exec, execEvrClaim, hostRead_of_served (addr := claimAddr n) h (readClaim h n) hserved, hstate]
  simp only [readClaim, echo]
  rw [claim_eq]

/-! ### A completion (R423) -/

/-- A completion changes the router alone. -/
theorem complete_eq (n : HostId) (k : Nat) (s : State) : complete n k s = { s with evr := (complete n k s).evr } := by
  unfold complete
  dsimp only
  (repeat' split) <;> rfl

theorem complete_of_active {n : HostId} {k : Nat} {s : State} (hnamed : namedSource k = true)
    (hclaimer : (sourceOf s k).claimer = n) (hactive : (sourceOf s k).state = .active) :
    (complete n k s).evr.src = kvPut s.evr.src k { sourceOf s k with state := .idle } := by
  rw [complete, if_pos ⟨hnamed, hclaimer, .inl hactive⟩, if_pos hactive]
  rfl

theorem complete_of_activePending {n : HostId} {k : Nat} {s : State} (hnamed : namedSource k = true)
    (hclaimer : (sourceOf s k).claimer = n) (hactive : (sourceOf s k).state = .activePending) :
    (complete n k s).evr.src = kvPut s.evr.src k
      { sourceOf s k with state := .pending, period := 1, since := s.clk.now, deliver := 0xF } := by
  have hnot : (sourceOf s k).state ≠ .active := by simp [hactive]
  rw [complete, if_pos ⟨hnamed, hclaimer, .inr hactive⟩, if_neg hnot]
  rfl

theorem complete_of_other {n : HostId} {k : Nat} {s : State} (hclaimer : (sourceOf s k).claimer ≠ n) :
    complete n k s = { s with evr := { s.evr with ignored := satAdd s.evr.ignored 1 0xFFFF } } :=
  if_neg fun hc => hclaimer hc.2.1

theorem complete_others {n : HostId} {k j : Nat} (hj : j ≠ k) (s : State) :
    kvGet (complete n k s).evr.src j = kvGet s.evr.src j := by
  unfold complete
  dsimp only
  (repeat' split) <;> simp [updSource, noteIrq, noteDone, kvGet_kvPut, hj]

/-! ### Moderation and idle targets (R424, R425) -/

theorem exec_moderationTimeout {t n : Nat} {s u : State} (hu : u = elapse t s) (hpending : (sourceOf u n).state = .pending)
    (hover : (sourceOf u n).since + (sourceOf u n).modTime * 1000 ≤ u.clk.now) :
    exec (.moderationTimeout t n) s = .next { u with
      evr := noteIrq { u.evr with src := kvPut u.evr.src n { sourceOf u n with deliver := 0xF } } } := by
  subst hu
  exact congrArg _ (if_pos ⟨hpending, hover⟩)

theorem kvGet_map {α β : Type} (g : α → β) (t : List (Nat × α)) (k : Nat) :
    kvGet (t.map fun x => (x.1, g x.2)) k = (kvGet t k).map g := by
  induction t with
  | nil => rfl
  | cons x t ih =>
    simp only [List.map_cons, kvGet, ih]
    split <;> rfl

/-- Settles O50: each event by what it writes to the table of sources. -/
theorem eventSourcesMove : Obligations.EventSourcesMove := by
  unfold Obligations.EventSourcesMove
  refine ⟨fun t n s u hu hnamed => ?fires, fun t h n s u hu hserved => ?claims, fun t h n k s u hu hserved => ?completes,
    fun t n s u hu hpending hover => ?moderation, fun t n s u hu => ⟨?idle, by subst hu; rfl⟩⟩
  case fires =>
    refine ⟨(fire n u).evr, by rw [exec, execEventSourceFire, ← hu, fire_eq], ?_⟩
    rw [fire_of_named hnamed]
    refine ⟨?_, ?_, fun k hk => ?_, rfl, rfl⟩
    · simp only [(noteIrq_frame _).1, kvGet_kvPut, if_true, Option.map_some, fireSource_state] <;> rfl
    · simp only [(noteIrq_frame _).1, kvGet_kvPut, if_true, Option.map_some, fireSource_fires]
    · simp only [(noteIrq_frame _).1, kvGet_kvPut, hk, if_false]
  case claims =>
    obtain ⟨p, hstate, hanswers⟩ := exec_evrClaim (h := h) hu hserved
    refine ⟨_, p, hstate, fun k hbest => ?_, fun hnone => ?_⟩
    · obtain ⟨hsource, hsrc⟩ := claim_of_best hbest
      rw [hsource] at hanswers
      exact ⟨hanswers, by rw [hsrc, kvGet_kvPut, if_pos rfl], fun j hj => by rw [hsrc, kvGet_kvPut, if_neg hj]⟩
    · obtain ⟨hsource, hsrc⟩ := claim_of_none hnone
      rw [hsource, Nat.mod_eq_of_lt (by split <;> decide)] at hanswers
      exact ⟨hanswers, hsrc⟩
  case completes =>
    obtain ⟨p, hstate, hanswers⟩ := hostWrite_of_result h hserved (f := fun s => done (complete n k.toNat s)) rfl
      (by rw [complete_eq])
    refine ⟨(complete n k.toNat u).evr, p, ?_, hanswers, fun hnamed hclaimer hactive => ?_, fun hnamed hclaimer hactive => ?_,
      fun hclaimer => by rw [complete_of_other hclaimer], fun j hj => complete_others hj u⟩
    · subst hu
      rw [exec, execEvrComplete, hstate, complete_eq]
    · rw [complete_of_active hnamed hclaimer hactive, kvGet_kvPut, if_pos rfl]
    · rw [complete_of_activePending hnamed hclaimer hactive, kvGet_kvPut, if_pos rfl]
  case moderation =>
    exact ⟨_, exec_moderationTimeout hu hpending hover, by rw [(noteIrq_frame _).1, kvGet_kvPut, if_pos rfl],
      fun j hj => by rw [(noteIrq_frame _).1, kvGet_kvPut, if_neg hj]⟩
  case idle =>
    subst hu
    refine ⟨_, rfl, rfl, fun k x hx => ?_⟩
    have hsource := kvGet_map (fun x : Source => if x.state = .pending then { x with deliver := x.deliver ||| (1#4 <<< n.val) } else x)
      (elapse t s).evr.src k
    rw [hx] at hsource
    exact hsource

end Sys2Proof.Machine

/-! A write of EVR_FLOOR (R421, R430) in the clock in which hardware sets a flag (R16). -/
namespace Sys2Proof.Machine

/-- Module A at READY, with the flag of bit 0 of 0x030000 noted as set by hardware in this clock. -/
def flagJustSet : State :=
  { State.reset with rst := { powered := true, stage := .ready }, setAt := [(flagKey 0x030000 0, 0)] }

/-- Every write goes by `clearable`, which takes bit 0 out of the word before it reaches the floors. -/
theorem busWrite_floor_flagJustSet : (busWrite 0 0x030000 0xFFFF flagJustSet).evr.floor = ⟨14, 15, 15, 15⟩ := by decide

/-- Refutes O48 by its third clause, which gives the floors the fields of the word written in any state. At `flagJustSet` the
note of when flags were set lists a bit of EVR_FLOOR with this clock, and the model drops that bit from the word (R16). -/
theorem not_hostPortTransactions : ¬ Obligations.HostPortTransactions := by
  unfold Obligations.HostPortTransactions
  rintro ⟨-, -, hfloors, -⟩
  have hserved : Served 0x030000 flagJustSet := ⟨by decide, by decide⟩
  obtain ⟨e, p, hexec, -, he⟩ := hfloors 0 0 0xFFFF flagJustSet flagJustSet rfl hserved _ (.inl rfl)
  have hstate : busWrite 0 0x030000 0xFFFF flagJustSet = { flagJustSet with evr := e, hp := p } :=
    Host.Outcome.next.inj hexec
  have hfloor : e.floor = ⟨14, 15, 15, 15⟩ := by rw [← busWrite_floor_flagJustSet, hstate]
  have hfull : e.floor = ⟨15, 15, 15, 15⟩ := congrArg Evr.floor he
  exact absurd (hfull.symm.trans hfloor) (by decide)

end Sys2Proof.Machine

/-! Module resets (R431 to R439, R453): what giving up the crown and a reset leave, and which source a reset takes as its own. -/
namespace Sys2Proof.Machine

/-! ### Giving up the crown (R202, R302) -/

theorem leaveDual_frame (r : Ring) (s : State) : (leaveDual r s).keep = s.keep ∧ (leaveDual r s).clk = s.clk
    ∧ (leaveDual r s).rst = s.rst ∧ (leaveDual r s).ret = s.ret ∧ (leaveDual r s).dir = s.dir := by
  unfold leaveDual
  dsimp only
  split <;> simp

theorem leaveDualAll_frame (s : State) : (leaveDualAll s).keep = s.keep ∧ (leaveDualAll s).clk = s.clk
    ∧ (leaveDualAll s).rst = s.rst ∧ (leaveDualAll s).ret = s.ret ∧ (leaveDualAll s).dir = s.dir := by
  simp [leaveDualAll, rings, leaveDual_frame]

/-- A module that gives up the crown keeps its records, its clocks, its reset unit and its retentive copies. -/
theorem quitCrown_frame (s : State) : (quitCrown s).keep = s.keep ∧ (quitCrown s).clk = s.clk
    ∧ (quitCrown s).rst = s.rst ∧ (quitCrown s).ret = s.ret ∧ (quitCrown s).dir = s.dir := by
  simp [quitCrown, leaveDualAll_frame]

/-! ### A reset (R431 to R437) -/

theorem blocksReset_resetModule (k : Keep) (codes : List Nat) (s : State) : BlocksReset (resetModule k codes s) :=
  ⟨rfl, rfl, rfl, rfl, rfl, rfl, rfl, rfl, rfl, rfl, rfl, rfl, rfl, rfl⟩

theorem startBank_eq (d : BankDir) (k : Keep) : ∃ b, startBank d k = { k with bank := b } := by
  unfold startBank
  split
  · exact ⟨_, rfl⟩
  · exact ⟨_, rfl⟩

/-- A reset writes its sources and the bank into the keep domain, and nothing else. -/
theorem resetModule_keep (k : Keep) (codes : List Nat) (s : State) : ∃ b srcs widest cause,
    (resetModule k codes s).keep = { k with bank := b, modSrc := srcs, widest := widest, lastCause := cause } := by
  obtain ⟨b, hb⟩ := startBank_eq s.dir (noteReset
    (codes.foldl (fun m c => m ||| 2 ^ (c - 1)) (if inReset s then s.keep.modSrc else 0)) (resetModule k codes s).rst.cur k)
  exact ⟨b, _, _, _, hb⟩

/-- The source a reset takes as its own: the widest of its codes, and of the one in progress (R437). -/
def resetSource (codes : List Nat) (s : State) : Nat :=
  if inReset s then wider s.rst.cur (codes.foldl wider (codes.headD 1)) else codes.foldl wider (codes.headD 1)

theorem resetModule_eq (k : Keep) (codes : List Nat) (s : State) :
    (resetModule k codes s).rst.cur = resetSource codes s ∧ (resetModule k codes s).rst.stage = .hold
      ∧ (resetModule k codes s).rst.powered = true ∧ (resetModule k codes s).rst.recovery = false
      ∧ (resetModule k codes s).ret = (if resetSource codes s = 7 then s.ret else ⟨{}, {}, {}⟩)
      ∧ (resetModule k codes s).clk = { s.clk with ring := ⟨{}, {}, {}⟩ } ∧ (resetModule k codes s).store = s.store :=
  ⟨rfl, rfl, rfl, rfl, rfl, rfl, rfl⟩

theorem resetModule_scans (k : Keep) (codes : List Nat) (s : State) : (resetModule k codes s).comb.state = .scanning := by
  simp only [resetModule]
  split <;> rfl

/-- With no reset in progress the widest of the codes counts. -/
theorem resetSource_of_ready {s : State} (codes : List Nat) (hready : s.rst.stage = .ready) :
    resetSource codes s = codes.foldl wider (codes.headD 1) := by
  simp [resetSource, inReset, hready]

/-- Nothing is wider than a power-up. -/
theorem wider_powerUp (c : Nat) : wider c 1 = 1 := by
  unfold wider reachRank
  split <;> simp

theorem resetSource_powerUp {codes : List Nat} (s : State) (hcodes : codes.foldl wider (codes.headD 1) = 1) :
    resetSource codes s = 1 := by
  rw [resetSource, hcodes, wider_powerUp, ite_self]

theorem resetSource_quitCrown (codes : List Nat) (s : State) : resetSource codes (quitCrown s) = resetSource codes s := by
  obtain ⟨-, -, hrst, -⟩ := quitCrown_frame s
  rw [resetSource, resetSource, inReset, inReset, hrst]

theorem store_quitCrown (s : State) : (quitCrown s).store = s.store := store_of_kept (kept_quitCrown s)

/-- What a module reset leaves, whatever its sources. -/
theorem moduleReset_leaves (codes : List Nat) (s : State) :
    BlocksReset (moduleReset codes s) ∧ (moduleReset codes s).rst.cur = resetSource codes s
      ∧ (moduleReset codes s).rst.stage = .hold ∧ (moduleReset codes s).rst.powered = true
      ∧ (moduleReset codes s).ret = (if resetSource codes s = 7 then s.ret else ⟨{}, {}, {}⟩)
      ∧ (moduleReset codes s).clk = { s.clk with ring := ⟨{}, {}, {}⟩ } ∧ (moduleReset codes s).store = s.store := by
  obtain ⟨-, hclk, -, hret, -⟩ := quitCrown_frame s
  obtain ⟨hcur, hstage, hpowered, -, hrets, hclks, hstore⟩ :=
    resetModule_eq (codes.foldl (fun k c => countReset c k) s.keep) codes (quitCrown s)
  rw [resetSource_quitCrown] at hcur hrets
  exact ⟨blocksReset_resetModule .., hcur, hstage, hpowered, hret ▸ hrets, hclk ▸ hclks, hstore.trans (store_quitCrown s)⟩

theorem moduleReset_keep (codes : List Nat) (s : State) : ∃ b srcs widest cause,
    (moduleReset codes s).keep = { codes.foldl (fun k c => countReset c k) s.keep with
      bank := b, modSrc := srcs, widest := widest, lastCause := cause } := resetModule_keep ..

theorem moduleReset_cnt (c : Nat) (s : State) : (moduleReset [c] s).keep.cnt
    = setNth s.keep.cnt (c - 1) (satAdd (nthD 0 s.keep.cnt (c - 1)) 1 0xFFFF) := by
  obtain ⟨b, srcs, widest, cause, hkeep⟩ := moduleReset_keep [c] s
  rw [hkeep]
  rfl

/-! ### Power-up (R431, R434, R526) -/

theorem keepLoss_frame (s : State) : (keepLoss s).clk.lifeUs = s.keep.checkpoint + 1000000 ∧ (keepLoss s).clk.calValid = false
    ∧ (keepLoss s).keep.lifeGap = true ∧ (keepLoss s).keep.lost = false ∧ (keepLoss s).store = s.store :=
  ⟨rfl, rfl, rfl, rfl, rfl⟩

theorem recordGap_frame (s : State) : (recordGap s).rst = s.rst ∧ (recordGap s).clk = s.clk ∧ (recordGap s).keep = s.keep
    ∧ (recordGap s).store = s.store := by
  simp [recordGap]

theorem blocksReset_recordGap {s : State} (h : BlocksReset s) : BlocksReset (recordGap s) := by
  simpa [BlocksReset, recordGap] using h

theorem exec_powerOn {t : Nat} {s u : State} (hu : u = elapse t s) (hoff : u.rst.powered = false) (hkept : u.keep.lost = false) :
    exec (.powerOn t false) s = .next (moduleReset [1] u) := by
  subst hu
  simp only [exec, execPowerOn, hoff, hkept, Bool.or_self, Bool.false_eq_true, if_false]

theorem exec_powerOn_lost {t : Nat} {s u : State} (hu : u = elapse t s) (hoff : u.rst.powered = false) :
    exec (.powerOn t true) s = .next (recordGap (moduleReset [1, 9] (keepLoss u))) := by
  subst hu
  simp only [exec, execPowerOn, hoff, Bool.true_or, Bool.false_eq_true, if_false, if_true]

/-! ### Brown-out and the PIN reset (R433, R439) -/

theorem exec_brownOut {t x : Nat} {s u : State} (hu : u = elapse t s) (hhold : u.pwr.holdup = true) (hlost : u.pwr.lostAt = some x)
    (hend : x + 2000000 ≤ u.clk.now) : exec (.brownOut t) s = .next
      { resetModule u.keep [2] (quitCrown u) with
        rst := { (resetModule u.keep [2] (quitCrown u)).rst with powered := inputUsable u } } := by
  subst hu
  simp only [exec, execBrownOut, hhold, hlost, hend, decide_true, Bool.and_self, if_true]

theorem exec_nrstPulse {t n : Nat} {s u : State} (hu : u = elapse t s) (hon : u.rst.powered = true) (hlong : 40 ≤ n) :
    exec (.nrstPulse t n) s = .next { moduleReset [3] u with
      rst := { (moduleReset [3] u).rst with nrst := true, level := false } } := by
  subst hu
  simp only [exec, execNrstPulse, hon, hlong, Bool.not_true, Bool.false_eq_true, if_false, if_true]

/-! ### Software resets (R302, R438) -/

/-- A software reset is ordered: SW_COLD or SW_WARM. -/
def softCode (warm : Bool) : Nat := if warm then 7 else 6

theorem exec_rstSw {t : Nat} {h : HostId} {s u : State} (warm : Bool) (key : W16) (hu : u = elapse t s) :
    exec (if warm then .rstSwWarm t h key else .rstSwCold t h key) s
      = .next (hostWrite h 0x010040 (softReset (softCode warm) key h) u) := by
  subst hu
  cases warm <;> rfl

/-- A write that resets the module is answered by no response. -/
theorem hostWrite_of_closed {addr : Nat} {f : State → State × Nat} {s : State} (h : HostId) (hserved : Served addr s)
    (hclosed : hostOpen (f s).1 = false) : hostWrite h addr f s = silentPort (f s).1 := by
  obtain ⟨hopen, hgate⟩ := hserved
  simp only [hostWrite, hopen, hgate, answerWrite, hclosed, Bool.not_true, Bool.false_eq_true, if_false]

theorem softReset_of_key {code : Nat} {s : State} (h : HostId) (hcrown : crowned s = false) :
    softReset code 0xC3A5 h s = done (releaseAndReset code s) := by
  simp [softReset, hcrown]

/-- The RELEASE record is sent before the reset; it changes nothing of what the reset keeps. -/
theorem releaseAndReset_leaves (code : Nat) (s : State) :
    BlocksReset (releaseAndReset code s) ∧ (releaseAndReset code s).rst.cur = resetSource [code] s
      ∧ (releaseAndReset code s).rst.stage = .hold
      ∧ (releaseAndReset code s).ret = (if resetSource [code] s = 7 then s.ret else ⟨{}, {}, {}⟩)
      ∧ (releaseAndReset code s).store = s.store := by
  obtain ⟨hblocks, hcur, hstage, -, hret, -, hstore⟩ := moduleReset_leaves [code] (send .release s)
  have hsource : resetSource [code] (send .release s) = resetSource [code] s := by simp [resetSource, inReset]
  have hsentRet : (send .release s).ret = s.ret := by simp
  have hsentStore : (send .release s).store = s.store := by simp
  rw [hsource] at hcur hret
  exact ⟨hblocks, hcur, hstage, hsentRet ▸ hret, hstore.trans hsentStore⟩

/-- Settles O51: each source by the reset it makes, which leaves what every reset leaves. -/
theorem moduleResets : Obligations.ModuleResets := by
  unfold Obligations.ModuleResets
  refine ⟨fun t s u hu hoff => ⟨fun hkept => ?powerUp, ?keepLost⟩, fun t x s u hu hhold hlost hend hready => ?brownOut,
    fun t n s u hu hon => ⟨fun hlong hready => ?pin, fun hone hshort => ?short, fun hheld => ?released⟩,
    fun t h warm s u hu hserved hready => ⟨fun hcrown => ?ordered, fun key hkey => ?wrongKey⟩⟩
  case powerUp =>
    obtain ⟨hblocks, hcur, hstage, hpowered, hret, hclk, hstore⟩ := moduleReset_leaves [1] u
    rw [resetSource_powerUp u rfl] at hcur hret
    exact ⟨_, exec_powerOn hu hoff hkept, hpowered, hcur, hstage, hret, hblocks, resetModule_scans .., by rw [hclk], hstore,
      moduleReset_cnt 1 u⟩
  case keepLost =>
    obtain ⟨hblocks, hcur, hstage, hpowered, -, hclk, hstore⟩ := moduleReset_leaves [1, 9] (keepLoss u)
    obtain ⟨b, srcs, widest, cause, hkeep⟩ := moduleReset_keep [1, 9] (keepLoss u)
    obtain ⟨hlife, hcal, hgap, hlost, hlossStore⟩ := keepLoss_frame u
    obtain ⟨hrst, hclk', hkeep', hstore'⟩ := recordGap_frame (moduleReset [1, 9] (keepLoss u))
    rw [resetSource_powerUp (keepLoss u) rfl] at hcur
    refine ⟨_, exec_powerOn_lost hu hoff, ?_⟩
    rw [hrst, hclk', hkeep', hstore', hclk, hkeep, hstore]
    exact ⟨hpowered, hcur, hstage, blocksReset_recordGap hblocks, hlife, hcal, hgap, hlost, hlossStore⟩
  case brownOut =>
    obtain ⟨hcur, hstage, -, -, hret, -, hstore⟩ := resetModule_eq u.keep [2] (quitCrown u)
    obtain ⟨b, srcs, widest, cause, hkeep⟩ := resetModule_keep u.keep [2] (quitCrown u)
    rw [resetSource_quitCrown, resetSource_of_ready [2] hready] at hcur hret
    have hcnt := congrArg Keep.cnt hkeep
    have hblocks := blocksReset_resetModule u.keep [2] (quitCrown u)
    exact ⟨_, exec_brownOut hu hhold hlost hend, hcur, hstage, rfl, hcnt, hret, hblocks, hstore.trans (store_quitCrown u)⟩
  case pin =>
    obtain ⟨hblocks, hcur, hstage, -, -, -, hstore⟩ := moduleReset_leaves [3] u
    rw [resetSource_of_ready [3] hready] at hcur
    exact ⟨_, exec_nrstPulse hu hon hlong, hcur, hstage, rfl, moduleReset_cnt 3 u, hblocks, hstore⟩
  case short =>
    subst hu
    have hnot : ¬ 40 ≤ n := by omega
    simp only [exec, execNrstPulse, hon, hnot, hone, Bool.not_true, Bool.false_eq_true, if_false, if_true]
  case released =>
    subst hu
    simp only [exec, execNrstRelease, hheld, if_true]
  case ordered =>
    obtain ⟨hblocks, hcur, hstage, hret, hstore⟩ := releaseAndReset_leaves (softCode warm) u
    rw [resetSource_of_ready _ hready] at hcur hret
    have hreset := softReset_of_key (code := softCode warm) h hcrown
    refine ⟨silentPort (releaseAndReset (softCode warm) u), ?_, ?_, hstage, rfl, ?_, ?_, hblocks, hstore⟩
    · rw [exec_rstSw warm _ hu, hostWrite_of_closed h hserved (by rw [hreset]; rfl), hreset]
      rfl
    · rw [silentPort_rst, hcur]
      cases warm <;> rfl
    · rfl
    · rw [silentPort_ret, hret]
      cases warm <;> rfl
  case wrongKey =>
    obtain ⟨p, hstate, hanswers⟩ := hostWrite_of_result h hserved (f := softReset (softCode warm) key h) (v := u) (st := 0)
      (if_pos hkey) rfl
    exact ⟨p, by rw [exec_rstSw warm key hu, hstate], hanswers⟩

end Sys2Proof.Machine

/-! The bring-up stages (R440 to R455, R473, R485, R503): what each stage's end leaves. -/
namespace Sys2Proof.Machine

/-! ### Clocks and options (R440 to R447) -/

/-- A command that does not write the code store leaves it as it was. -/
theorem store_of_next {c : Instr} {t : Nat} {s u v : State} (hc : writesStore c = false) (hu : u = elapse t s)
    (hnext : exec c s = .next v) : v.store = u.store := by
  have hkept : kept v = kept u := (exec_kept c s hc v hnext).trans (by rw [hu, kept_elapse])
  exact store_of_kept hkept

theorem safeOptions_loads (why bad : Nat) (s : State) : (safeOptions why bad s).opt = { fail := true, why := why, bad := bad }
    ∧ (safeOptions why bad s).keep = { s.keep with attempts := 0 }
    ∧ (safeOptions why bad s).rst = { s.rst with cold := true, dram := false } := by
  simp [safeOptions]

theorem loadOptions_keep (s : State) : (loadOptions s).keep.attempts = 0 ∧ (loadOptions s).clk = s.clk := by
  unfold loadOptions
  dsimp only
  (repeat' split) <;> simp [safeOptions_loads, useOptions]

/-- The option load begins, or the safe defaults are taken: the references and the given-up lanes stay (R446). -/
theorem toOptions_frame (s : State) : (toOptions s).rst.refs = s.rst.refs ∧ (toOptions s).rst.off = s.rst.off
    ∧ (toOptions s).eng = s.eng := by
  unfold toOptions toPll toStage
  dsimp only
  split <;> simp [safeOptions_loads]

theorem toOptions_of_attempts {s : State} (h : s.keep.attempts < 8) : toOptions s =
    { s with rst := { s.rst with stage := .options, stageAt := s.clk.now }
             keep := { s.keep with attempts := s.keep.attempts + 1 } } := by
  simp [toOptions, toStage, Nat.not_le.mpr h]

theorem settleClocks_of_clocks {s : State} (h : s.rst.stage = .clocks) :
    settleClocks s = if refsSuffice s then toOptions s else s := if_pos h

/-! ### Lanes given up (R442) -/

/-- A fold keeps what its step keeps. -/
theorem foldl_proj {α β : Type} (proj : State → β) {f : State → α → State} (hf : ∀ s x, proj (f s x) = proj s) (l : List α)
    (s : State) : proj (l.foldl f s) = proj s := by
  induction l generalizing s with
  | nil => rfl
  | cons x l ih => rw [List.foldl_cons, ih, hf]

theorem giveUp_frame (s : State) (l : Lane) : (giveUp s l).rst = { s.rst with off := s.rst.off.put l true }
    ∧ (giveUp s l).eng = s.eng ∧ (giveUp s l).ret = s.ret ∧ (giveUp s l).test = s.test := by
  unfold giveUp
  split
  case isTrue hoff =>
    have hput : s.rst.off.put l true = s.rst.off := by rw [← hoff, Tri.put_at]
    simp [hput]
  case isFalse => simp

/-- Giving up some lanes adds them to the lanes that stay OFF. -/
theorem giveUpAll_frame (ls : List Lane) (s : State) : (ls.foldl giveUp s).rst = { s.rst with
      off := ls.foldl (fun o l => o.put l true) s.rst.off }
    ∧ (ls.foldl giveUp s).eng = s.eng ∧ (ls.foldl giveUp s).ret = s.ret ∧ (ls.foldl giveUp s).test = s.test := by
  induction ls generalizing s with
  | nil => simp
  | cons l ls ih =>
    obtain ⟨hrst, heng, hret, htest⟩ := giveUp_frame s l
    simp [ih, hrst, heng, hret, htest]

theorem offAfter_at (p : Lane → Bool) (o : Tri Bool) (l : Lane) :
    ((lanes.filter p).foldl (fun o l => o.put l true) o).at l = (o.at l || p l) := by
  cases l <;> simp only [lanes, List.filter] <;> (repeat' split) <;> simp_all

theorem moveService_frame (m : Lane) (s : State) : (moveService false m s).rst = s.rst ∧ (moveService false m s).eng = s.eng
    ∧ (moveService false m s).ret = s.ret ∧ (moveService false m s).test = s.test := by
  simp [moveService]

@[simp] theorem serviceAway_frame (s : State) : (serviceAway s).rst = s.rst ∧ (serviceAway s).eng = s.eng
    ∧ (serviceAway s).ret = s.ret ∧ (serviceAway s).test = s.test := by
  unfold serviceAway
  dsimp only
  (repeat' split) <;> simp [moveService_frame]

/-- The lanes of a boot that may not run are given up, and the service role leaves them. -/
theorem dropLanes_frame (ok : Lane → Bool) (s : State) :
    (∀ l, (dropLanes ok s).rst.off.at l = (s.rst.off.at l || (boots s l && !ok l)))
    ∧ (dropLanes ok s).rst = { s.rst with off := (dropLanes ok s).rst.off } ∧ (dropLanes ok s).ret = s.ret
    ∧ (dropLanes ok s).test = s.test := by
  obtain ⟨hrst, heng, hret, htest⟩ := giveUpAll_frame (lanes.filter (fun l => boots s l && !ok l)) s
  simp only [dropLanes, serviceAway_frame, hrst, hret, htest, offAfter_at, and_self, implies_true]

/-! ### The firmware (R450, R451, R488) -/

/-- A boot from the code store ends in recovery mode, or in the self-test or stage LOAD. -/
theorem storeBoot_stage (acc : Tri Bool) (s : State) : (storeBoot acc s).rst.recovery = true
    ∨ (storeBoot acc s).rst.stage = .selftest ∨ (storeBoot acc s).rst.stage = .load := by
  unfold storeBoot
  split
  · exact .inl rfl
  · dsimp only
    split
    · exact .inl rfl
    · split
      · exact .inl rfl
      · unfold acceptStore
        dsimp only [toStage]
        split <;> simp

/-! ### Stage LOAD: the settings (R429, R473, R485, R522) -/

@[simp] theorem loadRouter_frame (b : Settings) (s : State) : (loadRouter b s).set = s.set ∧ (loadRouter b s).glb = s.glb := by
  unfold loadRouter
  dsimp only
  exact ⟨foldl_proj State.set (by intros; rfl) b.router s, foldl_proj State.glb (by intros; rfl) b.router s⟩

@[simp] theorem applyStep_frame (s : State) : (applyStep s).set = s.set ∧ (applyStep s).glb = s.glb := by
  unfold applyStep
  dsimp only
  (repeat' split) <;> simp

/-- Settings that come into force are the settings block, and what the lanes do with it changes no setting. -/
theorem applySettings_frame (n bad other : Nat) (b : Settings) (s : State) :
    (applySettings n bad other b s).set = { s.set with block := some b, used := n, bad := bad, other := other }
    ∧ (applySettings n bad other b s).glb = { s.glb with valid := true, k := b.k, profile := b.profile } := by
  have hload := foldl_proj (fun w : State => (w.set, w.glb)) (f := fun w l => if boots w l then loadActive l w else w)
    (fun w l => by split <;> rfl) lanes
  obtain ⟨hset, hglb⟩ := Prod.ext_iff.mp (hload _)
  exact ⟨hset.trans (by simp), hglb.trans (by simp)⟩

/-- Without a good settings block the module resets, its reason kept (R473, R485). -/
theorem noSettings_resets (s : State) : (noSettings s).rst.stage = .hold ∧ (noSettings s).glb.valid = false
    ∧ ((noSettings s).keep.reason = 2 ∨ (noSettings s).keep.reason = 3) := by
  have hreset (w : State) : (releaseAndReset 6 w).rst.stage = .hold ∧ (releaseAndReset 6 w).glb.valid = false
      ∧ (releaseAndReset 6 w).keep.reason = w.keep.reason := by
    obtain ⟨b, srcs, widest, cause, hkeep⟩ := moduleReset_keep [6] (send .release w)
    have hsent : (send .release w).keep = w.keep := by simp
    refine ⟨rfl, rfl, (congrArg Keep.reason hkeep).trans ?_⟩
    rw [hsent]
    rfl
  unfold noSettings
  split
  · obtain ⟨hstage, hvalid, hreason⟩ := hreset (storeWrite (fwAddr + 24) [0, 0, 0, 0]
      { s with keep := { s.keep with reason := 2, fwSettings := true } })
    exact ⟨hstage, hvalid, .inl (hreason.trans (by simp))⟩
  · obtain ⟨hstage, hvalid, hreason⟩ := hreset { s with keep := { s.keep with reason := 3, recoverAsked := true } }
    exact ⟨hstage, hvalid, .inr hreason⟩

/-! ### Stage READY (R440, R455) -/

theorem knownAnswers_frame (l : Lane) (units : BitVec 2) (s : State) : (knownAnswers l units s).rst = s.rst
    ∧ (knownAnswers l units s).lane = s.lane ∧ (knownAnswers l units s).bank = s.bank
    ∧ (∀ m, m ≠ l → ((knownAnswers l units s).port.at m).kat = (s.port.at m).kat
      ∧ (knownAnswers l units s).test.katWrong.at m = s.test.katWrong.at m)
    ∧ ((knownAnswers l units s).port.at l).kat = if s.test.katWrong.at l then 0 else units := by
  simp +contextual [knownAnswers]

/-- What the check units of the lanes that boot answered, once each has been asked. -/
theorem knownAnswersAll_frame (kats : Tri (BitVec 2)) (ls : List Lane) (hdistinct : ls.Nodup) (s : State) :
    (ls.foldl (fun s l => knownAnswers l (kats.at l) s) s).rst = s.rst
    ∧ (ls.foldl (fun s l => knownAnswers l (kats.at l) s) s).lane = s.lane
    ∧ (ls.foldl (fun s l => knownAnswers l (kats.at l) s) s).bank = s.bank
    ∧ (∀ l, ((ls.foldl (fun s l => knownAnswers l (kats.at l) s) s).port.at l).kat
        = if l ∈ ls then (if s.test.katWrong.at l then 0 else kats.at l) else (s.port.at l).kat) := by
  induction ls generalizing s with
  | nil => simp
  | cons m ls ih =>
    obtain ⟨hm, hrest⟩ := List.nodup_cons.mp hdistinct
    obtain ⟨hrst, hlane, hbank, hothers, hsame⟩ := knownAnswers_frame m (kats.at m) s
    obtain ⟨hrst', hlane', hbank', hkats⟩ := ih hrest (knownAnswers m (kats.at m) s)
    refine ⟨hrst'.trans hrst, hlane'.trans hlane, hbank'.trans hbank, fun l => ?_⟩
    rw [List.foldl_cons, hkats]
    by_cases hl : l = m
    · subst hl
      simp [hm, hsame]
    · obtain ⟨hkat, hwrong⟩ := hothers l hl
      simp [hl, hkat, hwrong]

@[simp] theorem releaseLane_frame (ok : Lane → Bool) (s : State) (l : Lane) : (releaseLane ok s l).rst = s.rst
    ∧ (releaseLane ok s l).crown = s.crown ∧ (releaseLane ok s l).clk = s.clk ∧ (releaseLane ok s l).ring = s.ring := by
  unfold releaseLane
  split <;> simp

theorem releaseLane_other {l m : Lane} (ok : Lane → Bool) (s : State) (h : m ≠ l) :
    (releaseLane ok s l).lane.at m = s.lane.at m := by
  unfold releaseLane
  split <;> simp [h]

theorem releaseLane_same {l : Lane} {s : State} (ok : Lane → Bool) (h : boots s l = true) :
    ((releaseLane ok s l).lane.at l).state = .starting ∧ ((releaseLane ok s l).lane.at l).ready = ok l := by
  simp [releaseLane, h]

theorem boots_releaseLane (ok : Lane → Bool) (s : State) (l m : Lane) : boots (releaseLane ok s l) m = boots s m := by
  have hsuspect : ((releaseLane ok s l).lane.at m).suspect = (s.lane.at m).suspect := by
    unfold releaseLane retainRegs
    (repeat' split) <;> simp <;> split <;> simp_all
  simp [boots, clocksOk, laneOf, hsuspect]

/-- Every lane that boots is released into STARTING. -/
theorem releaseLanes_at {l : Lane} {s : State} (ok : Lane → Bool) (h : boots s l = true) :
    ((lanes.foldl (releaseLane ok) s).lane.at l).state = .starting ∧ ((lanes.foldl (releaseLane ok) s).lane.at l).ready = ok l := by
  cases l <;> simp [lanes, releaseLane_other, releaseLane_same, boots_releaseLane, h]

theorem wrapIfBroken_released (s : State) (r p : Ring) :
    ((wrapIfBroken s r).ring.at p).released = (s.ring.at p).released := by
  unfold wrapIfBroken wrapPort
  dsimp only
  (repeat' split) <;> simp <;> split <;> simp_all

@[simp] theorem tellFwSettings_frame (s : State) : (tellFwSettings s).rst = s.rst ∧ (tellFwSettings s).crown = s.crown
    ∧ (tellFwSettings s).lane = s.lane ∧ (tellFwSettings s).clk = s.clk ∧ (tellFwSettings s).ring = s.ring := by
  unfold tellFwSettings
  split <;> simp

@[simp] theorem resetCell_frame (s : State) : (resetCell s).rst.stage = s.rst.stage ∧ (resetCell s).crown = s.crown
    ∧ (resetCell s).lane = s.lane ∧ (resetCell s).clk = s.clk ∧ (resetCell s).ring = s.ring := by
  unfold resetCell
  dsimp only
  split <;> simp

@[simp] theorem enterSeeking_crown_state (s : State) : (enterSeeking s).crown.state = .seeking := by
  simp [enterSeeking, setCrown_crown]

/-- With both settings copies alike, READY rewrites neither. -/
theorem matchCopies_of_none {s : State} (h : s.rst.chosen = none) : matchCopies s = s := by
  simp [matchCopies, h]

theorem doorStart_rest (s : State) : (doorStart s).rst = s.rst ∧ (doorStart s).lane = s.lane ∧ (doorStart s).clk = s.clk :=
  ⟨rfl, rfl, rfl⟩

/-- The rings whose link is broken wrap: nothing of the rest changes. -/
theorem wrapBrokenRings_frame (s : State) : (rings.foldl wrapIfBroken s).rst = s.rst ∧ (rings.foldl wrapIfBroken s).crown = s.crown
    ∧ (rings.foldl wrapIfBroken s).lane = s.lane ∧ (rings.foldl wrapIfBroken s).clk = s.clk
    ∧ (∀ p, ((rings.foldl wrapIfBroken s).ring.at p).released = (s.ring.at p).released) := by
  simp [rings, wrapIfBroken_released]

theorem releaseLanes_frame (ok : Lane → Bool) (s : State) : (lanes.foldl (releaseLane ok) s).rst = s.rst
    ∧ (lanes.foldl (releaseLane ok) s).clk = s.clk ∧ (lanes.foldl (releaseLane ok) s).ring = s.ring := by
  simp [lanes]

/-- Stage READY: the module seeks, its rings are released, its ring time starts, and every lane that boots is STARTING. -/
theorem toReady_frame {s : State} (ok : Lane → Bool) (h : s.rst.chosen = none) :
    (toReady ok s).rst.stage = .ready ∧ (toReady ok s).crown.state = .seeking
      ∧ (∀ l, boots s l = true → ((toReady ok s).lane.at l).state = .starting ∧ ((toReady ok s).lane.at l).ready = ok l)
      ∧ (∀ r, ((toReady ok s).ring.at r).released = true) ∧ (∀ l, ((toReady ok s).clk.ring.at l).ns = 0) := by
  unfold toReady
  rw [matchCopies_of_none h]
  simp only [tellFwSettings_frame, resetCell_frame, wrapBrokenRings_frame, fire_frame, doorStart_crown, doorStart_ring, doorStart_rest,
    enterSeeking_frame, enterSeeking_crown_state, releaseLanes_frame]
  refine ⟨rfl, trivial, fun l hboots => ?_, fun r => ?_, fun l => ?_⟩
  · exact releaseLanes_at ok hboots
  · simp
  · cases l <;> rfl

/-- With both settings copies alike the code store stays. -/
theorem kept_toReady {s : State} (ok : Lane → Bool) (h : s.rst.chosen = none) : kept (toReady ok s) = kept s := by
  simp [toReady, matchCopies_of_none h]

theorem mem_bootLanes (s : State) (l : Lane) : l ∈ lanes.filter (boots s) ↔ boots s l = true := by
  cases l <;> simp [lanes]

/-- The lanes that report ready once the known answers are in. -/
theorem loadedLane_knownAnswers (loaded : Tri Bool) (kats : Tri (BitVec 2)) (s : State) (l : Lane) :
    loadedLane loaded ((lanes.filter (boots s)).foldl (fun s l => knownAnswers l (kats.at l) s) s) l
      = (boots s l && loaded.at l && kats.at l == 3 && !s.test.katWrong.at l && (activeProg s l).isSome) := by
  obtain ⟨hrst, hlane, hbank, hkats⟩ := knownAnswersAll_frame kats (lanes.filter (boots s)) (.filter _ (by decide)) s
  have hboots (m : Lane) : boots ((lanes.filter (boots s)).foldl (fun s l => knownAnswers l (kats.at l) s) s) m = boots s m := by
    simp only [boots, clocksOk, laneOf, hrst, hlane]
  have hprog : activeProg ((lanes.filter (boots s)).foldl (fun s l => knownAnswers l (kats.at l) s) s) l = activeProg s l := by
    simp only [activeProg, hbank]
  rw [loadedLane, hboots, hprog, hkats]
  by_cases hl : boots s l = true
  · rw [if_pos ((mem_bootLanes s l).mpr hl)]
    by_cases hwrong : s.test.katWrong.at l = true <;> simp [hl, hwrong, Bool.beq_eq_decide_eq]
  · simp [hl]

/-! ### The obligation -/

theorem exec_firmwareAccepted {t : Nat} {s u : State} (acc : Tri Bool) (hu : u = elapse t s) (hstage : u.rst.stage = .boot)
    (hrec : u.rst.recovery = false) :
    exec (.firmwareAccepted t acc) s = .next (if u.rst.dram then dramBoot acc u else storeBoot acc u) := by
  simp [exec, execFirmwareAccepted, ← hu, hstage, hrec]

theorem exec_settingsLoadDone {t : Nat} {s u : State} (hu : u = elapse t s) (hstage : u.rst.stage = .load) (hvalid : u.glb.valid = false) :
    exec (.settingsLoadDone t) s = .next (loadSettings u) := by
  simp [exec, execSettingsLoadDone, ← hu, hstage, hvalid]

theorem exec_moduleReady {t : Nat} {s u : State} (loaded : Tri Bool) (kats : Tri (BitVec 2)) (hu : u = elapse t s)
    (hstage : u.rst.stage = .load) (hvalid : u.glb.valid = true)
    (hcount : 2 ≤ countLanes (fun l => boots u l && loaded.at l && kats.at l == 3 && !u.test.katWrong.at l && (activeProg u l).isSome)) :
    exec (.moduleReady t loaded kats) s = .next (toReady
      (loadedLane loaded ((lanes.filter (boots u)).foldl (fun s l => knownAnswers l (kats.at l) s) u))
      ((lanes.filter (boots u)).foldl (fun s l => knownAnswers l (kats.at l) s) u)) := by
  have hready := funext (loadedLane_knownAnswers loaded kats u)
  rw [← hready] at hcount
  simp only [exec, execModuleReady, ← hu, hstage, hvalid, hcount, ne_eq, not_true, Bool.true_eq_false, or_self, if_false, if_true]

/-- The reset of a stage that gives lanes up: which lanes count as stable is as before. -/
theorem settleClocks_frame {s : State} (hstage : s.rst.stage = .clocks) : (settleClocks s).rst.refs = s.rst.refs
    ∧ (settleClocks s).rst.off = s.rst.off ∧ (settleClocks s).eng = s.eng := by
  rw [settleClocks_of_clocks hstage]
  split
  · exact toOptions_frame s
  · exact ⟨rfl, rfl, rfl⟩

/-- The state with the clocks that are stable added to those that were. -/
def withRefs (refs : Tri Bool) (s : State) : State := { s with rst := { s.rst with refs := orLanes s.rst.refs refs } }

theorem refsStable_eq {refs : Tri Bool} {s : State} (hstage : s.rst.stage = .clocks) (hovr : s.rst.ovr = false) :
    refsStable refs s = if refsSuffice (withRefs refs s) then toOptions (withRefs refs s) else withRefs refs s := by
  have hunfold : refsStable refs s = if s.rst.stage = .clocks ∧ (refsSuffice (withRefs refs s) || s.rst.ovr)
    then toOptions (withRefs refs s) else withRefs refs s := rfl
  simp [hunfold, hstage, hovr]

/-- The references that are stable are counted; when they suffice the option load begins (R440, R441). -/
theorem refsStable_stage {refs : Tri Bool} {u : State} (hstage : u.rst.stage = .clocks) (hovr : u.rst.ovr = false)
    (hattempts : u.keep.attempts < 8) : ∃ (r : Rst) (k : Keep), refsStable refs u = { u with rst := r, keep := k }
      ∧ r.refs = orLanes u.rst.refs refs
      ∧ (refsSuffice (withRefs refs u) = true → r.stage = .options ∧ k = { u.keep with attempts := u.keep.attempts + 1 })
      ∧ (refsSuffice (withRefs refs u) = false → r.stage = .clocks ∧ k = u.keep) := by
  have heq := refsStable_eq (refs := refs) hstage hovr
  by_cases hsuffice : refsSuffice (withRefs refs u) = true
  · rw [if_pos hsuffice, toOptions_of_attempts (s := withRefs refs u) hattempts] at heq
    exact ⟨_, _, heq, rfl, fun _ => ⟨rfl, rfl⟩, fun hno => absurd (hsuffice.symm.trans hno) (by decide)⟩
  · rw [if_neg hsuffice] at heq
    exact ⟨_, _, heq, rfl, fun hyes => absurd hyes hsuffice, fun _ => ⟨hstage, rfl⟩⟩

theorem exec_clocksStable {t : Nat} {s u : State} (refs : Tri Bool) (hu : u = elapse t s) (hstage : u.rst.stage = .clocks) :
    exec (.clocksStable t refs) s = .next (refsStable refs u) := by
  simp [exec, execClocksStable, ← hu, hstage]

theorem exec_pllStable {t : Nat} {s u : State} (plls : Tri Bool) (hu : u = elapse t s) (hstage : u.rst.stage = .pll)
    (hpll : u.rst.pllAt.isSome = true) :
    exec (.pllStable t plls) s = .next (settleClocks { u with rst := { u.rst with plls := orLanes u.rst.plls plls } }) := by
  have hgo : ¬ (u.rst.pllAt.isNone = true ∨ u.rst.stage = .ready) := by
    rw [hstage]
    simpa using Option.isSome_iff_ne_none.mp hpll
  simp only [exec, execPllStable, ← hu, hgo, if_false]

theorem settleClocks_of_pll {s : State} (hstage : s.rst.stage = .pll)
    (htwo : 2 ≤ countLanes (fun l => clocksOk s l && !s.rst.off.at l)) : settleClocks s = toBoot s := by
  simp [settleClocks, hstage, htwo]

/-- Enough lanes are left when those that are late are given up. -/
theorem exec_clockStableTimeout {t : Nat} {s u : State} (hu : u = elapse t s) (hstage : u.rst.stage = .clocks)
    (htwo : 2 ≤ countLanes (fun l => !clockLate u l && !u.rst.off.at l)) (hlate : lanes.any (clockLate u) = true) :
    exec (.clockStableTimeout t) s = .next (settleClocks (serviceAway ((lanes.filter (clockLate u)).foldl giveUp u))) := by
  obtain ⟨hrst, -⟩ := giveUpAll_frame (lanes.filter (clockLate u)) u
  have hcount : ¬ countLanes (fun l => !((lanes.filter (clockLate u)).foldl giveUp u).rst.off.at l) < 2 := by
    simpa only [hrst, offAfter_at, Bool.not_or, Bool.and_comm, Nat.not_lt] using htwo
  have hsome : ¬ (lanes.all (fun l => !clockLate u l)) = true := by
    rw [← List.not_any_eq_all_not, hlate]
    decide
  simp only [exec, execClockStableTimeout, ← hu, hstage, hsome, hcount, if_false, reduceCtorEq, or_self]

theorem storeBoot_of_none {s : State} (acc : Tri Bool) (h : fwHeader s = none) : storeBoot acc s = enterRecovery 1 s := by
  unfold storeBoot
  split
  case h_1 => rfl
  case h_2 hsome => exact absurd (h.symm.trans hsome) (by simp)

theorem toPll_frame (s : State) : (toPll s).opt = s.opt ∧ (toPll s).rst.cold = s.rst.cold := ⟨rfl, rfl⟩

/-- What the option load does, by which of the copies are good (R445). -/
theorem loadOptions_of_none {s : State} (hx : goodOptions s 0 = none) (hy : goodOptions s 1 = none) :
    loadOptions s = noteBadCopies 3 (safeOptions 2 3 s) := by
  unfold loadOptions
  split <;> simp_all

theorem loadOptions_of_first {s : State} {x : List Byte} (hx : goodOptions s 0 = some x) (hy : goodOptions s 1 = none) :
    loadOptions s = noteBadCopies 2 (useOptions 0 2 0 x s) := by
  unfold loadOptions
  split <;> simp_all

theorem loadOptions_of_second {s : State} {y : List Byte} (hx : goodOptions s 0 = none) (hy : goodOptions s 1 = some y) :
    loadOptions s = noteBadCopies 1 (useOptions 1 1 0 y s) := by
  unfold loadOptions
  split <;> simp_all

theorem loadOptions_of_both {s : State} {x y : List Byte} (hx : goodOptions s 0 = some x) (hy : goodOptions s 1 = some y) :
    loadOptions s = if leAt x 0 2 = leAt y 0 2 ∧ x ≠ y then safeOptions 3 0 s
      else if newerSeq (leAt y 0 2) (leAt x 0 2) then useOptions 1 0 (leAt x 0 2) y s else useOptions 0 0 (leAt y 0 2) x s := by
  unfold loadOptions
  split <;> simp_all

/-- Two good copies of one sequence number that differ are no good; else the newer one is used. -/
theorem loadOptions_opt_of_both {s : State} {x y : List Byte} (hx : goodOptions s 0 = some x) (hy : goodOptions s 1 = some y) :
    (leAt x 0 2 = leAt y 0 2 → x ≠ y → (loadOptions s).opt.fail = true ∧ (loadOptions s).opt.why = 3)
      ∧ (leAt x 0 2 ≠ leAt y 0 2 → (loadOptions s).opt.fail = false
          ∧ (loadOptions s).opt.used = if newerSeq (leAt y 0 2) (leAt x 0 2) then 1 else 0) := by
  rw [loadOptions_of_both hx hy]
  refine ⟨fun hseq hne => ?_, fun hseq => ?_⟩
  · rw [if_pos ⟨hseq, hne⟩]
    simp [safeOptions_loads]
  · rw [if_neg (fun h => hseq h.1)]
    split <;> exact ⟨rfl, rfl⟩

/-- What the settings load does, by which of the copies are good (R473). -/
theorem loadSettings_of_none {s : State} (hx : goodCopy s 0 = none) (hy : goodCopy s 1 = none) : loadSettings s = noSettings s := by
  unfold loadSettings
  split <;> simp_all

theorem loadSettings_of_first {s : State} {x : Settings} (hx : goodCopy s 0 = some x) (hy : goodCopy s 1 = none) :
    loadSettings s = applySettings 0 2 0 x { s with rst := { s.rst with chosen := none } } := by
  unfold loadSettings
  split <;> simp_all

theorem loadSettings_of_second {s : State} {y : Settings} (hx : goodCopy s 0 = none) (hy : goodCopy s 1 = some y) :
    loadSettings s = applySettings 1 1 0 y { s with rst := { s.rst with chosen := none } } := by
  unfold loadSettings
  split <;> simp_all

theorem loadSettings_of_both {s : State} {x y : Settings} (hx : goodCopy s 0 = some x) (hy : goodCopy s 1 = some y) :
    (loadSettings s).glb.valid = true ∨ (loadSettings s).rst.stage = .hold := by
  generalize hw : loadSettings s = w
  unfold loadSettings at hw
  dsimp only at hw
  rw [hx, hy] at hw
  dsimp only at hw
  by_cases halike : copyBytes s 0 = copyBytes s 1
  · rw [if_pos halike] at hw
    simp [← hw, applySettings_frame]
  · rw [if_neg halike] at hw
    split at hw
    · simp [← hw, applySettings_frame]
    · split at hw
      · simp [← hw, applySettings_frame]
      · exact .inr (hw ▸ (noSettings_resets s).1)

/-- A restart from DRAM copies with lanes enough (R450). -/
theorem dramBoot_stage {acc : Tri Bool} {s : State} (htwo : 2 ≤ countLanes (fun l => boots s l && acc.at l && (laneOf s l).fwCopy)) :
    (dramBoot acc s).rst.stage = .load ∧ (dramBoot acc s).rst.boot = 3
      ∧ (∀ l, (dramBoot acc s).rst.off.at l = (s.rst.off.at l || (boots s l && !(acc.at l && (laneOf s l).fwCopy)))) := by
  generalize hw : dramBoot acc s = w
  unfold dramBoot at hw
  dsimp only at hw
  rw [if_pos htwo] at hw
  subst hw
  refine ⟨rfl, rfl, fun l => ((dropLanes_frame _ _).1 l).trans ?_⟩
  change (s.rst.off.at l || (boots s l && !(boots s l && acc.at l && (laneOf s l).fwCopy))) = _
  cases boots s l <;> simp

/-- The start-up self-test ends with its verdict; only the lanes that passed go on (R503). -/
theorem exec_startupSelftestDone {t : Nat} {s u w : State} (es : List (W32 × W32)) (hu : u = elapse t s)
    (hstage : u.rst.stage = .selftest) (hw : w = { u with ret := ⟨{}, {}, {}⟩, test := { u.test with shown := some es } }) :
    exec (.startupSelftestDone t es) s = .next (if 2 ≤ countLanes (boots (dropLanes (testedOk w es) (endTest 2 es w)))
      then toStage .load (dropLanes (testedOk w es) (endTest 2 es w))
      else retryClocks (dropLanes (testedOk w es) (endTest 2 es w))) := by
  subst hw
  simp only [exec, execStartupSelftestDone, ← hu, hstage, ne_eq, not_true, if_false]

theorem loadOrRetry_frame (c : Prop) [Decidable c] (s : State) : (if c then toStage .load s else retryClocks s).ret = s.ret
    ∧ (if c then toStage .load s else retryClocks s).test = s.test := by
  split <;> exact ⟨rfl, rfl⟩

theorem endTest_test (kind : Nat) (es : List (W32 × W32)) (s : State) : (endTest kind es s).test.shown = s.test.shown
    ∧ (endTest kind es s).test.kind = kind ∧ (endTest kind es s).test.result = testVerdict s.upd.fwRun es
    ∧ (endTest kind es s).ret = s.ret := by
  simp [endTest]

/-- Settles O52, stage by stage. -/
theorem bringUpStages : Obligations.BringUpStages := by
  unfold Obligations.BringUpStages
  refine ⟨fun t s u hu hstage hpowered hnrst hend => ?hold, fun t refs s u hu hstage hovr hattempts => ?clocks,
    fun t s u hu hstage htwo hlate => ?timeout, fun t s u hu hstage => ?options,
    fun t plls s u hu hstage hpll hovr htwo => ?pll, fun t acc s u hu hstage hrec => ⟨fun hdram htwo => ?dram, fun hdram => ?store⟩,
    fun t es s u hu hstage => ?selftest, fun t s u hu hstage hvalid => ?settings,
    fun t loaded kats s u hu hstage hvalid hchosen htwo => ?ready⟩
  case hold =>
    subst hu
    simp only [exec, execHoldEnd, hstage, hpowered, hnrst, hend, and_self, if_true]
    rfl
  case clocks =>
    obtain ⟨r, k, heq, hrefs, hyes, hno⟩ := refsStable_stage (refs := refs) hstage hovr hattempts
    refine ⟨r, k, (exec_clocksStable refs hu hstage).trans (congrArg _ heq), fun l => ?_, ?_, ?_⟩
    · rw [hrefs]
      exact Tri.at_map ..
    · rw [hrefs]
      exact hyes
    · rw [hrefs]
      exact hno
  case timeout =>
    have hnext := exec_clockStableTimeout hu hstage htwo hlate
    obtain ⟨hrst, heng, -⟩ := giveUpAll_frame (lanes.filter (clockLate u)) u
    obtain ⟨haway, hawayEng, -⟩ := serviceAway_frame ((lanes.filter (clockLate u)).foldl giveUp u)
    obtain ⟨hrefs, hoff, hengAfter⟩ := settleClocks_frame (s := serviceAway ((lanes.filter (clockLate u)).foldl giveUp u))
      (by rw [haway, hrst, hstage])
    refine ⟨_, hnext, fun l => ?_, ?_, store_of_next rfl hu hnext, hengAfter.trans (hawayEng.trans heng)⟩
    · rw [hoff, haway, hrst, offAfter_at]
    · rw [hrefs, haway, hrst]
  case options =>
    have hnext : exec (.optionLoadDone t) s = .next (toPll (loadOptions u)) := by
      simp [exec, execOptionLoadDone, ← hu, hstage]
    obtain ⟨hattempts, hclk⟩ := loadOptions_keep u
    refine ⟨_, hnext, rfl, congrArg (fun c : Clocks => some c.now) hclk, hattempts, store_of_next rfl hu hnext, ?_⟩
    obtain ⟨hopt, hcold⟩ := toPll_frame (loadOptions u)
    rw [hopt, hcold]
    split
    case h_1 hx hy => simp [loadOptions_of_none hx hy, safeOptions_loads]
    case h_2 x hx hy => simp [loadOptions_of_first hx hy, useOptions]
    case h_3 x hx hy => simp [loadOptions_of_second hx hy, useOptions]
    case h_4 x y hx hy => exact loadOptions_opt_of_both hx hy
  case pll =>
    have hplls (l : Lane) : (orLanes u.rst.plls plls).at l = (u.rst.plls.at l || plls.at l) := Tri.at_map ..
    have hsettle := settleClocks_of_pll (s := { u with rst := { u.rst with plls := orLanes u.rst.plls plls } }) hstage
      (by simpa only [clocksOk, hplls] using htwo)
    refine ⟨_, _, (exec_pllStable plls hu hstage hpll).trans (congrArg _ hsettle), rfl, fun l => ?_⟩
    simp only [Tri.at_map, clocksOk, hplls]
  case dram =>
    have hnext : exec (.firmwareAccepted t acc) s = .next (dramBoot acc u) := by
      rw [exec_firmwareAccepted acc hu hstage hrec, hdram]
      rfl
    obtain ⟨hload, hboot, hoff⟩ := dramBoot_stage htwo
    exact ⟨_, hnext, hload, hboot, store_of_next rfl hu hnext, hoff⟩
  case store =>
    have hnext : exec (.firmwareAccepted t acc) s = .next (storeBoot acc u) := by
      rw [exec_firmwareAccepted acc hu hstage hrec, hdram]
      rfl
    refine ⟨_, hnext, store_of_next rfl hu hnext, fun hnone => ?_, storeBoot_stage acc u⟩
    rw [storeBoot_of_none acc hnone]
    exact ⟨rfl, rfl⟩
  case selftest =>
    have hnext := exec_startupSelftestDone es hu hstage rfl
    generalize hw : ({ u with ret := ⟨{}, {}, {}⟩, test := { u.test with shown := some es } } : State) = w at hnext
    obtain ⟨-, -, hret, htest⟩ := dropLanes_frame (testedOk w es) (endTest 2 es w)
    obtain ⟨hshown, hkind, hresult, hretW⟩ := endTest_test 2 es w
    refine ⟨_, hnext, ?_, ?_, ?_, ?_, store_of_next rfl hu hnext⟩
    all_goals simp only [loadOrRetry_frame, hret, htest, hshown, hkind, hresult, hretW]
    all_goals subst hw; rfl
  case settings =>
    have hnext := exec_settingsLoadDone hu hstage hvalid
    refine ⟨_, hnext, ?_⟩
    split
    case h_1 hx hy => exact loadSettings_of_none hx hy ▸ noSettings_resets u
    case h_2 x hx hy => simp [loadSettings_of_first hx hy, applySettings_frame]
    case h_3 x hx hy => simp [loadSettings_of_second hx hy, applySettings_frame]
    case h_4 x y hx hy => exact loadSettings_of_both hx hy
  case ready =>
    have hnext := exec_moduleReady loaded kats hu hstage hvalid htwo
    obtain ⟨hrst, hlane, -⟩ := knownAnswersAll_frame kats (lanes.filter (boots u)) (.filter _ (by decide)) u
    have hready (l : Lane) := loadedLane_knownAnswers loaded kats u l
    have hkept : kept ((lanes.filter (boots u)).foldl (fun s l => knownAnswers l (kats.at l) s) u) = kept u :=
      kept_foldl (fun _ _ => kept_knownAnswers ..) _ u
    generalize (lanes.filter (boots u)).foldl (fun s l => knownAnswers l (kats.at l) s) u = w at *
    have hboots (l : Lane) : boots w l = boots u l := by simp only [boots, clocksOk, laneOf, hrst, hlane]
    obtain ⟨hstage', hcrown, hlanes, hrings, htime⟩ := toReady_frame (loadedLane loaded w) (hrst ▸ hchosen)
    refine ⟨_, hnext, hstage', hcrown, fun l hl => ?_, hrings, htime, ?_⟩
    · obtain ⟨hstarting, hok⟩ := hlanes l ((hboots l).trans hl)
      refine ⟨hstarting, hok.trans ((hready l).trans ?_)⟩
      rw [hl, Bool.true_and]
    · exact store_of_kept ((kept_toReady _ (hrst ▸ hchosen)).trans hkept)

end Sys2Proof.Machine

/-! The end of an update session's writing (R324, R480). -/
namespace Sys2Proof.Machine

/-- A program of the inactive bank is being written for the Ethernet source while an exchange stands PROPOSED. -/
def writingForbiddenBank : State :=
  { State.reset with
    upd := { State.reset.upd with phase := .writing, lock := some .eth, item := 3 }
    px := { State.reset.px with state := .proposed } }

/-- A program write that meets an exchange state which forbids it ends STATE_REFUSED, whatever its read-back says (R324). -/
theorem endWrite_of_forbidden {s : State} (good : Bool) (hitem : s.upd.item = 3) (hforbids : exchangeForbids s = true) :
    endWrite good s = resultSession stStateRefused s := if_pos ⟨hitem, hforbids⟩

/-- Whoever holds the lock, a RESULT leaves its status as the last one. -/
theorem resultSession_last {src : UpdSrc} {s : State} (status : Nat) (hlock : s.upd.lock = some src) :
    (resultSession status s).upd.last = status := by
  simp [resultSession, hlock, releaseLock]

/-- Refutes O53 by its last conjunct, which has every write whose read-back differs end WRITE_FAILED, whatever its item. At
`writingForbiddenBank` the session ends STATE_REFUSED, since the exchange forbids the write (R324). -/
theorem not_updateSession : ¬ Obligations.UpdateSession := by
  unfold Obligations.UpdateSession
  rintro ⟨-, -, -, -, hwrite⟩
  obtain ⟨-, v, hexec, -, -, hlast, -⟩ := hwrite 0 .eth writingForbiddenBank (elapse 0 writingForbiddenBank) rfl rfl rfl
  have hends : endWrite false (elapse 0 writingForbiddenBank) = v := Host.Outcome.next.inj hexec
  have hstate := (endWrite_of_forbidden false rfl (by decide)).symm.trans hends
  have hrefused : v.upd.last = stStateRefused := hstate ▸ resultSession_last stStateRefused rfl
  exact absurd (hrefused.symm.trans hlast) (by decide)

end Sys2Proof.Machine

/-! Update controls, recovery requests between partners and pair information (R475, R478, R482 to R490). -/
namespace Sys2Proof.Machine

/-! ### Sessions and messages -/

/-- Whoever holds the lock, an ABORT frees it and leaves its status as the last one. -/
theorem abortSession_upd {src : UpdSrc} {s : State} (status : Nat) (hlock : s.upd.lock = some src) :
    (abortSession status s).upd = { s.upd with
      phase := .idle, lock := none, last := status, failed := satAdd s.upd.failed 1 0xFF } := by
  simp [abortSession, hlock, releaseLock]

/-- A message to the partner is one record more on the link. -/
theorem updSend_partner_out {s : State} (m : List Byte) (hsync : s.pl.sync0 = true) :
    (updSend .partner m s).pl.out = s.pl.out ++ [{ rcd := .image m, lane := none }] := by
  simp [updSend, sent, hsync, plCopies, sentTwice]

/-- The request a module in recovery mode sends to its partner (R490). -/
def recoveryMsg (s : State) : List Byte :=
  updMsg 0x09 (if s.keep.reason = 3 then 2 else 1) s.keep.reason 0 0
    (if s.keep.reason = 2 then ((fwHeader s).map (fun h => leAt h 4 4)).getD 0 else 0) []

theorem recoveryMsg_head (s : State) : (recoveryMsg s).take 3
    = [0x09, if s.keep.reason = 3 then 2 else 1, BitVec.ofNat 8 s.keep.reason] := by
  unfold recoveryMsg
  split <;> rfl

@[simp] theorem returnItem_frame (item version : Nat) (b : List Byte) (s : State) :
    (returnItem item version b s).upd = { s.upd with returned := true } ∧ (returnItem item version b s).eng = s.eng
      ∧ (returnItem item version b s).lane = s.lane := by
  have hfold := foldl_proj (fun w : State => (w.upd, w.eng, w.lane)) (f := fun s m => updSend .partner m s) (fun s m => by simp)
  exact ⟨congrArg (·.1) (hfold _ _), congrArg (·.2.1) (hfold _ _), congrArg (·.2.2) (hfold _ _)⟩

theorem answerRecovery_frame (item : Nat) (version : W32) (s : State) :
    (answerRecovery item version s).upd.reqSeen = s.upd.reqSeen ∧ (answerRecovery item version s).upd.phase = s.upd.phase
      ∧ (answerRecovery item version s).eng = s.eng ∧ (answerRecovery item version s).lane = s.lane := by
  unfold answerRecovery
  dsimp only
  (repeat' split) <;> simp

/-- The first request of a partner in recovery mode is noted; answering it changes no more of the loader (R490). -/
theorem takeRecoveryReq_frame {s : State} (item : Nat) (version : W32) (reason : Nat) (hready : s.rst.stage = .ready)
    (hfirst : s.upd.reqSeen = false) :
    (takeRecoveryReq item version reason s).upd.reqSeen = true
      ∧ (takeRecoveryReq item version reason s).upd.phase = s.upd.phase
      ∧ (takeRecoveryReq item version reason s).eng = s.eng ∧ (takeRecoveryReq item version reason s).lane = s.lane := by
  simp only [takeRecoveryReq, hready, hfirst, ne_eq, not_true, Bool.false_eq_true, if_false]
  split <;> simp [answerRecovery_frame]

/-! ### UPD_CTL (R478, R484, R488) -/

theorem writeUpdCtl_of_idle {h : HostId} {w : W32} {s : State} (hidle : s.test.running = false ∨ bit w 2 = false) :
    writeUpdCtl h w s = hostWrite h 0x110020 (updCtl h w) s := by
  have hno : (hostOpen s && s.test.running && decide (bits w 31 16 = 0x5A3C) && bit w 2) = false := by
    rcases hidle with h | h <;> simp [h]
  simp [writeUpdCtl, hno]

/-- What a word without a key does that asks for the end of the session. -/
theorem updCtl_abort {w : W32} (h : HostId) (s : State) (hkey : ¬ bits w 31 16 = 0x5A3C) (h0 : bit w 0 = true) :
    updCtl h w s = (abortSession updHost s, stOk) := by
  simp [updCtl, hkey, h0, done]

/-- What a keyed word does that orders a restart. -/
theorem updCtl_restart {w : W32} {s : State} (h : HostId) (hkey : bits w 31 16 = 0x5A3C) (h0 : bit w 0 = false)
    (h1 : bit w 1 = false) (h2 : bit w 2 = true) (hcrown : takesOrHolds s = false) (hdue : s.test.due = none) :
    updCtl h w s = ({ s with test := { s.test with due := some s.clk.now, reason := 2, andThen := true } }, stOk) := by
  simp [updCtl, hkey, h0, h1, h2, hcrown, hdue, done]

/-- What a keyed word does that asks for recovery mode. -/
theorem updCtl_recover {w : W32} {s : State} (h : HostId) (hkey : bits w 31 16 = 0x5A3C) (h0 : bit w 0 = false)
    (h1 : bit w 1 = true) (h2 : bit w 2 = false) (hcrown : takesOrHolds s = false) : updCtl h w s
      = (releaseAndReset 6 { s with keep := { s.keep with reason := 4, recoverAsked := true } }, stOk) := by
  simp [updCtl, hkey, h0, h1, h2, hcrown, done]

/-- A reset leaves the recovery reason and request in the keep domain. -/
theorem releaseAndReset_keep (code : Nat) (s : State) : (releaseAndReset code s).keep.reason = s.keep.reason
    ∧ (releaseAndReset code s).keep.recoverAsked = s.keep.recoverAsked ∧ (releaseAndReset code s).keep.testRec = s.keep.testRec := by
  obtain ⟨b, srcs, widest, cause, hkeep⟩ := moduleReset_keep [code] (send .release s)
  have hsent : (send .release s).keep = s.keep := by simp
  rw [hsent] at hkeep
  have hreason := congrArg Keep.reason hkeep
  have hasked := congrArg Keep.recoverAsked hkeep
  have hrecord := congrArg Keep.testRec hkeep
  exact ⟨hreason, hasked, hrecord⟩

/-- A cold reset from READY: stage HOLD begins and SW_COLD is the current source. -/
theorem releaseAndReset_cold {s : State} (hready : s.rst.stage = .ready) : (releaseAndReset 6 s).rst.cur = 6
    ∧ (releaseAndReset 6 s).rst.stage = .hold ∧ (releaseAndReset 6 s).store = s.store := by
  obtain ⟨-, hcur, hstage, -, hstore⟩ := releaseAndReset_leaves 6 s
  rw [resetSource_of_ready [6] hready] at hcur
  exact ⟨hcur, hstage, hstore⟩

/-- Settles O54, control by control and message by message. -/
theorem updateControlAndPartner : Obligations.UpdateControlAndPartner := by
  unfold Obligations.UpdateControlAndPartner
  refine ⟨fun t h src s u hu hserved hlock => ?abort, fun t h s u hu hserved hcrown => ⟨fun hdue hidle => ?restart, fun hready => ?recover⟩,
    fun t s u hu hrec htime hsync => ?request, fun t x item reason ver s u hu hsound hready hfirst => ?requested,
    fun t s u hu hready htime hsync => ?pairSend, fun t x ver level least s u hu hsound hready => ?pairInfo⟩
  case abort =>
    have hexec : exec (.updCtlAbort t h) s = .next (hostWrite h 0x110020 (updCtl h 1) u) := by
      rw [← writeUpdCtl_of_idle (.inr (by decide)), hu]
      rfl
    obtain ⟨p, hstate, hanswer⟩ := hostWrite_of_result h hserved (updCtl_abort (w := 1) h u (by decide) (by decide)) (by simp)
    have hupd := abortSession_upd updHost hlock
    rw [hstate] at hexec
    refine ⟨_, hexec, hanswer, congrArg Upd.phase hupd, congrArg Upd.lock hupd, congrArg Upd.last hupd, ?_, ?_⟩ <;> simp
  case restart =>
    have hexec : exec (.updCtlRestart t h 0x5A3C) s = .next (hostWrite h 0x110020 (updCtl h (keyed 0x5A3C 4)) u) := by
      rw [← writeUpdCtl_of_idle (.inl hidle), hu]
      rfl
    obtain ⟨p, hstate, hanswer⟩ := hostWrite_of_result h hserved 
      (updCtl_restart (w := keyed 0x5A3C 4) h (by decide) (by decide) (by decide) (by decide) hcrown hdue) rfl
    exact ⟨p, hexec.trans (congrArg _ hstate), hanswer⟩
  case recover =>
    have hexec : exec (.updCtlRecover t h 0x5A3C) s = .next (hostWrite h 0x110020 (updCtl h (keyed 0x5A3C 2)) u) := by
      rw [← writeUpdCtl_of_idle (.inr (by decide)), hu]
      rfl
    have hresult := updCtl_recover (w := keyed 0x5A3C 2) h (by decide) (by decide) (by decide) (by decide) hcrown
    rw [hostWrite_of_closed h hserved (by rw [hresult]; rfl), hresult] at hexec
    obtain ⟨hcur, hstage, hstore⟩ := releaseAndReset_cold
      (s := { u with keep := { u.keep with reason := 4, recoverAsked := true } }) hready
    obtain ⟨hreason, hasked, -⟩ := releaseAndReset_keep 6 { u with keep := { u.keep with reason := 4, recoverAsked := true } }
    exact ⟨_, hexec, hcur, hstage, hreason, hasked, rfl, hstore⟩
  case request =>
    have hgo : (u.rst.recovery && passed u.upd.reqAt 100000000 u) = true := by rw [hrec, htime]; rfl
    have hexec : exec (.recoveryReqSend t) s = .next (updSend .partner (recoveryMsg u)
        { u with upd := { u.upd with reqAt := some u.clk.now } }) := by
      simp only [exec, execRecoveryReqSend, ← hu, hgo, if_true]
      rfl
    refine ⟨_, hexec, by simp, ⟨recoveryMsg u, updSend_partner_out _ hsync, recoveryMsg_head u⟩, by simp⟩
  case requested =>
    have hexec : exec (.recoveryReq t x item ver reason) s
        = .next (takeRecoveryReq item.toNat ver reason.toNat (heard x.rank u)) := by
      subst hu
      exact congrArg _ (takeRcv_of_sound hsound _)
    obtain ⟨hseen, hphase, heng, hlane⟩ := takeRecoveryReq_frame (s := heard x.rank u) item.toNat ver reason.toNat hready hfirst
    exact ⟨_, hexec, hseen, hphase, store_of_next rfl hu hexec, heng, hlane⟩
  case pairSend =>
    have hgo : (u.rst.stage == .ready && passed u.upd.pairAt 1000000000 u) = true := by rw [hready, htime]; rfl
    have hexec : exec (.pairInfoSend t) s = .next (updSend .partner
        (updMsg 0x0A 0 0 0 4 u.upd.fwRun.toNat (leBytes 2 u.upd.pairLevel ++ leBytes 2 u.upd.pairMin))
        { u with upd := { u.upd with pairAt := some u.clk.now } }) := by
      simp only [exec, execPairInfoSend, ← hu, hgo, if_true]
    exact ⟨_, hexec, by simp, by simp, updSend_partner_out _ hsync⟩
  case pairInfo =>
    have hheard : ¬ (heard x.rank u).rst.stage ≠ .ready := not_not_intro hready
    simp only [exec, execPairInfo, ← hu, takeRcv_of_sound hsound, hheard, if_false]
    rfl

end Sys2Proof.Machine

/-! The shut-down self-test (R494 to R501): its order, its beginning, its steps and its end. -/
namespace Sys2Proof.Machine

/-! ### The beginning (R494, R495) -/

theorem stCtl_stop {s : State} (h : HostId) (b : Bool) (hcrown : takesOrHolds s = false) (hidle : s.test.running = false)
    (hdue : s.test.due = none) : stCtl h (keyed 0x7E51 (1 + 2 * b2n b)) s
      = ({ s with test := { s.test with due := some s.clk.now, reason := 3, andThen := b } }, stOk) := by
  have hkey : bits (keyed 0x7E51 (1 + 2 * b2n b)) 31 16 = 0x7E51 := by cases b <;> decide
  have h0 : bit (keyed 0x7E51 (1 + 2 * b2n b)) 0 = true := by cases b <;> decide
  have h1 : bit (keyed 0x7E51 (1 + 2 * b2n b)) 1 = b := by cases b <;> decide
  generalize keyed 0x7E51 (1 + 2 * b2n b) = w at *
  simp [stCtl, hkey, h0, h1, hcrown, hidle, hdue, done]

theorem leaveDual_rest (r : Ring) (s : State) : (leaveDual r s).st = s.st ∧ (leaveDual r s).upd = s.upd
    ∧ (leaveDual r s).test = s.test := by
  unfold leaveDual
  dsimp only
  split <;> simp

/-- A module whose crown unit goes OFF keeps its variables, its update session and its test. -/
theorem crownOff_frame (s : State) : (crownOff s).st = s.st ∧ (crownOff s).upd = s.upd ∧ (crownOff s).test = s.test
    ∧ (crownOff s).clk = s.clk ∧ (crownOff s).keep = s.keep ∧ (crownOff s).crown.state = .off := by
  simp [crownOff, quitCrown, leaveDualAll, rings, leaveDual_frame, leaveDual_rest, setCrown_crown]

/-- An aborted session has freed the lock, and so has none. -/
theorem abortSession_lock (status : Nat) (s : State) : (abortSession status s).upd.lock = none := by
  unfold abortSession
  split
  case h_1 hnone => exact hnone
  case h_2 => rfl

/-- The test begins with the crown unit OFF, the rings in repeat-through, the engines stopped and its record begun (R495). -/
theorem startTest_leaves (s : State) : (startTest s).test.state = .running ∧ (startTest s).test.running = true
    ∧ (startTest s).test.due = none ∧ (startTest s).test.step = 1 ∧ (startTest s).crown.state = .off
    ∧ (∀ l, ((startTest s).eng.at l).run = .stopped) ∧ (∀ r, ((startTest s).ring.at r).released = false)
    ∧ (startTest s).upd.lock = none ∧ (startTest s).keep.testRec.done = 0
    ∧ (startTest s).keep.testRec.start = s.clk.lifeUs ∧ (startTest s).st = s.st := by
  simp [startTest, stopEngines, crownOff_frame, abortSession_lock]

/-! ### The steps and the end (R496 to R501) -/

/-- The state with a step's entries in the record and the next step begun. -/
def nextStep (es : List (W32 × W32)) (s : State) : State :=
  { writeEntries es s with test := { s.test with step := s.test.step + 1 } }

/-- A step before the last: the march test of step 3 leaves no DRAM contents, step 5 is the loopback, which its end ends. -/
theorem stepDone_of_lt {es : List (W32 × W32)} {s : State} (hstep : s.test.step < 6) : stepDone es s =
    if s.test.step = 3 then { nextStep es s with
      ret := ⟨{}, {}, {}⟩, lane := s.lane.map (fun _ r => { r with fwCopy := false }) }
    else if s.test.step = 4 then startLoop (nextStep es s)
    else if s.test.step = 5 then endLoop (nextStep es s)
    else nextStep es s := by
  have hnot : ¬ 6 ≤ s.test.step := Nat.not_le.mpr hstep
  simp only [stepDone, hnot, if_false]
  rfl

theorem quad_all_false (r : Ring) : (⟨false, false, false, false⟩ : Quad Bool).at r = false := by
  simp [Quad.at]

/-- What a step before the last leaves. -/
theorem stepDone_leaves {es : List (W32 × W32)} {s : State} (hstep : s.test.step < 6) :
    (stepDone es s).test.step = s.test.step + 1
      ∧ (stepDone es s).keep.testRec.entries = s.keep.testRec.entries ++ es.take (stepEntries s.test.step)
      ∧ (s.test.step = 3 → (stepDone es s).ret = ⟨{}, {}, {}⟩) ∧ (s.test.step ≠ 3 → (stepDone es s).ret = s.ret)
      ∧ (∀ r, (stepDone es s).test.looped.at r
          = if s.test.step = 4 then loops s r else if s.test.step = 5 then false else s.test.looped.at r)
      ∧ (stepDone es s).eng = s.eng := by
  rw [stepDone_of_lt hstep]
  by_cases h3 : s.test.step = 3
  · rw [if_pos h3]
    have h4 : s.test.step ≠ 4 := by omega
    have h5 : s.test.step ≠ 5 := by omega
    exact ⟨rfl, rfl, fun _ => rfl, absurd h3, fun r => by rw [if_neg h4, if_neg h5]; rfl, rfl⟩
  · rw [if_neg h3]
    by_cases h4 : s.test.step = 4
    · rw [if_pos h4]
      exact ⟨rfl, rfl, fun h => absurd h h3, fun _ => rfl, fun r => by rw [if_pos h4]; exact Quad.at_map .., rfl⟩
    · rw [if_neg h4]
      by_cases h5 : s.test.step = 5
      · rw [if_pos h5]
        exact ⟨rfl, rfl, fun h => absurd h h3, fun _ => rfl, fun r => by rw [if_neg h4, if_pos h5]; exact quad_all_false r, rfl⟩
      · rw [if_neg h5]
        exact ⟨rfl, rfl, fun h => absurd h h3, fun _ => rfl, fun r => by rw [if_neg h4, if_neg h5]; rfl, rfl⟩

/-- The last step: the record is complete, and its verdict is the test's (R501). -/
theorem stepDone_of_le {es : List (W32 × W32)} {s : State} (hstep : 6 ≤ s.test.step) :
    stepDone es s = completeTest (writeEntries es s) := if_pos hstep

/-- The state of the last step, its record complete. -/
def completed (s : State) : State :=
  let w := { s with keep := { s.keep with testRec := { s.keep.testRec with stop := s.clk.lifeUs, done := doneMark } } }
  bumpCounter 7 (endTest 1 s.keep.testRec.entries w)

theorem completeTest_eq (s : State) : completeTest s = finishTest (completed s) := rfl

theorem completed_leaves (s : State) : (completed s).keep.testRec = { s.keep.testRec with stop := s.clk.lifeUs, done := doneMark }
    ∧ (completed s).test.result = testVerdict s.upd.fwRun s.keep.testRec.entries
    ∧ (completed s).test.andThen = s.test.andThen ∧ (completed s).rst = s.rst := by
  simp [completed, bumpCounter, endTest]

theorem exec_selftestStepDone {t : Nat} {s u : State} (es : List (W32 × W32)) (hu : u = elapse t s)
    (hrunning : u.test.state = .running) : exec (.selftestStepDone t es) s = .next (stepDone es u) := by
  simp only [exec, execSelftestStepDone, ← hu, hrunning, if_true]

/-- Settles O55, from the stop to the verdict. -/
theorem shutDownSelfTest : Obligations.ShutDownSelfTest := by
  unfold Obligations.ShutDownSelfTest
  refine ⟨fun t h b s u hu hserved hcrown hidle hdue => ?stop, fun t s u hu hmay => ?start, fun t es s u hu hrunning =>
    ⟨fun hstep => ?step, fun hlast hstop => ?stopped, fun hlast hrestart hready => ?restarted, fun hready hsilent => ?cut⟩,
    fun t x s u hu hloop htime => ?loopback⟩
  case stop =>
    obtain ⟨p, hstate, hanswer⟩ := hostWrite_of_result h hserved (stCtl_stop h b hcrown hidle hdue) rfl
    have hexec : exec (.stStop t h 0x7E51 b) s = .next (hostWrite h 0x120004 (stCtl h (keyed 0x7E51 (1 + 2 * b2n b))) u) := by
      rw [hu]
      rfl
    exact ⟨p, hexec.trans (congrArg _ hstate), hanswer⟩
  case start =>
    have hexec : exec (.selftestStart t) s = .next (startTest u) := by
      simp only [exec, execSelftestStart, ← hu, hmay, if_true]
    obtain ⟨hstate, hrun, hdue, hone, hcrown, heng, hring, hlock, hdone, hstart, hst⟩ := startTest_leaves u
    exact ⟨_, hexec, hstate, hrun, hdue, hone, hcrown, heng, hring, hlock, hdone, hstart, hst, store_of_next rfl hu hexec⟩
  case step =>
    have hexec := exec_selftestStepDone es hu hrunning
    obtain ⟨hnext, hentries, hmarch, hother, hloop, heng⟩ := stepDone_leaves (es := es) hstep
    exact ⟨_, hexec, hnext, hentries, hmarch, hother, hloop, store_of_next rfl hu hexec, heng⟩
  case stopped =>
    have hexec := exec_selftestStepDone es hu hrunning
    have hstore := store_of_next rfl hu hexec
    obtain ⟨hrecord, hresult, hand, -⟩ := completed_leaves (writeEntries es u)
    rw [stepDone_of_le hlast, completeTest_eq, finishTest, if_neg (Bool.eq_false_iff.mp (hand.trans hstop))] at hexec hstore
    refine ⟨_, hexec, rfl, congrArg TestRec.done hrecord, congrArg TestRec.stop hrecord, ?_, hstore⟩
    have hentries := congrArg TestRec.entries hrecord
    exact hresult.trans (congrArg _ hentries.symm)
  case restarted =>
    have hexec := exec_selftestStepDone es hu hrunning
    obtain ⟨hrecord, -, hand, hrst⟩ := completed_leaves (writeEntries es u)
    rw [stepDone_of_le hlast, completeTest_eq, finishTest, if_pos (hand.trans hrestart)] at hexec
    obtain ⟨hcur, hstage, -⟩ := releaseAndReset_cold (s := completed (writeEntries es u)) (by rw [hrst]; exact hready)
    obtain ⟨-, -, hkept⟩ := releaseAndReset_keep 6 (completed (writeEntries es u))
    exact ⟨_, hexec, hcur, hstage, congrArg TestRec.done (hkept.trans hrecord)⟩
  case cut =>
    have hexec : exec (.selftestCutShort t) s = .next (releaseAndReset 6 (endTest 1 u.keep.testRec.entries u)) := by
      simp only [exec, execSelftestCutShort, ← hu, hrunning, hsilent, and_self, if_true]
    obtain ⟨hcur, hstage, -⟩ := releaseAndReset_cold (s := endTest 1 u.keep.testRec.entries u) (by simpa using hready)
    obtain ⟨-, -, hkept⟩ := releaseAndReset_keep 6 (endTest 1 u.keep.testRec.entries u)
    exact ⟨_, hexec, hcur, hstage, hkept.trans (by simp)⟩
  case loopback =>
    have hgo : (u.test.loopAt.isSome && passed u.test.loopAt 10000000 u) = true := by simp [hloop, passed, htime]
    simp only [exec, execLoopbackEnd, ← hu, hgo, if_true]
    rfl

end Sys2Proof.Machine

/-! The end of a persisting injection (R510). -/
namespace Sys2Proof.Machine

/-- A persisting wrong seal of lane A, whose program cycles have passed. -/
def wrongSealOver : State :=
  { State.reset with test := { State.reset.test with
      inj := some { point := 0x0501, lane := 0, arg := 0, ends := 0 }, sealWrong := ⟨true, false, false⟩ } }

/-- The end of a wrong seal's injection rights the seal of its lane. -/
theorem endInjection_seal {i : Inject} {s : State} (hpoint : i.point = 0x0501) :
    (endInjection i s).test.sealWrong = s.test.sealWrong.put (Lane.ofNum i.lane) false := by
  simp [endInjection, hpoint]

/-- Refutes O56 by its fourth clause, which has the end of an injection clear nothing but the injection itself. At
`wrongSealOver` the model also ends the fault: lane A's seals are right again (R510). -/
theorem not_authorisedTests : ¬ Obligations.AuthorisedTests := by
  unfold Obligations.AuthorisedTests
  rintro ⟨-, -, -, hends, -⟩
  have hexec := hends 0 { point := 0x0501, lane := 0, arg := 0, ends := 0 } wrongSealOver (elapse 0 wrongSealOver) rfl rfl
    (by decide) (by decide)
  have hstate : endInjection { point := 0x0501, lane := 0, arg := 0, ends := 0 } (elapse 0 wrongSealOver)
      = { elapse 0 wrongSealOver with test := { (elapse 0 wrongSealOver).test with inj := none } } :=
    Host.Outcome.next.inj hexec
  have hkept := congrArg (fun s => s.test.sealWrong.a) hstate
  rw [endInjection_seal rfl] at hkept
  exact absurd hkept (by decide)

end Sys2Proof.Machine
